-- ==== Sys2Proof/Word.lean ====
section
/-! DEFINITION. The word types of the machine (00_scope.md R11, R12): bytes, dwords, quadwords, 512-bit rows. -/

namespace Sys2Proof

/-- A byte (R11). -/
abbrev Byte := BitVec 8
/-- A 32-bit doubleword (R11). -/
abbrev W32 := BitVec 32
/-- A 64-bit quadword (R11). -/
abbrev W64 := BitVec 64
/-- A 512-bit vector register or one 64-byte tile row (R38, R42). -/
abbrev W512 := BitVec 512

end Sys2Proof
end

