-- ==== Sys2Proof/Config.lean ====
section
/-! DEFINITION. The configuration record `Cfg` of 00_scope.md R10 (what one implementation fixes), and the FREE VALUES:
constants without a body, so that no proof can rest on what they are (93_implementation_defined.md part 1). -/

namespace Sys2Proof

/-- Memory types (R128). -/
inductive MemType where
  | uc | wc | wt | wp | wb
  deriving DecidableEq, Repr

/-- One row of the CPUID answer table (R10, R221); `sub = none` answers every sub-leaf input. -/
structure CpuidRow where
  leaf : Nat
  sub : Option Nat
  eax : W32
  ebx : W32
  ecx : W32
  edx : W32
  deriving DecidableEq, Repr

/-- What `Translate` answers for one linear page (R124, D2): its frame and the accesses each privilege may make. -/
structure PageEntry where
  page : Nat
  frame : Nat
  present : Bool
  userRead : Bool
  userWrite : Bool
  userExec : Bool
  superRead : Bool
  superWrite : Bool
  superExec : Bool
  deriving DecidableEq, Repr

/-- An MSR as the configuration describes it (R10, R67): its address, what a write may not set, what it does not implement. Of an MSR
that the spec defines it gives only the reserved bits, where no rule fixes them. -/
structure MsrDesc where
  addr : Nat
  reserved : W64
  unimplemented : W64
  readOnly : Bool
  deriving DecidableEq, Repr

/-- `Cfg` (R10): everything the architecture leaves to the implementation and fixes for a run. -/
structure Cfg where
  /-- `Cfg.cpuid` (D13). -/
  cpuid : List CpuidRow
  /-- `Cfg.microcode_rev` (R223). -/
  microcodeRev : W32
  /-- IA32_PERF_CAPABILITIES (R56). -/
  perfCapabilities : W64
  /-- IA32_VMX_PROCBASED_CTLS3 (R62). -/
  vmxProcbasedCtls3 : W64
  /-- IA32_TSE_CAPABILITY (R49). -/
  tseCapability : W64
  /-- IA32_TME_CAPABILITY (R67). -/
  tmeCapability : W64
  /-- IA32_ARCH_CAPABILITIES (R67). -/
  archCapabilities : W64
  /-- `Cfg.pebs2gpa_bit` (R795): the tertiary control's lost bit number. -/
  pebs2gpaBit : Nat
  /-- `Cfg.pbndkb_other_failures` (D23). -/
  pbndkbFailures : List W32
  /-- reserved bits of IA32_UARCH_MISC_CTL (R48). -/
  uarchMiscReserved : W64
  /-- physical frames whose memory type is not WB (D21). -/
  memTypes : List (Nat × MemType)
  /-- `Translate` (D2): linear pages that are not mapped to themselves with every access allowed. -/
  pages : List PageEntry
  /-- guest-physical frames not mapped to themselves (R795). -/
  ept : List (Nat × Nat)
  /-- Processor Reserved Memory as pairs of base and size (R796). -/
  prmrr : List (Nat × Nat)
  /-- the MSRs named without fields (R67) and `Cfg.msr_exists` for them (D14), and `Cfg.msr_reserved_mask` (R10). -/
  msrs : List MsrDesc
  deriving DecidableEq, Repr

namespace Config

/-! ### Free values. Each is applied to the model's draw counter, or to the operands the value depends on. -/

/-- NaN payload of an AMX floating-point result (D28, I18): the model sets the quiet bits on top of it. -/
opaque amxQnan (acc x y : W32) : W32
/-- Whether the hardware RNG has enough entropy (R450). -/
opaque rngOk (draw : Nat) : Bool
/-- What the hardware RNG delivers (R450). -/
opaque rngBits (draw : Nat) : W512
/-- Which platform-specific failure PBNDKB meets, if any (D23). -/
opaque pbndkbFailure (draw : Nat) : Option Nat
/-- Whether the platform lock of a key table is free (R479, D24). -/
opaque tryLock (draw : Nat) : Bool
/-- `Cfg.platform_key` (R450). -/
opaque platformKey : BitVec 256
/-- HMAC_SHA256 (R450): key and message of 32 bytes. -/
opaque hmacSha256 (key msg : BitVec 256) : BitVec 256
/-- The AES-256-GCM key stream for one key and IV (R450). -/
opaque gcmStream (key : BitVec 256) (iv : BitVec 96) : BitVec 512
/-- The AES-256-GCM tag of the additional data and the ciphertext (R450). -/
opaque gcmTag (key : BitVec 256) (iv : BitVec 96) (aad : BitVec 1408) (ct : BitVec 512) : BitVec 128
/-- By how much a scaled deadline lies above the smallest one (R859: "an implementation-chosen nearby" value). -/
opaque deadlineSlack (virtual offset multiplier : W64) : Nat
/-- A scaled deadline where the conversion has no inverse: multiplier 0, or no 64-bit time-stamp counter value (R859). -/
opaque deadlineWithoutInverse (virtual offset multiplier : W64) : W64
/-- AF after XOR, which the spec does not state (95_test_vectors.md Part C). -/
opaque xorAuxiliary (draw : Nat) : Bool
/-- Whether a posted RAO update is performed at this boundary (R130, I17). -/
opaque raoPerforms (draw : Nat) : Bool
/-- By how much more than one the TSC advances in a step (D17, I19). -/
opaque tscStep (draw : Nat) : Nat
/-- Whether a monitorless MWAIT triggers the monitor (D26). -/
opaque monitorlessTriggers (draw : Nat) : Bool
/-- Whether MOV SS, POP SS or STI blocks a user-timer event for one instruction (R843, footnote 1). -/
opaque shadowBlocks (draw : Nat) : Bool
/-- Whether MONITOR arms on memory that is not write-back (R128, R530). -/
opaque monitorArms (draw : Nat) : Bool
/-- The monitored line size, between the two limits of CPUID leaf 05H (R65, I8). -/
opaque monitorLineSize (smallest largest : Nat) : Nat
/-- Unimplemented bit positions of an MSR read (R500, U1). -/
opaque msrUnimplemented (addr draw : Nat) : W64
/-- Undefined bits of the VM-exit instruction information (R507, U2), and all of it for RDMSR and WRMSRNS, where the spec says
nothing (R501). -/
opaque exitInfoBits (draw : Nat) : W32
/-- Whether a reserved trigger input fires (R743, U3). -/
opaque reservedTriggerFires (unit draw : Nat) : Bool
/-- TRBV of a TRIG packet when a unit above 7 fired (R748: how such units are reported is not stated). -/
opaque triggerVector (draw : Nat) : Byte
/-- Whether base Intel PT, which is not in the source, sent a packet with an IP indication over one instruction (R749). -/
opaque ptIndication (draw : Nat) : Bool
/-- Whether a guest-timer event aborts a transaction (R857, I14). -/
opaque guestTimerAborts (draw : Nat) : Bool
/-- The exit information of a transactional abort that is loaded into EAX (R875). -/
opaque tsxAbortStatus (draw : Nat) : W32
/-- How often a running performance counter counts over one instruction (R800). -/
opaque pmcIncrement (counter draw : Nat) : Nat
/-- Whether a code or data breakpoint register matches over one instruction (D33). -/
opaque breakpointMatches (dr draw : Nat) : Bool
/-- Which of the addresses that the eventing instruction accessed a PEBS record holds, counted from 1; 0 and numbers beyond the
last one stand for the value zero (R786). -/
opaque pebsMemoryChoice (draw : Nat) : Nat
/-- A named reserved field of the PEBS auxiliary group (R785). -/
opaque pebsAuxField (field draw : Nat) : W64
/-- Whether a reserved field of a PEBS record is written, as 0, or left as it is (R777, V7). -/
opaque pebsReservedWritten (field draw : Nat) : Bool
/-- Whether an overflow that finds IA32_PEBS_INDEX.FULL set stays pending (R781). -/
opaque pebsFullKeeps (counter draw : Nat) : Bool
/-- The Retire Latency field of a PEBS record (R784, I13). -/
opaque pebsRetireLatency (draw : Nat) : W64
/-- XSTATE_BV/TS of the PEBS XER group where IA32_XFD or CR0.TS is to be folded in, which is not defined (R788). -/
opaque pebsXstateBv (xcr0 xfd : W64) (ts : Bool) (draw : Nat) : W64
/-- Whether an XSAVE component whose registers hold their INIT values is in use all the same (R789, I12). -/
opaque xinuse (component draw : Nat) : Bool

end Config

end Sys2Proof
end

