-- ==== Sys2Proof/Syntax.lean ====
section
/-! DEFINITION. Instructions as data: one constructor of `Instr` for each row of spec/opcode_table.json (R185), its
operands as the opcode tables name them (30_encoding.md R167, R176). Raw encodings do not appear here. -/

namespace Sys2Proof

/-- The sixteen general registers in the numbering of R31. -/
inductive Gpr where
  | rax | rcx | rdx | rbx | rsp | rbp | rsi | rdi
  | r8 | r9 | r10 | r11 | r12 | r13 | r14 | r15
  deriving DecidableEq, Repr

/-- Segment registers named by an override (R161). -/
inductive Seg where
  | es | cs | ss | ds | fs | gs
  deriving DecidableEq, Repr

/-- Address sizes (R122, R163). -/
inductive AddrSize where
  | a16 | a32 | a64
  deriving DecidableEq, Repr

/-- What a ModRM/SIB memory operand has as its base (R163). -/
inductive MemBase where
  | none
  | reg (g : Gpr)
  | rip
  deriving DecidableEq, Repr

/-- A memory operand as ModRM, SIB, displacement and prefixes give it (R122, R163, R171). `scale` is the shift count;
`disp` is the displacement, sign-extended and already multiplied by N where disp8*N applies (R168). -/
structure MemOp where
  seg : Option Seg
  asz : AddrSize
  base : MemBase
  index : Option Gpr
  scale : Fin 4
  disp : W32
  deriving DecidableEq, Repr

/-- An 8-bit register operand (R421): the low byte of any register, or one of AH, CH, DH, BH. -/
inductive Reg8 where
  | low (g : Gpr)
  | ah | ch | dh | bh
  deriving DecidableEq, Repr

/-- Operand size of `rv` (R172). -/
inductive OpSize where
  | o16 | o32 | o64
  deriving DecidableEq, Repr

/-- Operand size of `ry` (R172). -/
inductive RaoSize where
  | o32 | o64
  deriving DecidableEq, Repr

/-- A vector register or memory operand of VSM4KEY4 and VSM4RNDS4. -/
inductive VecSrc where
  | reg (r : Fin 32)
  | mem (m : MemOp)
  deriving DecidableEq, Repr

/-- A vector register number (R38). -/
abbrev VReg := Fin 32
/-- A tile register number as encoded (R581, D29): numbers from 8 up exist in encodings only. -/
abbrev Tmm := Fin 32
/-- An opmask register number, 0 meaning no mask (R39). -/
abbrev KReg := Fin 8

/-- One constructor per row of spec/opcode_table.json, in the table's order. -/
inductive Instr where
  /-- CPUID: 0F A2 (R220). -/
  | cpuid
  /-- AADD: NP 0F38 FC (R401, R408 to R411). -/
  | aadd (sz : RaoSize) (m : MemOp) (r : Gpr)
  /-- AAND: 66 0F38 FC (R401, R408 to R411). -/
  | aand (sz : RaoSize) (m : MemOp) (r : Gpr)
  /-- AOR: F2 0F38 FC (R401, R408 to R411). -/
  | aor (sz : RaoSize) (m : MemOp) (r : Gpr)
  /-- AXOR: F3 0F38 FC (R401, R408 to R411). -/
  | axor (sz : RaoSize) (m : MemOp) (r : Gpr)
  /-- MOVRS: NOREP 0F38 8A, r8, m8 (R421). -/
  | movrsB (d : Reg8) (m : MemOp)
  /-- MOVRS: NOREP 0F38 8B, rv, mv (R422). -/
  | movrsV (sz : OpSize) (d : Gpr) (m : MemOp)
  /-- VMOVRSB: EVEX.128.F2.W0 MAP5 6F (R424). -/
  | vmovrsB128 (d : VReg) (k : KReg) (z : Bool) (m : MemOp)
  /-- VMOVRSB: EVEX.256.F2.W0 MAP5 6F (R424). -/
  | vmovrsB256 (d : VReg) (k : KReg) (z : Bool) (m : MemOp)
  /-- VMOVRSB: EVEX.512.F2.W0 MAP5 6F (R424). -/
  | vmovrsB512 (d : VReg) (k : KReg) (z : Bool) (m : MemOp)
  /-- VMOVRSW: EVEX.128.F2.W1 MAP5 6F (R424). -/
  | vmovrsW128 (d : VReg) (k : KReg) (z : Bool) (m : MemOp)
  /-- VMOVRSW: EVEX.256.F2.W1 MAP5 6F (R424). -/
  | vmovrsW256 (d : VReg) (k : KReg) (z : Bool) (m : MemOp)
  /-- VMOVRSW: EVEX.512.F2.W1 MAP5 6F (R424). -/
  | vmovrsW512 (d : VReg) (k : KReg) (z : Bool) (m : MemOp)
  /-- VMOVRSD: EVEX.128.F3.W0 MAP5 6F (R424). -/
  | vmovrsD128 (d : VReg) (k : KReg) (z : Bool) (m : MemOp)
  /-- VMOVRSD: EVEX.256.F3.W0 MAP5 6F (R424). -/
  | vmovrsD256 (d : VReg) (k : KReg) (z : Bool) (m : MemOp)
  /-- VMOVRSD: EVEX.512.F3.W0 MAP5 6F (R424). -/
  | vmovrsD512 (d : VReg) (k : KReg) (z : Bool) (m : MemOp)
  /-- VMOVRSQ: EVEX.128.F3.W1 MAP5 6F (R424). -/
  | vmovrsQ128 (d : VReg) (k : KReg) (z : Bool) (m : MemOp)
  /-- VMOVRSQ: EVEX.256.F3.W1 MAP5 6F (R424). -/
  | vmovrsQ256 (d : VReg) (k : KReg) (z : Bool) (m : MemOp)
  /-- VMOVRSQ: EVEX.512.F3.W1 MAP5 6F (R424). -/
  | vmovrsQ512 (d : VReg) (k : KReg) (z : Bool) (m : MemOp)
  /-- PREFETCHRST2: 0F 18 /4 (R432). -/
  | prefetchrst2 (m : MemOp)
  /-- PBNDKB: NP 0F 01 C7 (R452). -/
  | pbndkb
  /-- PCONFIG: NP 0F 01 C5 (R470). -/
  | pconfig
  /-- RDMSR: 0F 32 (R501). -/
  | rdmsr
  /-- RDMSR: VEX.128.F2.MAP7.W0 F6 (R502). -/
  | rdmsrImm (d : Gpr) (imm : W32)
  /-- RDMSR: EVEX.128.F2.MAP7.W0 F6 (R503). -/
  | rdmsrImmApx (d : Gpr) (imm : W32)
  /-- URDMSR: F2 0F38 F8 11:rrr:bbb, data register bbb, address register rrr (R505). -/
  | urdmsr (d a : Gpr)
  /-- URDMSR: VEX.128.F2.MAP7.W0 F8 (R505). -/
  | urdmsrImm (d : Gpr) (imm : W32)
  /-- UWRMSR: F3 0F38 F8 11:rrr:bbb, address register rrr, data register bbb (R510). -/
  | uwrmsr (a v : Gpr)
  /-- UWRMSR: VEX.128.F3.MAP7.W0 F8 (R510). -/
  | uwrmsrImm (imm : W32) (v : Gpr)
  /-- WRMSRNS: NP 0F 01 C6 (R520). -/
  | wrmsrns
  /-- WRMSRNS: VEX.128.F3.MAP7.W0 F6 (R521). -/
  | wrmsrnsImm (imm : W32) (v : Gpr)
  /-- WRMSRNS: EVEX.128.F3.MAP7.W0 F6 (R521). -/
  | wrmsrnsImmApx (imm : W32) (v : Gpr)
  /-- MWAIT: 0F 01 C9 (R530). -/
  | mwait
  /-- MONITOR: 0F 01 C8 (R536): the address is DS:rAX, which an override and 67H may change. -/
  | monitor (seg : Option Seg) (asz : AddrSize)
  /-- VSM4KEY4: VEX.128.F3.0F38.W0 DA (R543). -/
  | vsm4Key4Vex128 (d s1 : VReg) (s2 : VecSrc)
  /-- VSM4KEY4: VEX.256.F3.0F38.W0 DA (R543). -/
  | vsm4Key4Vex256 (d s1 : VReg) (s2 : VecSrc)
  /-- VSM4KEY4: EVEX.128.F3.0F38.W0 DA (R543). -/
  | vsm4Key4Evex128 (d s1 : VReg) (s2 : VecSrc)
  /-- VSM4KEY4: EVEX.256.F3.0F38.W0 DA (R543). -/
  | vsm4Key4Evex256 (d s1 : VReg) (s2 : VecSrc)
  /-- VSM4KEY4: EVEX.512.F3.0F38.W0 DA (R543). -/
  | vsm4Key4Evex512 (d s1 : VReg) (s2 : VecSrc)
  /-- VSM4RNDS4: VEX.128.F2.0F38.W0 DA (R544). -/
  | vsm4Rnds4Vex128 (d s1 : VReg) (s2 : VecSrc)
  /-- VSM4RNDS4: VEX.256.F2.0F38.W0 DA (R544). -/
  | vsm4Rnds4Vex256 (d s1 : VReg) (s2 : VecSrc)
  /-- VSM4RNDS4: EVEX.128.F2.0F38.W0 DA (R544). -/
  | vsm4Rnds4Evex128 (d s1 : VReg) (s2 : VecSrc)
  /-- VSM4RNDS4: EVEX.256.F2.0F38.W0 DA (R544). -/
  | vsm4Rnds4Evex256 (d s1 : VReg) (s2 : VecSrc)
  /-- VSM4RNDS4: EVEX.512.F2.0F38.W0 DA (R544). -/
  | vsm4Rnds4Evex512 (d s1 : VReg) (s2 : VecSrc)
  /-- LDTILECFG: VEX.128.NP.0F38.W0 49 !(11):000:bbb (R597). -/
  | ldtilecfg (m : MemOp)
  /-- STTILECFG: VEX.128.66.0F38.W0 49 !(11):000:bbb (R598). -/
  | sttilecfg (m : MemOp)
  /-- TILERELEASE: VEX.128.NP.0F38.W0 49 C0 (R599). -/
  | tilerelease
  /-- TILEZERO: VEX.128.F2.0F38.W0 49 11:rrr:000 (R600). -/
  | tilezero (t : Tmm)
  /-- TILELOADD: VEX.128.F2.0F38.W0 4B (R601). -/
  | tileloadd (t : Tmm) (m : MemOp)
  /-- TILELOADDT1: VEX.128.66.0F38.W0 4B (R601). -/
  | tileloaddT1 (t : Tmm) (m : MemOp)
  /-- TILESTORED: VEX.128.F3.0F38.W0 4B (R602). -/
  | tilestored (m : MemOp) (t : Tmm)
  /-- T2RPNTLVWZ0: VEX.128.NP.0F38.W0 6E (R605). -/
  | t2rpntlvwZ0 (t : Tmm) (m : MemOp)
  /-- T2RPNTLVWZ0T1: VEX.128.NP.0F38.W0 6F (R606). -/
  | t2rpntlvwZ0T1 (t : Tmm) (m : MemOp)
  /-- T2RPNTLVWZ1: VEX.128.66.0F38.W0 6E (R607). -/
  | t2rpntlvwZ1 (t : Tmm) (m : MemOp)
  /-- T2RPNTLVWZ1T1: VEX.128.66.0F38.W0 6F (R608). -/
  | t2rpntlvwZ1T1 (t : Tmm) (m : MemOp)
  /-- T2RPNTLVWZ0RS: VEX.128.NP.MAP5.W0 F8 (R609). -/
  | t2rpntlvwZ0RS (t : Tmm) (m : MemOp)
  /-- T2RPNTLVWZ0RST1: VEX.128.NP.MAP5.W0 F9 (R610). -/
  | t2rpntlvwZ0RST1 (t : Tmm) (m : MemOp)
  /-- T2RPNTLVWZ1RS: VEX.128.66.MAP5.W0 F8 (R611). -/
  | t2rpntlvwZ1RS (t : Tmm) (m : MemOp)
  /-- T2RPNTLVWZ1RST1: VEX.128.66.MAP5.W0 F9 (R611). -/
  | t2rpntlvwZ1RST1 (t : Tmm) (m : MemOp)
  /-- TILELOADDRS: VEX.128.F2.0F38.W0 4A (R613). -/
  | tileloaddrs (t : Tmm) (m : MemOp)
  /-- TILELOADDRST1: VEX.128.66.0F38.W0 4A (R614). -/
  | tileloaddrsT1 (t : Tmm) (m : MemOp)
  /-- TCMMIMFP16PS: VEX.128.66.0F38.W0 6C (R622). -/
  | tcmmimfp16ps (d s1 s2 : Tmm)
  /-- TCMMRLFP16PS: VEX.128.NP.0F38.W0 6C (R623). -/
  | tcmmrlfp16ps (d s1 s2 : Tmm)
  /-- TCONJTCMMIMFP16PS: VEX.128.NP.0F38.W0 6B (R625). -/
  | tconjtcmmimfp16ps (d s1 s2 : Tmm)
  /-- TCONJTFP16: VEX.128.66.0F38.W0 6B (R626). -/
  | tconjtfp16 (d a : Tmm)
  /-- TCVTROWD2PS: EVEX.512.F3.0F38.W0 4A (R629, R630). -/
  | tcvtrowd2psR (d : VReg) (t : Tmm) (r : Gpr)
  /-- TCVTROWD2PS: EVEX.512.F3.0F3A.W0 07 ib (R629, R630). -/
  | tcvtrowd2psI (d : VReg) (t : Tmm) (imm : Byte)
  /-- TCVTROWPS2PBF16H: EVEX.512.F2.0F38.W0 6D (R631, R632). -/
  | tcvtrowps2pbf16hR (d : VReg) (t : Tmm) (r : Gpr)
  /-- TCVTROWPS2PBF16H: EVEX.512.F2.0F3A.W0 07 ib (R631, R632). -/
  | tcvtrowps2pbf16hI (d : VReg) (t : Tmm) (imm : Byte)
  /-- TCVTROWPS2PBF16L: EVEX.512.F3.0F38.W0 6D (R633, R634). -/
  | tcvtrowps2pbf16lR (d : VReg) (t : Tmm) (r : Gpr)
  /-- TCVTROWPS2PBF16L: EVEX.512.F3.0F3A.W0 77 ib (R633, R634). -/
  | tcvtrowps2pbf16lI (d : VReg) (t : Tmm) (imm : Byte)
  /-- TCVTROWPS2PHH: EVEX.512.NP.0F38.W0 6D (R635, R636). -/
  | tcvtrowps2phhR (d : VReg) (t : Tmm) (r : Gpr)
  /-- TCVTROWPS2PHH: EVEX.512.NP.0F3A.W0 07 ib (R635, R636). -/
  | tcvtrowps2phhI (d : VReg) (t : Tmm) (imm : Byte)
  /-- TCVTROWPS2PHL: EVEX.512.66.0F38.W0 6D (R637, R638). -/
  | tcvtrowps2phlR (d : VReg) (t : Tmm) (r : Gpr)
  /-- TCVTROWPS2PHL: EVEX.512.F2.0F3A.W0 77 ib (R637, R638). -/
  | tcvtrowps2phlI (d : VReg) (t : Tmm) (imm : Byte)
  /-- TDPBF8PS: VEX.128.NP.MAP5.W0 FD (R642). -/
  | tdpbf8ps (d s1 s2 : Tmm)
  /-- TDPBHF8PS: VEX.128.F2.MAP5.W0 FD (R643). -/
  | tdpbhf8ps (d s1 s2 : Tmm)
  /-- TDPHBF8PS: VEX.128.F3.MAP5.W0 FD (R644). -/
  | tdphbf8ps (d s1 s2 : Tmm)
  /-- TDPHF8PS: VEX.128.66.MAP5.W0 FD (R645). -/
  | tdphf8ps (d s1 s2 : Tmm)
  /-- TILEMOVROW: EVEX.512.66.0F3A.W0 07 ib (R647). -/
  | tilemovrowI (d : VReg) (t : Tmm) (imm : Byte)
  /-- TILEMOVROW: EVEX.512.66.0F38.W0 4A (R648). -/
  | tilemovrowR (d : VReg) (t : Tmm) (r : Gpr)
  /-- TMMULTF32PS: VEX.128.66.0F38.W0 48 (R650). -/
  | tmmultf32ps (d s1 s2 : Tmm)
  /-- TTCMMIMFP16PS: VEX.128.F2.0F38.W0 6B (R661). -/
  | ttcmmimfp16ps (d s1 s2 : Tmm)
  /-- TTCMMRLFP16PS: VEX.128.F3.0F38.W0 6B (R662). -/
  | ttcmmrlfp16ps (d s1 s2 : Tmm)
  /-- TTDPBF16PS: VEX.128.F3.0F38.W0 6C (R663). -/
  | ttdpbf16ps (d s1 s2 : Tmm)
  /-- TTDPFP16PS: VEX.128.F2.0F38.W0 6C (R664). -/
  | ttdpfp16ps (d s1 s2 : Tmm)
  /-- TTMMULTF32PS: VEX.128.NP.0F38.W0 48 (R665). -/
  | ttmmultf32ps (d s1 s2 : Tmm)
  /-- TTRANSPOSED: VEX.128.F3.0F38.W0 5F (R690). -/
  | ttransposed (d a : Tmm)
  deriving DecidableEq, Repr

end Sys2Proof
end

