-- ==== Sys2Proof/WellFormed.lean ====
section
/-! DEFINITION. Which instructions have an encoding in 64-bit mode (R162 to R171): the checks that `encode` relies on. -/

namespace Sys2Proof

/-- A memory operand that ModRM and SIB can name in 64-bit mode (R163): RSP is no index, a scale needs an index,
RIP-relative forms have no index, and there is no 16-bit address size. -/
def MemOp.wf (m : MemOp) : Bool :=
  (m.asz != .a16) && (m.index != some .rsp) && (m.index.isSome || m.scale == 0)
    && (m.base != .rip || m.index.isNone)

/-- A sibmem operand (R171): a SIB byte is required, so RIP-relative addressing cannot be encoded. -/
def MemOp.wfSib (m : MemOp) : Bool := m.wf && (m.base != .rip)

/-- A register that needs a REX or VEX extension bit (R162). -/
def Gpr.extended : Gpr → Bool
  | .r8 | .r9 | .r10 | .r11 | .r12 | .r13 | .r14 | .r15 => true
  | _ => false

/-- A memory operand whose encoding needs a REX prefix (R162). -/
def MemOp.needsRex (m : MemOp) : Bool :=
  (match m.base with | .reg g => g.extended | _ => false) || (match m.index with | some g => g.extended | none => false)

/-- AH, CH, DH and BH cannot be named beside a REX prefix (R421). -/
def Reg8.wfWith (d : Reg8) (m : MemOp) : Bool :=
  match d with
  | .low _ => true
  | _ => !m.needsRex

/-- A tile or vector register number that VEX can name: four bits (R164, R581). -/
def vexReg (r : Fin 32) : Bool := r.val < 16

/-- A vector source whose register number VEX can name. -/
def VecSrc.wfVex : VecSrc → Bool
  | .reg r => vexReg r
  | .mem m => m.wf

/-- A vector source of an EVEX form: any of 32 registers (R165). -/
def VecSrc.wfEvex : VecSrc → Bool
  | .reg _ => true
  | .mem m => m.wf

/-- Zeroing-masking needs a mask (R424). -/
def maskOk (k : KReg) (z : Bool) : Bool := !z || k != 0

/-- The instruction has an encoding in 64-bit mode. -/
def Instr.wf (i : Instr) : Bool :=
  match i with
  | .cpuid => true
  | .aadd _ m _ => m.wf
  | .aand _ m _ => m.wf
  | .aor _ m _ => m.wf
  | .axor _ m _ => m.wf
  | .movrsB d m => m.wf && d.wfWith m
  | .movrsV _ _ m => m.wf
  | .vmovrsB128 _ k z m => m.wf && maskOk k z
  | .vmovrsB256 _ k z m => m.wf && maskOk k z
  | .vmovrsB512 _ k z m => m.wf && maskOk k z
  | .vmovrsW128 _ k z m => m.wf && maskOk k z
  | .vmovrsW256 _ k z m => m.wf && maskOk k z
  | .vmovrsW512 _ k z m => m.wf && maskOk k z
  | .vmovrsD128 _ k z m => m.wf && maskOk k z
  | .vmovrsD256 _ k z m => m.wf && maskOk k z
  | .vmovrsD512 _ k z m => m.wf && maskOk k z
  | .vmovrsQ128 _ k z m => m.wf && maskOk k z
  | .vmovrsQ256 _ k z m => m.wf && maskOk k z
  | .vmovrsQ512 _ k z m => m.wf && maskOk k z
  | .prefetchrst2 m => m.wf
  | .pbndkb => true
  | .pconfig => true
  | .rdmsr => true
  | .rdmsrImm _ _ => true
  | .rdmsrImmApx _ _ => true
  | .urdmsr _ _ => true
  | .urdmsrImm _ _ => true
  | .uwrmsr _ _ => true
  | .uwrmsrImm _ _ => true
  | .wrmsrns => true
  | .wrmsrnsImm _ _ => true
  | .wrmsrnsImmApx _ _ => true
  | .mwait => true
  | .monitor _ asz => asz != .a16
  | .vsm4Key4Vex128 d s1 s2 => vexReg d && vexReg s1 && s2.wfVex
  | .vsm4Key4Vex256 d s1 s2 => vexReg d && vexReg s1 && s2.wfVex
  | .vsm4Key4Evex128 _ _ s2 => s2.wfEvex
  | .vsm4Key4Evex256 _ _ s2 => s2.wfEvex
  | .vsm4Key4Evex512 _ _ s2 => s2.wfEvex
  | .vsm4Rnds4Vex128 d s1 s2 => vexReg d && vexReg s1 && s2.wfVex
  | .vsm4Rnds4Vex256 d s1 s2 => vexReg d && vexReg s1 && s2.wfVex
  | .vsm4Rnds4Evex128 _ _ s2 => s2.wfEvex
  | .vsm4Rnds4Evex256 _ _ s2 => s2.wfEvex
  | .vsm4Rnds4Evex512 _ _ s2 => s2.wfEvex
  | .ldtilecfg m => m.wf
  | .sttilecfg m => m.wf
  | .tilerelease => true
  | .tilezero t => vexReg t
  | .tileloadd t m => vexReg t && m.wfSib
  | .tileloaddT1 t m => vexReg t && m.wfSib
  | .tilestored m t => vexReg t && m.wfSib
  | .t2rpntlvwZ0 t m => vexReg t && m.wfSib
  | .t2rpntlvwZ0T1 t m => vexReg t && m.wfSib
  | .t2rpntlvwZ1 t m => vexReg t && m.wfSib
  | .t2rpntlvwZ1T1 t m => vexReg t && m.wfSib
  | .t2rpntlvwZ0RS t m => vexReg t && m.wfSib
  | .t2rpntlvwZ0RST1 t m => vexReg t && m.wfSib
  | .t2rpntlvwZ1RS t m => vexReg t && m.wfSib
  | .t2rpntlvwZ1RST1 t m => vexReg t && m.wfSib
  | .tileloaddrs t m => vexReg t && m.wfSib
  | .tileloaddrsT1 t m => vexReg t && m.wfSib
  | .tcmmimfp16ps d s1 s2 => vexReg d && vexReg s1 && vexReg s2
  | .tcmmrlfp16ps d s1 s2 => vexReg d && vexReg s1 && vexReg s2
  | .tconjtcmmimfp16ps d s1 s2 => vexReg d && vexReg s1 && vexReg s2
  | .tconjtfp16 d s => vexReg d && vexReg s
  | .tcvtrowd2psR _ _ _ => true
  | .tcvtrowd2psI _ _ _ => true
  | .tcvtrowps2pbf16hR _ _ _ => true
  | .tcvtrowps2pbf16hI _ _ _ => true
  | .tcvtrowps2pbf16lR _ _ _ => true
  | .tcvtrowps2pbf16lI _ _ _ => true
  | .tcvtrowps2phhR _ _ _ => true
  | .tcvtrowps2phhI _ _ _ => true
  | .tcvtrowps2phlR _ _ _ => true
  | .tcvtrowps2phlI _ _ _ => true
  | .tdpbf8ps d s1 s2 => vexReg d && vexReg s1 && vexReg s2
  | .tdpbhf8ps d s1 s2 => vexReg d && vexReg s1 && vexReg s2
  | .tdphbf8ps d s1 s2 => vexReg d && vexReg s1 && vexReg s2
  | .tdphf8ps d s1 s2 => vexReg d && vexReg s1 && vexReg s2
  | .tilemovrowI _ _ _ => true
  | .tilemovrowR _ _ _ => true
  | .tmmultf32ps d s1 s2 => vexReg d && vexReg s1 && vexReg s2
  | .ttcmmimfp16ps d s1 s2 => vexReg d && vexReg s1 && vexReg s2
  | .ttcmmrlfp16ps d s1 s2 => vexReg d && vexReg s1 && vexReg s2
  | .ttdpbf16ps d s1 s2 => vexReg d && vexReg s1 && vexReg s2
  | .ttdpfp16ps d s1 s2 => vexReg d && vexReg s1 && vexReg s2
  | .ttmmultf32ps d s1 s2 => vexReg d && vexReg s1 && vexReg s2
  | .ttransposed d s => vexReg d && vexReg s

end Sys2Proof
end

