-- ==== Sys2Proof/Decode.lean ====
section
/-! DEFINITION. Decoding bytes (30_encoding.md R160 to R186), total and refusing by name, then the encoder written from the
same tables. -/

namespace Sys2Proof

/-- The part of the operating mode that decoding depends on (R163, R164): 64-bit mode, the default size of a legacy code
segment, and whether VEX and EVEX are recognised (not in real-address or virtual-8086 mode). -/
structure DecMode where
  is64 : Bool
  big : Bool
  vex : Bool
  deriving DecidableEq, Repr

/-- Why bytes are no instruction of the table: more bytes are needed, the sequence is #UD (R167, R175), or it belongs to the
base architecture, which is outside the spec (R8). -/
inductive DecErr where
  | more
  | ud
  | outside
  deriving DecidableEq, Repr

/-- The result of a decoding stage. -/
abbrev Dec := Except DecErr

/-! ### Register numbers -/

/-- The number of a general register (R31). -/
def Gpr.code : Gpr → Nat
  | .rax => 0 | .rcx => 1 | .rdx => 2 | .rbx => 3 | .rsp => 4 | .rbp => 5 | .rsi => 6 | .rdi => 7
  | .r8 => 8 | .r9 => 9 | .r10 => 10 | .r11 => 11 | .r12 => 12 | .r13 => 13 | .r14 => 14 | .r15 => 15

/-- The general register with a number (R31); only the low four bits count. -/
def Gpr.ofCode (n : Nat) : Gpr :=
  match n % 16 with
  | 0 => .rax | 1 => .rcx | 2 => .rdx | 3 => .rbx | 4 => .rsp | 5 => .rbp | 6 => .rsi | 7 => .rdi
  | 8 => .r8 | 9 => .r9 | 10 => .r10 | 11 => .r11 | 12 => .r12 | 13 => .r13 | 14 => .r14 | _ => .r15

/-- The byte register of a ModRM.reg number (R421): with a REX prefix 4 to 7 are SPL to DIL, without one AH to BH. -/
def Reg8.ofCode (rex : Bool) (n : Nat) : Reg8 :=
  if rex then .low (Gpr.ofCode n)
  else match n % 8 with
    | 4 => .ah | 5 => .ch | 6 => .dh | 7 => .bh
    | k => .low (Gpr.ofCode k)

/-- The register number of a byte register. -/
def Reg8.code : Reg8 → Nat
  | .low g => g.code | .ah => 4 | .ch => 5 | .dh => 6 | .bh => 7

/-- SPL, BPL, SIL and DIL exist only with a REX prefix (R421). -/
def Reg8.needsRex : Reg8 → Bool
  | .low .rsp | .low .rbp | .low .rsi | .low .rdi => true
  | _ => false

/-- A vector or tile register number of five bits. -/
def vregOf (n : Nat) : Fin 32 := ⟨n % 32, Nat.mod_lt _ (by decide)⟩

/-- An opmask register number of three bits. -/
def kregOf (n : Nat) : Fin 8 := ⟨n % 8, Nat.mod_lt _ (by decide)⟩

/-! ### Byte helpers -/

/-- Bit `i` of a byte. -/
def bitOf (b : Byte) (i : Nat) : Bool := b.toNat / 2 ^ i % 2 == 1

/-- The weight `n` if the bit is set: extension bits of register numbers. -/
def ext (b : Bool) (n : Nat) : Nat := if b then n else 0

/-- The 32-bit little-endian value of four bytes (R120, R160). -/
def le32Of (a b c d : Byte) : W32 :=
  BitVec.ofNat 32 (a.toNat + 256 * b.toNat + 65536 * c.toNat + 16777216 * d.toNat)

/-- The four bytes of a 32-bit value, least significant first (R120). -/
def le32 (w : W32) : List Byte :=
  [BitVec.ofNat 8 w.toNat, BitVec.ofNat 8 (w.toNat / 256), BitVec.ofNat 8 (w.toNat / 65536),
    BitVec.ofNat 8 (w.toNat / 16777216)]

/-- Read a four-byte field (R160). -/
def take32 : List Byte → Dec (W32 × List Byte)
  | a :: b :: c :: d :: r => .ok (le32Of a b c d, r)
  | _ => .error .more

/-- Read a one-byte field. -/
def take8 : List Byte → Dec (Byte × List Byte)
  | a :: r => .ok (a, r)
  | [] => .error .more

/-- A displacement byte: sign-extended and scaled by N (R163, R168). -/
def disp8 (n : Nat) (b : Byte) : W32 := b.signExtend 32 * BitVec.ofNat 32 n

/-! ### Legacy and REX prefixes (R161, R162) -/

/-- The prefixes before an opcode. `rep` is the last of F2H (3) and F3H (2), as their `pp` codes; `rex` is present only when
it stands immediately before what follows. -/
structure Pfx where
  lock : Bool := false
  opsz : Bool := false
  adsz : Bool := false
  rep : Option Nat := none
  seg : Option Seg := none
  rex : Option Byte := none
  deriving DecidableEq, Repr

/-- The segment override after one more: in 64-bit mode those of CS, SS, DS and ES are ignored for address generation, so they
leave an override of FS or GS in force (R161). Of several overrides that count, the spec does not say which wins: the last does
(PRESUMED, notes/assumptions/10.md). -/
def Pfx.override (m : DecMode) (p : Pfx) (g : Seg) : Option Seg :=
  if m.is64 && (p.seg == some .fs || p.seg == some .gs) && g != .fs && g != .gs then p.seg else some g

/-- One prefix byte, or `none` where the byte is not a prefix (R161, R162). -/
def Pfx.add (m : DecMode) (p : Pfx) (b : Byte) : Option Pfx :=
  let n := b.toNat
  if n = 0xF0 then some { p with lock := true, rex := none }
  else if n = 0xF2 then some { p with rep := some 3, rex := none }
  else if n = 0xF3 then some { p with rep := some 2, rex := none }
  else if n = 0x66 then some { p with opsz := true, rex := none }
  else if n = 0x67 then some { p with adsz := true, rex := none }
  else if n = 0x26 then some { p with seg := p.override m .es, rex := none }
  else if n = 0x2E then some { p with seg := p.override m .cs, rex := none }
  else if n = 0x36 then some { p with seg := p.override m .ss, rex := none }
  else if n = 0x3E then some { p with seg := p.override m .ds, rex := none }
  else if n = 0x64 then some { p with seg := p.override m .fs, rex := none }
  else if n = 0x65 then some { p with seg := p.override m .gs, rex := none }
  else if m.is64 && n / 16 == 4 then some { p with rex := some b }
  else none

/-- All prefixes at the head of a byte list. -/
def readPfx (m : DecMode) (p : Pfx) : List Byte → Pfx × List Byte
  | [] => (p, [])
  | b :: r =>
    match p.add m b with
    | some p' => readPfx m p' r
    | none => (p, b :: r)

/-- The mandatory-prefix code of the legacy prefixes (R161): 0 none, 1 66H, 2 F3H, 3 F2H. -/
def Pfx.pp (p : Pfx) : Nat :=
  match p.rep with
  | some k => k
  | none => if p.opsz then 1 else 0

/-- A prefix that may not stand before VEX or EVEX (R161). -/
def Pfx.badBeforeVex (p : Pfx) : Bool := p.lock || p.opsz || p.rep.isSome || p.rex.isSome

/-- A REX bit by its position: W 3, R 2, X 1, B 0 (R162). -/
def Pfx.rexBit (p : Pfx) (i : Nat) : Bool :=
  match p.rex with
  | some b => bitOf b i
  | none => false

/-- The address size (R163). -/
def addrSizeOf (m : DecMode) (p : Pfx) : AddrSize :=
  if m.is64 then (if p.adsz then .a32 else .a64)
  else if m.big then (if p.adsz then .a16 else .a32)
  else (if p.adsz then .a32 else .a16)

/-! ### ModRM and SIB (R163) -/

/-- The three fields of a ModRM byte. -/
structure ModRm where
  md : Nat
  reg : Nat
  rm : Nat
  deriving DecidableEq, Repr

/-- Split a ModRM byte (R163). -/
def modRm (b : Byte) : ModRm := ⟨b.toNat / 64, b.toNat / 8 % 8, b.toNat % 8⟩

/-- Base and index of the 16-bit forms (R163). -/
def base16 : Nat → MemBase × Option Gpr
  | 0 => (.reg .rbx, some .rsi)
  | 1 => (.reg .rbx, some .rdi)
  | 2 => (.reg .rbp, some .rsi)
  | 3 => (.reg .rbp, some .rdi)
  | 4 => (.reg .rsi, none)
  | 5 => (.reg .rdi, none)
  | 6 => (.reg .rbp, none)
  | _ => (.reg .rbx, none)

/-- The displacement that `mod` announces for 32-bit and 64-bit addressing. -/
def readDisp (md n : Nat) (bs : List Byte) : Dec (W32 × List Byte) :=
  if md = 1 then
    match bs with
    | b :: r => .ok (disp8 n b, r)
    | [] => .error .more
  else if md = 2 then take32 bs
  else .ok (0, bs)

/-- The displacement of a 16-bit form. -/
def readDisp16 (md n : Nat) (bs : List Byte) : Dec (W32 × List Byte) :=
  if md = 1 then
    match bs with
    | b :: r => .ok (disp8 n b, r)
    | [] => .error .more
  else if md = 2 then
    match bs with
    | a :: b :: r => .ok ((BitVec.ofNat 16 (a.toNat + 256 * b.toNat)).signExtend 32, r)
    | _ => .error .more
  else .ok (0, bs)

/-- The extension bits that a memory operand uses, and its disp8 factor N (R168). -/
structure MemCtx where
  x : Bool
  b : Bool
  n : Nat
  deriving DecidableEq, Repr

/-- A memory operand after its ModRM byte (R163), with whether a SIB byte was present (R171). -/
def readMem (m : DecMode) (p : Pfx) (c : MemCtx) (mr : ModRm) (bs : List Byte) : Dec (MemOp × Bool × List Byte) :=
  match addrSizeOf m p with
  | .a16 =>
    if mr.md = 0 ∧ mr.rm = 6 then do
      let (d, r) ← readDisp16 2 c.n bs
      .ok (⟨p.seg, .a16, .none, none, 0, d⟩, false, r)
    else do
      let (d, r) ← readDisp16 mr.md c.n bs
      .ok (⟨p.seg, .a16, (base16 mr.rm).1, (base16 mr.rm).2, 0, d⟩, false, r)
  | asz =>
    if mr.rm = 4 then
      match bs with
      | [] => .error .more
      | s :: r0 =>
        let ix := s.toNat / 8 % 8 + ext c.x 8
        let bse := s.toNat % 8
        let idx := if ix = 4 then none else some (Gpr.ofCode ix)
        let scale : Fin 4 := if ix = 4 then 0 else ⟨s.toNat / 64 % 4, Nat.mod_lt _ (by decide)⟩
        if bse = 5 ∧ mr.md = 0 then do
          let (d, r) ← take32 r0
          .ok (⟨p.seg, asz, .none, idx, scale, d⟩, true, r)
        else do
          let (d, r) ← readDisp mr.md c.n r0
          .ok (⟨p.seg, asz, .reg (Gpr.ofCode (bse + ext c.b 8)), idx, scale, d⟩, true, r)
    else if mr.md = 0 ∧ mr.rm = 5 then do
      let (d, r) ← take32 bs
      .ok (⟨p.seg, asz, if m.is64 then .rip else .none, none, 0, d⟩, false, r)
    else do
      let (d, r) ← readDisp mr.md c.n bs
      .ok (⟨p.seg, asz, .reg (Gpr.ofCode (mr.rm + ext c.b 8)), none, 0, d⟩, false, r)

/-! ### Legacy-encoded instructions -/

/-- A legacy instruction with a memory operand in ModRM.r/m: `mod = 11b` is #UD (R167). -/
def legacyMem (m : DecMode) (p : Pfx) (bs : List Byte) (k : Nat → MemOp → Instr) : Dec (Instr × List Byte) :=
  match bs with
  | [] => .error .more
  | b :: r0 =>
    if (modRm b).md = 3 then .error .ud
    else do
      let (mo, _, r) ← readMem m p ⟨p.rexBit 1, p.rexBit 0, 1⟩ (modRm b) r0
      .ok (k ((modRm b).reg + ext (p.rexBit 2) 8) mo, r)

/-- The RAO operand size (R172, D20). -/
def raoSizeOf (m : DecMode) (p : Pfx) : RaoSize := if m.is64 && p.rexBit 3 then .o64 else .o32

/-- The MOVRS operand size (R172). -/
def opSizeOf (p : Pfx) : OpSize := if p.rexBit 3 then .o64 else if p.opsz then .o16 else .o32

/-- Map 0F38, legacy encoded (R185). The memory forms of F8H with a mandatory prefix are the base architecture's (R167). -/
def decodeLegacy38 (m : DecMode) (p : Pfx) (op : Nat) (bs : List Byte) : Dec (Instr × List Byte) :=
  if op = 0xFC then
    if p.lock then .error .ud
    else legacyMem m p bs fun g mo =>
      match p.pp with
      | 0 => .aadd (raoSizeOf m p) mo (Gpr.ofCode g)
      | 1 => .aand (raoSizeOf m p) mo (Gpr.ofCode g)
      | 2 => .axor (raoSizeOf m p) mo (Gpr.ofCode g)
      | _ => .aor (raoSizeOf m p) mo (Gpr.ofCode g)
  else if op = 0x8A then
    if p.lock || p.rep.isSome then .error .ud
    else legacyMem m p bs fun g mo => .movrsB (Reg8.ofCode p.rex.isSome g) mo
  else if op = 0x8B then
    if p.lock || p.rep.isSome then .error .ud
    else legacyMem m p bs fun g mo => .movrsV (opSizeOf p) (Gpr.ofCode g) mo
  else if op = 0xF8 then
    match bs with
    | [] => .error .more
    | b :: r =>
      let mr := modRm b
      if mr.md = 3 then
        if p.lock then .error .ud
        else
          let g := Gpr.ofCode (mr.reg + ext (p.rexBit 2) 8)
          let rm := Gpr.ofCode (mr.rm + ext (p.rexBit 0) 8)
          if p.pp = 3 then .ok (.urdmsr rm g, r)
          else if p.pp = 2 then .ok (.uwrmsr g rm, r)
          else .error .ud
      else if p.pp = 0 then .error .ud
      else .error .outside
  else .error .outside

/-- The 0F 01 group (R166, R180): the ModRM byte is fixed. -/
def decode0F01 (m : DecMode) (p : Pfx) (bs : List Byte) : Dec (Instr × List Byte) :=
  match bs with
  | [] => .error .more
  | b :: r =>
    let n := b.toNat
    if n = 0xC5 then (if p.lock || p.pp != 0 || p.opsz then .error .ud else .ok (.pconfig, r))
    else if n = 0xC7 then (if p.lock || p.pp != 0 || p.opsz then .error .ud else .ok (.pbndkb, r))
    else if n = 0xC6 then
      (if p.lock then .error .ud
       else if p.rep.isSome then .error .outside
       else if p.opsz then .error .ud
       else .ok (.wrmsrns, r))
    else if n = 0xC8 then (if p.lock then .error .ud else .ok (.monitor p.seg (addrSizeOf m p), r))
    else if n = 0xC9 then (if p.lock then .error .ud else .ok (.mwait, r))
    else .error .outside

/-- 0F 18 (R432): /4 with a memory operand; everything else is the base architecture's hint space (for /4 see
`Machine.decodeBase`). -/
def decode0F18 (m : DecMode) (p : Pfx) (bs : List Byte) : Dec (Instr × List Byte) :=
  match bs with
  | [] => .error .more
  | b :: r0 =>
    if (modRm b).reg = 4 ∧ (modRm b).md ≠ 3 then
      if p.lock then .error .ud
      else do
        let (mo, _, r) ← readMem m p ⟨p.rexBit 1, p.rexBit 0, 1⟩ (modRm b) r0
        .ok (.prefetchrst2 mo, r)
    else .error .outside

/-- The two-byte opcode map (R166). -/
def decode0F (m : DecMode) (p : Pfx) (bs : List Byte) : Dec (Instr × List Byte) :=
  match bs with
  | [] => .error .more
  | b :: r =>
    let n := b.toNat
    if n = 0xA2 then (if p.lock then .error .ud else .ok (.cpuid, r))
    else if n = 0x32 then (if p.lock then .error .ud else .ok (.rdmsr, r))
    else if n = 0x01 then decode0F01 m p r
    else if n = 0x18 then decode0F18 m p r
    else if n = 0x38 then
      match r with
      | [] => .error .more
      | o :: r' => decodeLegacy38 m p o.toNat r'
    else .error .outside

/-! ### VEX-encoded instructions -/

/-- VEX opcodes whose operands are three tile registers (R185): ModRM.reg, ModRM.r/m, VEX.vvvv. -/
def vexTile3 (map op pp : Nat) : Option (Tmm → Tmm → Tmm → Instr) :=
  match map, op, pp with
  | 2, 0x6C, 1 => some .tcmmimfp16ps
  | 2, 0x6C, 0 => some .tcmmrlfp16ps
  | 2, 0x6B, 0 => some .tconjtcmmimfp16ps
  | 5, 0xFD, 0 => some .tdpbf8ps
  | 5, 0xFD, 3 => some .tdpbhf8ps
  | 5, 0xFD, 2 => some .tdphbf8ps
  | 5, 0xFD, 1 => some .tdphf8ps
  | 2, 0x48, 1 => some .tmmultf32ps
  | 2, 0x6B, 3 => some .ttcmmimfp16ps
  | 2, 0x6B, 2 => some .ttcmmrlfp16ps
  | 2, 0x6C, 2 => some .ttdpbf16ps
  | 2, 0x6C, 3 => some .ttdpfp16ps
  | 2, 0x48, 0 => some .ttmmultf32ps
  | _, _, _ => none

/-- VEX opcodes whose operands are two tile registers (R185): ModRM.reg, ModRM.r/m. -/
def vexTile2 (map op pp : Nat) : Option (Tmm → Tmm → Instr) :=
  match map, op, pp with
  | 2, 0x6B, 1 => some .tconjtfp16
  | 2, 0x5F, 2 => some .ttransposed
  | _, _, _ => none

/-- VEX opcodes with a tile register and a sibmem operand (R171, R185). -/
def vexSib (map op pp : Nat) : Option (Tmm → MemOp → Instr) :=
  match map, op, pp with
  | 2, 0x4B, 3 => some .tileloadd
  | 2, 0x4B, 1 => some .tileloaddT1
  | 2, 0x4B, 2 => some (fun t m => .tilestored m t)
  | 2, 0x6E, 0 => some .t2rpntlvwZ0
  | 2, 0x6F, 0 => some .t2rpntlvwZ0T1
  | 2, 0x6E, 1 => some .t2rpntlvwZ1
  | 2, 0x6F, 1 => some .t2rpntlvwZ1T1
  | 5, 0xF8, 0 => some .t2rpntlvwZ0RS
  | 5, 0xF9, 0 => some .t2rpntlvwZ0RST1
  | 5, 0xF8, 1 => some .t2rpntlvwZ1RS
  | 5, 0xF9, 1 => some .t2rpntlvwZ1RST1
  | 2, 0x4A, 3 => some .tileloaddrs
  | 2, 0x4A, 1 => some .tileloaddrsT1
  | _, _, _ => none

/-- EVEX row instructions with a register row selector (R185, R591). -/
def evexRowReg (map op pp : Nat) : Option (VReg → Tmm → Gpr → Instr) :=
  match map, op, pp with
  | 2, 0x4A, 2 => some .tcvtrowd2psR
  | 2, 0x6D, 3 => some .tcvtrowps2pbf16hR
  | 2, 0x6D, 2 => some .tcvtrowps2pbf16lR
  | 2, 0x6D, 0 => some .tcvtrowps2phhR
  | 2, 0x6D, 1 => some .tcvtrowps2phlR
  | 2, 0x4A, 1 => some .tilemovrowR
  | _, _, _ => none

/-- EVEX row instructions with an immediate row selector (R185, R590). -/
def evexRowImm (map op pp : Nat) : Option (VReg → Tmm → Byte → Instr) :=
  match map, op, pp with
  | 3, 0x07, 2 => some .tcvtrowd2psI
  | 3, 0x07, 3 => some .tcvtrowps2pbf16hI
  | 3, 0x77, 2 => some .tcvtrowps2pbf16lI
  | 3, 0x07, 0 => some .tcvtrowps2phhI
  | 3, 0x77, 3 => some .tcvtrowps2phlI
  | 3, 0x07, 1 => some .tilemovrowI
  | _, _, _ => none


/-- The fields of a VEX prefix, not inverted (R164). -/
structure Vex where
  r : Bool
  x : Bool
  b : Bool
  map : Nat
  w : Bool
  v : Nat
  l : Bool
  pp : Nat
  deriving DecidableEq, Repr

/-- The fields of the two payload bytes (R164). Outside 64-bit mode only eight registers exist, and the bits that would name
others are ignored (PRESUMED, notes/assumptions/22.md). -/
def vexOf (m : DecMode) (p0 p1 : Byte) : Vex :=
  { r := !bitOf p0 7, x := !bitOf p0 6, b := m.is64 && !bitOf p0 5, map := p0.toNat % 32,
    w := bitOf p1 7, v := (15 - p1.toNat / 8 % 16) % (if m.is64 then 16 else 8), l := bitOf p1 2, pp := p1.toNat % 4 }

/-- Whether a VEX opcode is one of the table's (R185), whatever its other fields. -/
def vexClaimed (map op : Nat) : Bool :=
  [(2, 0xDA), (2, 0x48), (2, 0x49), (2, 0x4A), (2, 0x4B), (2, 0x5F), (2, 0x6B), (2, 0x6C), (2, 0x6E), (2, 0x6F),
    (5, 0xF8), (5, 0xF9), (5, 0xFD), (7, 0xF6), (7, 0xF8)].contains (map, op)

/-- Sequences with an opcode byte of the table under VEX, in a map that the table does not print for it, that the base architecture
claims, by prefix code, W and L: R167 leaves those to it. The list is the family's (PRESUMED, notes/assumptions/24.md). -/
def vexBase (e : Vex) (op : Nat) : Bool :=
  match e.map with
  | 1 =>
    if op = 0x5F then true
    else if op = 0x4A then e.l && decide (e.pp ≤ 1)
    else if op = 0x4B then e.l && (e.pp == 0 || (e.pp == 1 && !e.w))
    else if op = 0x6E then e.pp == 1 && !e.l
    else if op = 0x6F then e.pp == 1 || e.pp == 2
    else e.pp == 1 && [0xDA, 0x6B, 0x6C, 0xF6, 0xF8, 0xF9, 0xFD].contains op
  | 2 => op == 0xF6 && e.pp == 3 && !e.l
  | 3 => (op == 0x4A || op == 0x4B) && e.pp == 1 && !e.w
  | _ => false

/-- A VEX sequence that is no row of the table: #UD where its opcode byte is one of the table's, with a map that is not printed
for it, and the base architecture does not claim it (R167, R175, D15), and where a VEX prefix stands before a 0F 01 instruction
(R453, R480); the base architecture's otherwise. -/
def vexElse (e : Vex) (op : Nat) : DecErr :=
  if (e.map = 1 ∧ op = 0x01)
    ∨ ([0xDA, 0x48, 0x49, 0x4A, 0x4B, 0x5F, 0x6B, 0x6C, 0x6E, 0x6F, 0xF8, 0xF9, 0xFD, 0xF6].contains op ∧ !vexBase e op)
  then .ud else .outside

/-- A VEX memory operand after its ModRM byte. -/
def vexMem (m : DecMode) (p : Pfx) (e : Vex) (mr : ModRm) (bs : List Byte) : Dec (MemOp × Bool × List Byte) :=
  readMem m p ⟨e.x, e.b, 1⟩ mr bs

/-- VSM4KEY4 and VSM4RNDS4, VEX forms (R543, R544). VEX.X is ignored where ModRM has no SIB byte: the spec gives it no role there
(DESIGN CHOICE, notes/assumptions/23.md). -/
def decodeVexSm4 (m : DecMode) (p : Pfx) (e : Vex) (mr : ModRm) (bs : List Byte) : Dec (Instr × List Byte) := do
  let d := vregOf (mr.reg + ext e.r 8)
  let s1 := vregOf e.v
  let (s2, r) ← (if mr.md = 3 then .ok (VecSrc.reg (vregOf (mr.rm + ext e.b 8)), bs)
    else do
      let (mo, _, r) ← vexMem m p e mr bs
      .ok (VecSrc.mem mo, r) : Dec (VecSrc × List Byte))
  if e.pp = 2 then .ok (if e.l then .vsm4Key4Vex256 d s1 s2 else .vsm4Key4Vex128 d s1 s2, r)
  else if e.pp = 3 then .ok (if e.l then .vsm4Rnds4Vex256 d s1 s2 else .vsm4Rnds4Vex128 d s1 s2, r)
  else .error .ud

/-- Opcode 49H: the configuration instructions (R597 to R600). VEX.X and VEX.B are ignored where ModRM.r/m is fixed and names no
operand (DESIGN CHOICE, notes/assumptions/23.md). -/
def decodeVex49 (m : DecMode) (p : Pfx) (e : Vex) (mr : ModRm) (bs : List Byte) : Dec (Instr × List Byte) :=
  if e.v ≠ 0 then .error .ud
  else if mr.md = 3 then
    if e.pp = 0 ∧ mr.reg = 0 ∧ mr.rm = 0 then .ok (.tilerelease, bs)
    else if e.pp = 3 ∧ mr.rm = 0 then .ok (.tilezero (vregOf (mr.reg + ext e.r 8)), bs)
    else .error .ud
  else if mr.reg ≠ 0 then .error .ud
  else if e.pp = 0 then do
    let (mo, _, r) ← vexMem m p e mr bs
    .ok (.ldtilecfg mo, r)
  else if e.pp = 1 then do
    let (mo, _, r) ← vexMem m p e mr bs
    .ok (.sttilecfg mo, r)
  else .error .ud

/-- MAP7: the immediate forms of the MSR instructions (R502, R505, R510, R521). VEX.R and VEX.X are ignored
(notes/assumptions/23.md). -/
def decodeVexMsr (e : Vex) (op : Nat) (mr : ModRm) (bs : List Byte) : Dec (Instr × List Byte) :=
  if e.v ≠ 0 ∨ mr.md ≠ 3 ∨ mr.reg ≠ 0 then .error .ud
  else do
    let g := Gpr.ofCode (mr.rm + ext e.b 8)
    if op = 0xF6 then
      if e.pp = 3 then do let (i, r) ← take32 bs; .ok (.rdmsrImm g i, r)
      else if e.pp = 2 then do let (i, r) ← take32 bs; .ok (.wrmsrnsImm i g, r)
      else .error .ud
    else
      if e.pp = 3 then do let (i, r) ← take32 bs; .ok (.urdmsrImm g i, r)
      else if e.pp = 2 then do let (i, r) ← take32 bs; .ok (.uwrmsrImm i g, r)
      else .error .ud

/-- The remaining AMX opcodes: registers only, or a sibmem operand (R171, R175). VEX.X of the register forms is ignored: R164, R581
and D29 do not say what it does there (DESIGN CHOICE, notes/assumptions/23.md). -/
def decodeVexAmx (m : DecMode) (p : Pfx) (e : Vex) (op : Nat) (mr : ModRm) (bs : List Byte) : Dec (Instr × List Byte) :=
  let d := vregOf (mr.reg + ext e.r 8)
  if mr.md = 3 then
    let s := vregOf (mr.rm + ext e.b 8)
    match vexTile3 e.map op e.pp with
    | some k => .ok (k d s (vregOf e.v), bs)
    | none =>
      match vexTile2 e.map op e.pp with
      | some k => if e.v ≠ 0 then .error .ud else .ok (k d s, bs)
      | none => .error .ud
  else
    match vexSib e.map op e.pp with
    | none => .error .ud
    | some k =>
      if e.v ≠ 0 ∨ mr.rm ≠ 4 then .error .ud
      else do
        let (mo, sib, r) ← vexMem m p e mr bs
        if sib then .ok (k d mo, r) else .error .ud

/-- An instruction after its VEX prefix. Every row is W0; every row but the SM4 ones is L = 0 (R164, D15). -/
def decodeVex (m : DecMode) (p : Pfx) (e : Vex) (bs : List Byte) : Dec (Instr × List Byte) :=
  match bs with
  | [] => .error .more
  | o :: bs1 =>
    let op := o.toNat
    if !vexClaimed e.map op then .error (vexElse e op)
    else if e.w then .error .ud
    else
      match bs1 with
      | [] => .error .more
      | b :: bs2 =>
        let mr := modRm b
        if e.map = 2 ∧ op = 0xDA then decodeVexSm4 m p e mr bs2
        else if e.l then .error .ud
        else if e.map = 2 ∧ op = 0x49 then decodeVex49 m p e mr bs2
        else if e.map = 7 then decodeVexMsr e op mr bs2
        else decodeVexAmx m p e op mr bs2

/-! ### EVEX-encoded instructions -/

/-- The fields of an EVEX prefix, not inverted (R165). -/
structure Evex where
  r : Bool
  x : Bool
  b : Bool
  r' : Bool
  p0b3 : Bool
  map : Nat
  w : Bool
  v : Nat
  u : Bool
  pp : Nat
  z : Bool
  ll : Nat
  bc : Bool
  v' : Bool
  aaa : Nat
  deriving DecidableEq, Repr

/-- The fields of the three payload bytes (R165). -/
def evexOf (m : DecMode) (p0 p1 p2 : Byte) : Evex :=
  { r := !bitOf p0 7, x := !bitOf p0 6, b := m.is64 && !bitOf p0 5, r' := m.is64 && !bitOf p0 4, p0b3 := bitOf p0 3,
    map := p0.toNat % 8, w := bitOf p1 7, v := (15 - p1.toNat / 8 % 16) % (if m.is64 then 16 else 8), u := bitOf p1 2,
    pp := p1.toNat % 4, z := bitOf p2 7, ll := p2.toNat / 32 % 4, bc := bitOf p2 4, v' := m.is64 && !bitOf p2 3,
    aaa := p2.toNat % 8 }

/-- Whether an EVEX opcode is one of the table's (R185). -/
def evexClaimed (map op : Nat) : Bool :=
  [(5, 0x6F), (2, 0xDA), (2, 0x4A), (2, 0x6D), (3, 0x07), (3, 0x77), (7, 0xF6)].contains (map, op)

/-- The same under EVEX, by prefix code and W (R167; PRESUMED, notes/assumptions/24.md). EVEX MULX, which only APX
would claim, is not among them: beyond the two rows of R179 nothing of APX is reachable. -/
def evexBase (e : Evex) (op : Nat) : Bool :=
  match e.map with
  | 1 =>
    if op = 0x6D then e.pp == 1 && e.w
    else if op = 0x6F then decide (1 ≤ e.pp)
    else e.pp == 1 && [0xDA, 0xF6].contains op
  | 2 => op == 0x77 && e.pp == 1
  | 5 => op == 0x6D && decide (1 ≤ e.pp)
  | _ => false

/-- An EVEX sequence that is no row of the table: #UD in map 4, which only APX has (R166, R179), and where its opcode byte is one of
the table's, with a map that is not printed for it, and the base architecture does not claim it (R167, R175, D15); the base
architecture's otherwise. -/
def evexElse (e : Evex) (op : Nat) : DecErr :=
  if e.map = 4 ∨ ([0x6F, 0xDA, 0x4A, 0x6D, 0x07, 0x77, 0xF6].contains op ∧ !evexBase e op) then .ud else .outside

/-- VMOVRSB, VMOVRSW, VMOVRSD, VMOVRSQ by prefix code, W and vector length (R424). -/
def vmovrsOf (pp : Nat) (w : Bool) (ll : Nat) : Option (VReg → KReg → Bool → MemOp → Instr) :=
  match pp, w, ll with
  | 3, false, 0 => some .vmovrsB128 | 3, false, 1 => some .vmovrsB256 | 3, false, 2 => some .vmovrsB512
  | 3, true, 0 => some .vmovrsW128 | 3, true, 1 => some .vmovrsW256 | 3, true, 2 => some .vmovrsW512
  | 2, false, 0 => some .vmovrsD128 | 2, false, 1 => some .vmovrsD256 | 2, false, 2 => some .vmovrsD512
  | 2, true, 0 => some .vmovrsQ128 | 2, true, 1 => some .vmovrsQ256 | 2, true, 2 => some .vmovrsQ512
  | _, _, _ => none

/-- VSM4KEY4 and VSM4RNDS4 by prefix code and vector length, EVEX forms (R543, R544). -/
def sm4EvexOf (pp ll : Nat) : Option (VReg → VReg → VecSrc → Instr) :=
  match pp, ll with
  | 2, 0 => some .vsm4Key4Evex128 | 2, 1 => some .vsm4Key4Evex256 | 2, 2 => some .vsm4Key4Evex512
  | 3, 0 => some .vsm4Rnds4Evex128 | 3, 1 => some .vsm4Rnds4Evex256 | 3, 2 => some .vsm4Rnds4Evex512
  | _, _ => none

/-- MAP5 6F (R424): memory only, no broadcast, no second source, zeroing only with a mask. Without a SIB byte EVEX.X is ignored, as in
`decodeEvexSm4` (DESIGN CHOICE, notes/assumptions/23.md). -/
def decodeVmovrs (m : DecMode) (p : Pfx) (e : Evex) (mr : ModRm) (bs : List Byte) : Dec (Instr × List Byte) :=
  match vmovrsOf e.pp e.w e.ll with
  | none => .error .ud
  | some k =>
    if mr.md = 3 ∨ e.v ≠ 0 ∨ e.v' ∨ e.bc ∨ (e.z ∧ e.aaa = 0) then .error .ud
    else do
      let (mo, _, r) ← readMem m p ⟨e.x, e.b, 16 * 2 ^ e.ll⟩ mr bs
      .ok (k (vregOf (mr.reg + ext e.r 8 + ext e.r' 16)) (kregOf e.aaa) e.z mo, r)

/-- EVEX SM4 forms (R545): no mask, no zeroing, no broadcast. In a memory form without a SIB byte R165 gives EVEX.X no role and says
neither ignored nor #UD: the model ignores it (DESIGN CHOICE, notes/assumptions/23.md). -/
def decodeEvexSm4 (m : DecMode) (p : Pfx) (e : Evex) (mr : ModRm) (bs : List Byte) : Dec (Instr × List Byte) :=
  match sm4EvexOf e.pp e.ll with
  | none => .error .ud
  | some k =>
    if e.w ∨ e.z ∨ e.bc ∨ e.aaa ≠ 0 then .error .ud
    else do
      let d := vregOf (mr.reg + ext e.r 8 + ext e.r' 16)
      let s1 := vregOf (e.v + ext e.v' 16)
      if mr.md = 3 then .ok (k d s1 (.reg (vregOf (mr.rm + ext e.b 8 + ext e.x 16))), bs)
      else do
        let (mo, _, r) ← readMem m p ⟨e.x, e.b, 16 * 2 ^ e.ll⟩ mr bs
        .ok (k d s1 (.mem mo), r)

/-- AMX row instructions (R590, R591): L'L = 10b, W0, no mask, zeroing or broadcast, registers only. -/
def decodeEvexRow (e : Evex) (op : Nat) (mr : ModRm) (bs : List Byte) : Dec (Instr × List Byte) :=
  if e.w ∨ e.z ∨ e.bc ∨ e.aaa ≠ 0 ∨ e.v' ∨ e.ll ≠ 2 ∨ mr.md ≠ 3 then .error .ud
  else
    let d := vregOf (mr.reg + ext e.r 8 + ext e.r' 16)
    let t := vregOf (mr.rm + ext e.b 8 + ext e.x 16)
    match evexRowReg e.map op e.pp with
    | some k => .ok (k d t (Gpr.ofCode e.v), bs)
    | none =>
      match evexRowImm e.map op e.pp with
      | some k =>
        if e.v ≠ 0 then .error .ud
        else do
          let (i, r) ← take8 bs
          .ok (k d t i, r)
      | none => .error .ud

/-- The APX rows (R179). -/
def decodeEvexMsr (e : Evex) (mr : ModRm) (bs : List Byte) : Dec (Instr × List Byte) :=
  if e.w ∨ e.z ∨ e.bc ∨ e.aaa ≠ 0 ∨ e.v' ∨ e.ll ≠ 0 ∨ e.v ≠ 0 ∨ mr.md ≠ 3 ∨ mr.reg ≠ 0 then .error .ud
  else
    let g := Gpr.ofCode (mr.rm + ext e.b 8)
    if e.pp = 3 then do let (i, r) ← take32 bs; .ok (.rdmsrImmApx g i, r)
    else if e.pp = 2 then do let (i, r) ← take32 bs; .ok (.wrmsrnsImmApx i g, r)
    else .error .ud

/-- An instruction after its EVEX prefix (R165): P0[3] must be 0, P1[2] must be 1. -/
def decodeEvex (m : DecMode) (p : Pfx) (e : Evex) (bs : List Byte) : Dec (Instr × List Byte) :=
  match bs with
  | [] => .error .more
  | o :: bs1 =>
    let op := o.toNat
    if !evexClaimed e.map op then .error (evexElse e op)
    else if e.p0b3 || !e.u then .error .ud
    else
      match bs1 with
      | [] => .error .more
      | b :: bs2 =>
        let mr := modRm b
        if e.map = 5 then decodeVmovrs m p e mr bs2
        else if e.map = 2 ∧ op = 0xDA then decodeEvexSm4 m p e mr bs2
        else if e.map = 7 then decodeEvexMsr e mr bs2
        else decodeEvexRow e op mr bs2

/-! ### The decoder -/

/-- After the legacy prefixes: VEX, EVEX, REX2, the escape byte, or the base architecture's one-byte opcodes. -/
def decodeOpcode (m : DecMode) (p : Pfx) (bs : List Byte) : Dec (Instr × List Byte) :=
  match bs with
  | [] => .error .more
  | b :: r =>
    let n := b.toNat
    if n = 0x0F then decode0F m p r
    else if n = 0xD5 ∧ m.is64 then .error .ud
    else if n = 0xC4 ∨ n = 0xC5 ∨ n = 0x62 then
      match r with
      | [] => .error .more
      | p0 :: r1 =>
        if !m.is64 && p0.toNat / 64 != 3 then .error .outside
        else if !m.vex || p.badBeforeVex then .error .ud
        else if n = 0xC5 then
          match r1 with
          | [] => .error .more
          | o :: _ => .error (vexElse { vexOf m 0xE1 p0 with w := false } o.toNat)
        else
          match r1 with
          | [] => .error .more
          | p1 :: r2 =>
            if n = 0xC4 then decodeVex m p (vexOf m p0 p1) r2
            else
              match r2 with
              | [] => .error .more
              | p2 :: r3 => decodeEvex m p (evexOf m p0 p1 p2) r3
    else .error .outside

/-- Decode the instruction at the head of a byte list: the instruction and its length (R160, R170). -/
def decode (m : DecMode) (bs : List Byte) : Dec (Instr × Nat) :=
  match decodeOpcode m (readPfx m {} bs).1 (readPfx m {} bs).2 with
  | .ok (i, r) => .ok (i, bs.length - r.length)
  | .error e => .error e

/-- 64-bit mode. -/
def mode64 : DecMode := ⟨true, false, true⟩

/-! ### The encoder, for 64-bit mode -/

/-- Numbers as bytes. -/
def bytesOf (ns : List Nat) : List Byte := ns.map (BitVec.ofNat 8)

/-- The segment-override prefix (R161). -/
def segByte : Option Seg → List Nat
  | none => []
  | some .es => [0x26] | some .cs => [0x2E] | some .ss => [0x36] | some .ds => [0x3E] | some .fs => [0x64] | some .gs => [0x65]

/-- The address-size prefix in 64-bit mode (R163). -/
def adsByte : AddrSize → List Nat
  | .a32 => [0x67]
  | _ => []

/-- A ModRM or SIB byte from its three fields (R163). -/
def modRmByte (md reg rm : Nat) : Nat := md * 64 + reg % 8 * 8 + rm % 8

/-- The number of the base register, 0 where there is none. -/
def MemOp.baseCode (m : MemOp) : Nat := match m.base with | .reg g => g.code | _ => 0

/-- The number of the index register, 0 where there is none. -/
def MemOp.indexCode (m : MemOp) : Nat := match m.index with | some g => g.code | none => 0

/-- The SIB.index field: 100b where there is no index (R163). -/
def MemOp.sibIndex (m : MemOp) : Nat := match m.index with | some g => g.code | none => 4

/-- ModRM, SIB and displacement of a memory operand (R163); `sib` forces a SIB byte (R171). -/
def MemOp.tail (m : MemOp) (reg : Nat) (sib : Bool) : List Byte :=
  (match m.base with
    | .rip => bytesOf [modRmByte 0 reg 5]
    | .none => bytesOf [modRmByte 0 reg 4, modRmByte m.scale.val m.sibIndex 5]
    | .reg g =>
      if sib || m.index.isSome || g.code % 8 == 4 then
        bytesOf [modRmByte 2 reg 4, modRmByte m.scale.val m.sibIndex g.code]
      else bytesOf [modRmByte 2 reg g.code]) ++ le32 m.disp

/-- A REX prefix where one is needed (R162). -/
def rexByte (w : Bool) (reg x b : Nat) (force : Bool) : List Nat :=
  if w || reg ≥ 8 || x ≥ 8 || b ≥ 8 || force then
    [0x40 + ext w 8 + ext (reg ≥ 8) 4 + ext (x ≥ 8) 2 + ext (b ≥ 8) 1]
  else []

/-- A legacy instruction with a memory operand (R160). -/
def encLegacyMem (mand : List Nat) (w force : Bool) (opc : List Nat) (reg : Nat) (m : MemOp) : List Byte :=
  bytesOf (segByte m.seg ++ adsByte m.asz ++ mand ++ rexByte w reg m.indexCode m.baseCode force ++ opc) ++ m.tail reg false

/-- A legacy instruction with two register operands. -/
def encLegacyRegs (mand : Nat) (opc : List Nat) (reg rm : Nat) : List Byte :=
  bytesOf ([mand] ++ rexByte false reg 0 rm false ++ opc ++ [modRmByte 3 reg rm])

/-- A three-byte VEX prefix and the opcode (R164), with W = 0. -/
def vexBytes (map op pp : Nat) (l : Bool) (reg x b v : Nat) : List Nat :=
  [0xC4, ext (reg < 8) 128 + ext (x < 8) 64 + ext (b < 8) 32 + map, (15 - v) * 8 + ext l 4 + pp, op]

/-- A VEX instruction with register operands. -/
def encVexRegs (map op pp reg rm v : Nat) : List Byte :=
  bytesOf (vexBytes map op pp false reg 0 rm v ++ [modRmByte 3 reg rm])

/-- A VEX instruction with a memory operand. -/
def encVexMem (map op pp : Nat) (l : Bool) (reg v : Nat) (sib : Bool) (m : MemOp) : List Byte :=
  bytesOf (segByte m.seg ++ adsByte m.asz ++ vexBytes map op pp l reg m.indexCode m.baseCode v) ++ m.tail reg sib

/-- A VEX instruction whose last source is a vector register or memory. -/
def encVexVec (map op pp : Nat) (l : Bool) (reg v : Nat) (s : VecSrc) : List Byte :=
  match s with
  | .reg r => bytesOf (vexBytes map op pp l reg 0 r.val v ++ [modRmByte 3 reg r.val])
  | .mem m => encVexMem map op pp l reg v false m

/-- An EVEX prefix and the opcode (R165); `b` and `x` are the extension bits of r/m, of weight 8 and 16. -/
def evexBytes (map op pp : Nat) (w : Bool) (ll reg : Nat) (x b : Bool) (v aaa : Nat) (z : Bool) : List Nat :=
  [0x62, ext (reg % 16 < 8) 128 + ext (!x) 64 + ext (!b) 32 + ext (reg < 16) 16 + map,
    ext w 128 + (15 - v % 16) * 8 + 4 + pp, ext z 128 + ll * 32 + ext (v < 16) 8 + aaa, op]

/-- An EVEX instruction with register operands. -/
def encEvexRegs (map op pp ll reg rm v : Nat) : List Byte :=
  bytesOf (evexBytes map op pp false ll reg (rm ≥ 16) (rm % 16 ≥ 8) v 0 false ++ [modRmByte 3 reg rm])

/-- An EVEX instruction with a memory operand. -/
def encEvexMem (map op pp : Nat) (w : Bool) (ll reg v aaa : Nat) (z : Bool) (m : MemOp) : List Byte :=
  bytesOf (segByte m.seg ++ adsByte m.asz
    ++ evexBytes map op pp w ll reg (m.indexCode ≥ 8) (m.baseCode ≥ 8) v aaa z) ++ m.tail reg false

/-- An EVEX instruction whose last source is a vector register or memory. -/
def encEvexVec (map op pp ll reg v : Nat) (s : VecSrc) : List Byte :=
  match s with
  | .reg r => encEvexRegs map op pp ll reg r.val v
  | .mem m => encEvexMem map op pp false ll reg v 0 false m

/-- The bytes of a well-formed instruction in 64-bit mode (R160 to R166, R185); a memory operand always takes a
four-byte displacement. -/
def encode (i : Instr) : List Byte :=
  match i with
  | .cpuid => bytesOf [0x0F, 0xA2]
  | .aadd sz m r => encLegacyMem [] (sz = .o64) false [0x0F, 0x38, 0xFC] r.code m
  | .aand sz m r => encLegacyMem [0x66] (sz = .o64) false [0x0F, 0x38, 0xFC] r.code m
  | .aor sz m r => encLegacyMem [0xF2] (sz = .o64) false [0x0F, 0x38, 0xFC] r.code m
  | .axor sz m r => encLegacyMem [0xF3] (sz = .o64) false [0x0F, 0x38, 0xFC] r.code m
  | .movrsB d m => encLegacyMem [] false d.needsRex [0x0F, 0x38, 0x8A] d.code m
  | .movrsV sz d m => encLegacyMem (if sz = .o16 then [0x66] else []) (sz = .o64) false [0x0F, 0x38, 0x8B] d.code m
  | .vmovrsB128 d k z m => encEvexMem 5 0x6F 3 false 0 d.val 0 k.val z m
  | .vmovrsB256 d k z m => encEvexMem 5 0x6F 3 false 1 d.val 0 k.val z m
  | .vmovrsB512 d k z m => encEvexMem 5 0x6F 3 false 2 d.val 0 k.val z m
  | .vmovrsW128 d k z m => encEvexMem 5 0x6F 3 true 0 d.val 0 k.val z m
  | .vmovrsW256 d k z m => encEvexMem 5 0x6F 3 true 1 d.val 0 k.val z m
  | .vmovrsW512 d k z m => encEvexMem 5 0x6F 3 true 2 d.val 0 k.val z m
  | .vmovrsD128 d k z m => encEvexMem 5 0x6F 2 false 0 d.val 0 k.val z m
  | .vmovrsD256 d k z m => encEvexMem 5 0x6F 2 false 1 d.val 0 k.val z m
  | .vmovrsD512 d k z m => encEvexMem 5 0x6F 2 false 2 d.val 0 k.val z m
  | .vmovrsQ128 d k z m => encEvexMem 5 0x6F 2 true 0 d.val 0 k.val z m
  | .vmovrsQ256 d k z m => encEvexMem 5 0x6F 2 true 1 d.val 0 k.val z m
  | .vmovrsQ512 d k z m => encEvexMem 5 0x6F 2 true 2 d.val 0 k.val z m
  | .prefetchrst2 m => encLegacyMem [] false false [0x0F, 0x18] 4 m
  | .pbndkb => bytesOf [0x0F, 0x01, 0xC7]
  | .pconfig => bytesOf [0x0F, 0x01, 0xC5]
  | .rdmsr => bytesOf [0x0F, 0x32]
  | .rdmsrImm d imm => encVexRegs 7 0xF6 3 0 d.code 0 ++ le32 imm
  | .rdmsrImmApx d imm => encEvexRegs 7 0xF6 3 0 0 d.code 0 ++ le32 imm
  | .urdmsr d a => encLegacyRegs 0xF2 [0x0F, 0x38, 0xF8] a.code d.code
  | .urdmsrImm d imm => encVexRegs 7 0xF8 3 0 d.code 0 ++ le32 imm
  | .uwrmsr a v => encLegacyRegs 0xF3 [0x0F, 0x38, 0xF8] a.code v.code
  | .uwrmsrImm imm v => encVexRegs 7 0xF8 2 0 v.code 0 ++ le32 imm
  | .wrmsrns => bytesOf [0x0F, 0x01, 0xC6]
  | .wrmsrnsImm imm v => encVexRegs 7 0xF6 2 0 v.code 0 ++ le32 imm
  | .wrmsrnsImmApx imm v => encEvexRegs 7 0xF6 2 0 0 v.code 0 ++ le32 imm
  | .mwait => bytesOf [0x0F, 0x01, 0xC9]
  | .monitor seg asz => bytesOf (segByte seg ++ adsByte asz ++ [0x0F, 0x01, 0xC8])
  | .vsm4Key4Vex128 d s1 s2 => encVexVec 2 0xDA 2 false d.val s1.val s2
  | .vsm4Key4Vex256 d s1 s2 => encVexVec 2 0xDA 2 true d.val s1.val s2
  | .vsm4Key4Evex128 d s1 s2 => encEvexVec 2 0xDA 2 0 d.val s1.val s2
  | .vsm4Key4Evex256 d s1 s2 => encEvexVec 2 0xDA 2 1 d.val s1.val s2
  | .vsm4Key4Evex512 d s1 s2 => encEvexVec 2 0xDA 2 2 d.val s1.val s2
  | .vsm4Rnds4Vex128 d s1 s2 => encVexVec 2 0xDA 3 false d.val s1.val s2
  | .vsm4Rnds4Vex256 d s1 s2 => encVexVec 2 0xDA 3 true d.val s1.val s2
  | .vsm4Rnds4Evex128 d s1 s2 => encEvexVec 2 0xDA 3 0 d.val s1.val s2
  | .vsm4Rnds4Evex256 d s1 s2 => encEvexVec 2 0xDA 3 1 d.val s1.val s2
  | .vsm4Rnds4Evex512 d s1 s2 => encEvexVec 2 0xDA 3 2 d.val s1.val s2
  | .ldtilecfg m => encVexMem 2 0x49 0 false 0 0 false m
  | .sttilecfg m => encVexMem 2 0x49 1 false 0 0 false m
  | .tilerelease => encVexRegs 2 0x49 0 0 0 0
  | .tilezero t => encVexRegs 2 0x49 3 t.val 0 0
  | .tileloadd t m => encVexMem 2 0x4B 3 false t.val 0 true m
  | .tileloaddT1 t m => encVexMem 2 0x4B 1 false t.val 0 true m
  | .tilestored m t => encVexMem 2 0x4B 2 false t.val 0 true m
  | .t2rpntlvwZ0 t m => encVexMem 2 0x6E 0 false t.val 0 true m
  | .t2rpntlvwZ0T1 t m => encVexMem 2 0x6F 0 false t.val 0 true m
  | .t2rpntlvwZ1 t m => encVexMem 2 0x6E 1 false t.val 0 true m
  | .t2rpntlvwZ1T1 t m => encVexMem 2 0x6F 1 false t.val 0 true m
  | .t2rpntlvwZ0RS t m => encVexMem 5 0xF8 0 false t.val 0 true m
  | .t2rpntlvwZ0RST1 t m => encVexMem 5 0xF9 0 false t.val 0 true m
  | .t2rpntlvwZ1RS t m => encVexMem 5 0xF8 1 false t.val 0 true m
  | .t2rpntlvwZ1RST1 t m => encVexMem 5 0xF9 1 false t.val 0 true m
  | .tileloaddrs t m => encVexMem 2 0x4A 3 false t.val 0 true m
  | .tileloaddrsT1 t m => encVexMem 2 0x4A 1 false t.val 0 true m
  | .tcmmimfp16ps d s1 s2 => encVexRegs 2 0x6C 1 d.val s1.val s2.val
  | .tcmmrlfp16ps d s1 s2 => encVexRegs 2 0x6C 0 d.val s1.val s2.val
  | .tconjtcmmimfp16ps d s1 s2 => encVexRegs 2 0x6B 0 d.val s1.val s2.val
  | .tconjtfp16 d s => encVexRegs 2 0x6B 1 d.val s.val 0
  | .tcvtrowd2psR d t r => encEvexRegs 2 0x4A 2 2 d.val t.val r.code
  | .tcvtrowd2psI d t imm => encEvexRegs 3 0x07 2 2 d.val t.val 0 ++ [imm]
  | .tcvtrowps2pbf16hR d t r => encEvexRegs 2 0x6D 3 2 d.val t.val r.code
  | .tcvtrowps2pbf16hI d t imm => encEvexRegs 3 0x07 3 2 d.val t.val 0 ++ [imm]
  | .tcvtrowps2pbf16lR d t r => encEvexRegs 2 0x6D 2 2 d.val t.val r.code
  | .tcvtrowps2pbf16lI d t imm => encEvexRegs 3 0x77 2 2 d.val t.val 0 ++ [imm]
  | .tcvtrowps2phhR d t r => encEvexRegs 2 0x6D 0 2 d.val t.val r.code
  | .tcvtrowps2phhI d t imm => encEvexRegs 3 0x07 0 2 d.val t.val 0 ++ [imm]
  | .tcvtrowps2phlR d t r => encEvexRegs 2 0x6D 1 2 d.val t.val r.code
  | .tcvtrowps2phlI d t imm => encEvexRegs 3 0x77 3 2 d.val t.val 0 ++ [imm]
  | .tdpbf8ps d s1 s2 => encVexRegs 5 0xFD 0 d.val s1.val s2.val
  | .tdpbhf8ps d s1 s2 => encVexRegs 5 0xFD 3 d.val s1.val s2.val
  | .tdphbf8ps d s1 s2 => encVexRegs 5 0xFD 2 d.val s1.val s2.val
  | .tdphf8ps d s1 s2 => encVexRegs 5 0xFD 1 d.val s1.val s2.val
  | .tilemovrowI d t imm => encEvexRegs 3 0x07 1 2 d.val t.val 0 ++ [imm]
  | .tilemovrowR d t r => encEvexRegs 2 0x4A 1 2 d.val t.val r.code
  | .tmmultf32ps d s1 s2 => encVexRegs 2 0x48 1 d.val s1.val s2.val
  | .ttcmmimfp16ps d s1 s2 => encVexRegs 2 0x6B 3 d.val s1.val s2.val
  | .ttcmmrlfp16ps d s1 s2 => encVexRegs 2 0x6B 2 d.val s1.val s2.val
  | .ttdpbf16ps d s1 s2 => encVexRegs 2 0x6C 2 d.val s1.val s2.val
  | .ttdpfp16ps d s1 s2 => encVexRegs 2 0x6C 3 d.val s1.val s2.val
  | .ttmmultf32ps d s1 s2 => encVexRegs 2 0x48 0 d.val s1.val s2.val
  | .ttransposed d s => encVexRegs 2 0x5F 2 d.val s.val 0

/-! ### The host's reading of a table word -/

/-- The bytes of a number, least significant first. -/
def leBytes : Nat → Nat → List Byte
  | 0, _ => []
  | k + 1, w => BitVec.ofNat 8 w :: leBytes k (w / 256)

/-- The instruction the decoder reads, in 64-bit mode, from the bytes of `w` followed by zeros. -/
def decodeTableWord (nbits w : Nat) : Option Instr :=
  match decode mode64 (leBytes (if nbits / 8 < 15 then 15 else nbits / 8) (w % 2 ^ nbits)) with
  | .ok (i, _) => some i
  | .error _ => none

end Sys2Proof
end

