-- ==== Sys2Proof/Machine/Profile.lean ====
section
/-! DEFINITION. The default configuration (00_scope.md R10, D13, D14): DESIGN CHOICE, notes/assumptions/5.md. Fixed source
values (R225, R330, R331, R762) are taken from the spec; every feature of the document is enumerated but for APX_F (D12). -/

namespace Sys2Proof.Machine

/-- A CPUID row that ignores the sub-leaf. -/
def cpuRow (leaf a b c d : Nat) : CpuidRow :=
  ⟨leaf, none, BitVec.ofNat 32 a, BitVec.ofNat 32 b, BitVec.ofNat 32 c, BitVec.ofNat 32 d⟩

/-- A CPUID row of one sub-leaf. -/
def cpuSub (leaf sub a b c d : Nat) : CpuidRow :=
  ⟨leaf, some sub, BitVec.ofNat 32 a, BitVec.ofNat 32 b, BitVec.ofNat 32 c, BitVec.ofNat 32 d⟩

/-- The number whose set bits are listed. -/
def bitsOf (l : List Nat) : Nat := l.foldl (fun n i => n + 2 ^ i) 0

/-- Leaves 00H to 06H (40_cpuid.md). -/
def cpuidLow : List CpuidRow :=
  [cpuRow 0 0x24 0x756E6547 0x6C65746E 0x49656E69,
   cpuRow 1 0x00400F10 0x00000800 (bitsOf [3, 5, 15, 21, 24, 26, 28])
     (bitsOf [0, 4, 5, 6, 8, 9, 11, 15, 19, 21, 24, 25, 26]),
   cpuRow 2 0x00FEFF01 0 0 0,
   cpuRow 5 64 64 0xB 0]

/-- Leaves 07H to 0BH (41_cpuid_leaves_07_to_1c.md). -/
def cpuidSeven : List CpuidRow :=
  [cpuSub 7 0 2 (bitsOf [0, 5, 15, 16, 17, 25, 30, 31]) (bitsOf [7, 13])
     (bitsOf [5, 18, 19, 20, 22, 23, 24, 25, 29]),
   cpuSub 7 1 (bitsOf [2, 3, 8, 19, 21, 31]) (bitsOf [1]) (bitsOf [5]) (bitsOf [8, 13, 15, 19, 23]),
   cpuRow 0xA 0x00300805 0 0 0x604,
   cpuSub 0xB 0 0 1 0x100 0, cpuSub 0xB 1 0 1 0x201 0]

/-- Leaves 0DH to 1CH (41_cpuid_leaves_07_to_1c.md). -/
def cpuidMid : List CpuidRow :=
  [cpuSub 0xD 0 0x000600E7 0 0 0, cpuSub 0xD 1 0x1F 0 0 0,
   cpuSub 0xD 2 256 576 0 0, cpuSub 0xD 5 64 1088 0 0, cpuSub 0xD 6 512 1152 0 0, cpuSub 0xD 7 1024 1664 0 0,
   cpuSub 0xD 17 64 2752 2 0, cpuSub 0xD 18 8192 2816 6 0,
   cpuSub 0x10 0 0 0x20 0 0, cpuSub 0x10 5 0x107 0 8 15,
   cpuSub 0x14 0 1 0x205 1 0, cpuSub 0x14 1 0x202 0 0x8003 0,
   cpuSub 0x1B 0 1 1 2 0, cpuRow 0x1C 0xF 7 7 0]

/-- Leaves 1DH to 24H (42_cpuid_leaves_1d_to_ext.md). -/
def cpuidHigh : List CpuidRow :=
  [cpuSub 0x1D 0 1 0 0 0, cpuSub 0x1D 1 0x04002000 0x00080040 0x10 0,
   cpuSub 0x1E 0 0 0x4010 0 0, cpuSub 0x1E 1 0x1FF 0 0 0,
   cpuSub 0x1F 0 0 1 0x100 0, cpuSub 0x1F 1 0 1 0x201 0,
   cpuSub 0x23 0 0x3B 0 0 0, cpuSub 0x23 1 0xFF 0x0F 0 0,
   cpuSub 0x23 4 0 (bitsOf [3, 4, 5, 6, 8, 9, 17, 18, 21, 22, 23, 29, 30]) 0 0, cpuSub 0x23 5 0xFF 0 0x0F 0,
   cpuSub 0x24 0 0 0x00070002 0 0]

/-- Extended leaves (42_cpuid_leaves_1d_to_ext.md). -/
def cpuidExt : List CpuidRow :=
  [cpuRow 0x80000000 0x80000008 0 0 0,
   cpuRow 0x80000001 0 0 1 (bitsOf [11, 20, 27, 29]),
   cpuRow 0x80000006 0 0 64 0,
   cpuRow 0x80000007 0 0 0 0x100,
   cpuRow 0x80000008 0x3034 0 0 0]

/-- The default configuration: notes/assumptions/5.md. The reserved bits of IA32_EFER and IA32_TSC_AUX are the family's (PRESUMED,
notes/assumptions/16.md). -/
def profile : Cfg :=
  { cpuid := cpuidLow ++ cpuidSeven ++ cpuidMid ++ cpuidHigh ++ cpuidExt
    microcodeRev := 1
    perfCapabilities := 0x20FC0
    vmxProcbasedCtls3 := 0x700
    tseCapability := 0x0000010000030001
    tmeCapability := 0x000003F600000001
    archCapabilities := 0x1000
    pebs2gpaBit := 10
    pbndkbFailures := []
    uarchMiscReserved := 0xFFFFFFFFFFFFFFFE
    memTypes := []
    pages := []
    ept := []
    prmrr := []
    msrs := [⟨0x8B, 0, 0, false⟩, ⟨0x1D9, 0, 0, false⟩, ⟨0xC0000080, 0xFFFFFFFFFFFFF2FE, 0, false⟩,
      ⟨0xC0000103, 0xFFFFFFFF00000000, 0, false⟩] }

end Sys2Proof.Machine
end

