-- ==== Sys2Proof/Machine/State.lean ====
section
/-! DEFINITION. The state of one logical processor (10_state.md R30), as plain data, the reasons a step can stop, and the
state after reset (70_reset_and_hazards.md R900). -/

namespace Sys2Proof.Machine

/-- Sparse data by key: strictly rising keys, no entry equal to what an unlisted key reads as. -/
abbrev Store (α : Type) := List (Nat × α)

/-- The sixteen general registers (R31). -/
structure Gprs where
  rax : W64
  rcx : W64
  rdx : W64
  rbx : W64
  rsp : W64
  rbp : W64
  rsi : W64
  rdi : W64
  r8 : W64
  r9 : W64
  r10 : W64
  r11 : W64
  r12 : W64
  r13 : W64
  r14 : W64
  r15 : W64
  deriving DecidableEq, Repr

/-- The hidden part of a segment register (R122, R123). -/
structure SegReg where
  base : W64
  limit : W32
  usable : Bool
  writable : Bool
  deriving DecidableEq, Repr

/-- The six segment registers. -/
structure Segs where
  es : SegReg
  cs : SegReg
  ss : SegReg
  ds : SegReg
  fs : SegReg
  gs : SegReg
  deriving DecidableEq, Repr

/-- Control, mode and debug registers (R34 to R36, R54). -/
structure Sys where
  cr0 : W64
  cr2 : W64
  cr3 : W64
  cr4 : W64
  efer : W64
  xcr0 : W64
  csL : Bool
  csD : Bool
  cpl : Fin 4
  segs : Segs
  dr0 : W64
  dr1 : W64
  dr2 : W64
  dr3 : W64
  dr7 : W64
  ssp : W64
  deriving DecidableEq, Repr

/-- VMX operation (R34). -/
inductive VmxMode where
  | off | root | nonRoot
  deriving DecidableEq, Repr

/-- SGX context (R34, R796). -/
inductive EnclaveMode where
  | none | production | debug
  deriving DecidableEq, Repr

/-- TDX context (R797): a trust domain with or without performance monitoring. -/
inductive TdMode where
  | none | perfmon | noPerfmon
  deriving DecidableEq, Repr

/-- Activity states that the rules name (R843, R852, R857). -/
inductive Activity where
  | active | hlt | waiting | shutdown | waitSipi
  deriving DecidableEq, Repr

/-- Mode-like state that the base architecture maintains and the rules test (R34). -/
structure Ctx where
  vmx : VmxMode
  smm : Bool
  enclave : EnclaveMode
  tsx : Bool
  td : TdMode
  activity : Activity
  /-- The instruction before was MOV SS, POP SS or STI, which may block a user-timer event for one instruction (R843). -/
  shadow : Bool
  deriving DecidableEq, Repr

/-- Vector state (R38 to R40). -/
structure VecState where
  zmm : Vector W512 32
  k : Vector W64 8
  mxcsr : W32
  deriving DecidableEq, Repr

/-- TILECFG and TILEDATA (R41, R42): one entry for each of the sixteen tile numbers (R562); the valid bits are derived. -/
structure Amx where
  palette : Byte
  startRow : Byte
  rows : Vector Byte 16
  colsb : Vector (BitVec 16) 16
  tiles : Vector (Vector W512 16) 16
  deriving DecidableEq, Repr

/-- The VMCS fields and controls that the rules use (R63, R507, R734, R853, R859). -/
structure Vmcs where
  useMsrBitmaps : Bool
  msrBitmap : W64
  activateTertiary : Bool
  tertiary : W64
  virtIntDelivery : Bool
  rdtscExiting : Bool
  tscOffsetting : Bool
  tscScaling : Bool
  tscOffset : W64
  tscMultiplier : W64
  virtUserTimer : W64
  guestDeadline : W64
  guestDeadlineShadow : W64
  virtTimerVector : BitVec 16
  guestIntStatus : BitVec 16
  virtApic : W64
  exitReason : W32
  exitQualification : W64
  exitLength : W32
  exitInfo : W32
  vmInstrError : W32
  deriving DecidableEq, Repr

/-- Address-monitor hardware (R65). -/
structure Monitor where
  armed : Bool
  base : Nat
  size : Nat
  deriving DecidableEq, Repr

/-- What a key slot does (R66). -/
inductive KeyMode where
  | default | encrypt | noEncrypt
  deriving DecidableEq, Repr

/-- A key record of TMEMK or TSE (R66). -/
structure KeySlot where
  mode : KeyMode
  alg : BitVec 16
  dataKey : W512
  tweakKey : W512
  deriving DecidableEq, Repr

/-- The four posted operations (R130). -/
inductive RaoOp where
  | add | and | or | xor
  deriving DecidableEq, Repr

/-- A posted RAO update (R130): `bytes` lists the physical addresses, four or eight of them. -/
structure RaoEntry where
  op : RaoOp
  bytes : List Nat
  src : W64
  deriving DecidableEq, Repr

/-- A trigger unit's instruction counter (R69, R749), and whether it passed FFFFH since the last IP indication. -/
structure Icnt where
  count : BitVec 16
  overflow : Bool
  deriving DecidableEq, Repr

/-- Intel PT state that trigger tracing uses (R69, R749, R755). -/
structure Pt where
  /-- IA32_RTIT_CTL.TraceEn. -/
  traceEn : Bool
  /-- IA32_RTIT_CTL.BranchEn. -/
  branchEn : Bool
  triggerEn : Bool
  contextEn : Bool
  filterEn : Bool
  /-- one counter for each of the 28 units that leaf 14H can enumerate (R741). -/
  icnt : Vector Icnt 28
  /-- the model's own: the instruction that is executed has sent an IP indication (R749). -/
  anchored : Bool
  packets : List Byte
  deriving DecidableEq, Repr

/-- Sampling state (R764, R781, R796). -/
structure Pebs where
  /-- overflows that wait for a record, laid out as IA32_PERF_GLOBAL_STATUS. -/
  pending : W64
  pmi : Bool
  /-- the address of the last EENTER or ERESUME (R796). -/
  enclaveEntry : W64
  /-- overflows that a production enclave deferred, laid out as `pending` (R796). -/
  skidded : W64
  deriving DecidableEq, Repr

/-- The exceptions of R820, in their vector numbers' order. -/
inductive Exn where
  | db | ud | nm | ss | gp | pf | ac
  deriving DecidableEq, Repr

/-- What ended the instruction stream of the base-less machine (R829, D3): notes/assumptions/8.md. -/
inductive Delivered where
  /-- an exception: vector, error code, saved RIP. -/
  | exception (vector : Nat) (code : Option W32) (rip : W64)
  /-- a VM exit: control is the VMM's (R860). -/
  | vmExit (rip : W64)
  /-- a transaction abort: control goes to the fallback address (R875). -/
  | tsxAbort (rip : W64)
  deriving DecidableEq, Repr

/-- The machine: 10_state.md R30, one field or record for each of its components. -/
structure State where
  gpr : Gprs
  rip : W64
  rflags : W64
  sys : Sys
  ctx : Ctx
  vec : VecState
  amx : Amx
  /-- the MSR space (R44): values by address. -/
  msr : Store W64
  tsc : W64
  vmcs : Vmcs
  guestDeadline : W64
  uirr : W64
  uif : Bool
  userInterrupt : Bool
  virtualInterrupt : Bool
  monitor : Monitor
  tmemk : Store KeySlot
  tse : Store KeySlot
  rao : List RaoEntry
  pt : Pt
  pebs : Pebs
  mem : Store Byte
  delivered : Option Delivered
  /-- the configuration record (R10): read, never written. -/
  cfg : Cfg
  /-- the model's own: how many free values have been drawn (notes/assumptions/11.md). -/
  draws : Nat
  /-- the model's own: length of the instruction being executed (R170). -/
  ilen : Nat
  deriving DecidableEq, Repr

/-- Reasons the machine stops. -/
inductive Fault where
  /-- Raised by `step` when an exception, VM exit or transaction abort has been taken: its handler is the base
  architecture's (R829, D3). Safe: no claim about what the handler does can be proved. -/
  | delivered
  deriving DecidableEq, Repr

/-- Reasons a step has no meaning. -/
inductive Refusal where
  /-- An arm of `exec` that has no meaning yet. Safe. -/
  | notModelled (mnemonic : String)
  /-- Raised by `step`: the bytes belong to the base architecture, which the spec leaves out (R8, D12), and are none of the
  base instructions that it states (95_test_vectors.md Part C, R167). Safe. -/
  | baseArchitecture
  deriving DecidableEq, Repr

/-- A key slot that no PCONFIG has programmed (R66, R900). -/
def KeySlot.unprogrammed : KeySlot := ⟨.default, 0, 0, 0⟩

/-- A flat segment. -/
def SegReg.flat (w : Bool) : SegReg := ⟨0, 0xFFFFFFFF, true, w⟩

/-- The machine after reset (R900): the stated values; else notes/assumptions/1.md, 2.md and 3.md. -/
def State.reset : State :=
  { gpr := ⟨0, 0, 0, 0, 0, 0, 0, 0, 0, 0, 0, 0, 0, 0, 0, 0⟩
    rip := 0
    rflags := 2
    sys :=
      { cr0 := 0x80000011, cr2 := 0, cr3 := 0, cr4 := 0x20, efer := 0x500, xcr0 := 1, csL := true, csD := false, cpl := 0
        segs := ⟨.flat true, .flat false, .flat true, .flat true, .flat true, .flat true⟩
        dr0 := 0, dr1 := 0, dr2 := 0, dr3 := 0, dr7 := 0x400, ssp := 0 }
    ctx := ⟨.off, false, .none, false, .none, .active, false⟩
    vec := ⟨Vector.replicate 32 0, Vector.replicate 8 0, 0x1F80⟩
    amx := ⟨0, 0, Vector.replicate 16 0, Vector.replicate 16 0, Vector.replicate 16 (Vector.replicate 16 0)⟩
    msr := [(0x1B, 0xFEE00900), (0x1A0, 0x41000), (0x277, 0x0007040600070406)]
    tsc := 0
    vmcs := ⟨false, 0, false, 0, false, false, false, false, 0, 0, 0, 0, 0, 0, 0, 0, 0, 0, 0, 0, 0⟩
    guestDeadline := 0
    uirr := 0
    uif := false
    userInterrupt := false
    virtualInterrupt := false
    monitor := ⟨false, 0, 0⟩
    tmemk := []
    tse := []
    rao := []
    pt := ⟨false, false, false, false, false, Vector.replicate 28 ⟨0, false⟩, false, []⟩
    pebs := ⟨0, false, 0, 0⟩
    mem := []
    delivered := none
    cfg := profile
    draws := 0
    ilen := 0 }

end Sys2Proof.Machine
end

