-- ==== Sys2Proof/Machine/Enumeration.lean ====
section
/-! DEFINITION. What CPUID answers (40_cpuid.md R221 to R237, 41 and 42), the feature flags of R353, and the configuration
values that CPUID holds (00_scope.md R10). -/

namespace Sys2Proof.Machine

/-! ### Sparse stores -/

/-- The value at a key; `d` is what an unlisted key reads as. -/
def Store.get {α : Type} (d : α) : Store α → Nat → α
  | [], _ => d
  | (b, v) :: r, a => if a = b then v else Store.get d r a

/-- Put an entry at its place in rising order. -/
def Store.insert {α : Type} : Store α → Nat → α → Store α
  | [], a, v => [(a, v)]
  | (b, w) :: r, a, v =>
    if a < b then (a, v) :: (b, w) :: r
    else if a = b then (a, v) :: r
    else (b, w) :: Store.insert r a v

/-- Change the value at a key, keeping the canonical form: writing what an unlisted key reads as removes the entry. -/
def Store.put {α : Type} [DecidableEq α] (d : α) (m : Store α) (a : Nat) (v : α) : Store α :=
  if v = d then m.filter (fun e => decide (e.1 ≠ a)) else Store.insert m a v

/-- Keys strictly rising and above `n`, no default value listed. -/
def Store.wfFrom {α : Type} [DecidableEq α] (d : α) : Nat → Store α → Bool
  | _, [] => true
  | n, (a, v) :: r => decide (n ≤ a) && decide (v ≠ d) && Store.wfFrom d (a + 1) r

/-- The canonical form of a store. -/
def Store.wf {α : Type} [DecidableEq α] (d : α) (m : Store α) : Bool := Store.wfFrom d 0 m

/-! ### CPUID rows -/

/-- The row of zeros. -/
def zeroRow : CpuidRow := ⟨0, none, 0, 0, 0, 0⟩

/-- A bit of a bit vector. -/
def bitAt {n : Nat} (w : BitVec n) (i : Nat) : Bool := w.getLsbD i

/-- A bit vector with one bit set to a value. -/
def setBitTo {n : Nat} (w : BitVec n) (i : Nat) (b : Bool) : BitVec n :=
  if b then w ||| BitVec.ofNat n (2 ^ i) else w &&& ~~~(BitVec.ofNat n (2 ^ i))

/-- A field of a bit vector, as a number. -/
def fieldOf {n : Nat} (w : BitVec n) (hi lo : Nat) : Nat := (w.extractLsb hi lo).toNat

/-- A row as the configuration lists it (R10); rows that are not listed are zero. -/
def listedRow (c : Cfg) (leaf sub : Nat) : CpuidRow :=
  match c.cpuid.find? (fun r => r.leaf == leaf && (r.sub == none || r.sub == some sub)) with
  | some r => r
  | none => zeroRow

/-- The basic leaves that no processor ever has, whatever the highest one (R221 item 2, R335). -/
def neverLeaf (leaf : Nat) : Bool := decide (0x40000000 ≤ leaf) && decide (leaf ≤ 0x4FFFFFFF)

/-- A leaf within the ranges that leaves 00H and 80000000H report (R221, R225, R344), but for those of R335: a highest basic leaf
among these is itself a row of zeros (DEDUCED, notes/assumptions/45.md). -/
def leafInRange (c : Cfg) (leaf : Nat) : Bool :=
  if leaf < 0x80000000 then decide (leaf ≤ (listedRow c 0 0).eax.toNat) && !neverLeaf leaf
  else leaf == 0x80000000 || decide (leaf ≤ (listedRow c 0x80000000 0).eax.toNat)

/-- A listed row of a leaf in range; a leaf beyond the range reports no feature, whatever is listed for it. -/
def rawRow (c : Cfg) (leaf sub : Nat) : CpuidRow := if leafInRange c leaf then listedRow c leaf sub else zeroRow

/-! ### What the spec fixes in every row (R15, R221, D13)

`Cfg.cpuid` is constrained by the values and the "Reserved = 0" bits that the source prints and by its rules for invalid
sub-leaves. `cpuidCfg` imposes them on whatever a configuration lists, so that no configuration answers otherwise. -/

/-- A row with only the bits of four masks. -/
def keepBits (r : CpuidRow) (a b c d : W32) : CpuidRow :=
  { r with eax := r.eax &&& a, ebx := r.ebx &&& b, ecx := r.ecx &&& c, edx := r.edx &&& d }

/-- The sub-leaves at or below `n` that can differ: those listed, and the first ones up to the first that is not. -/
def subsUpTo (c : Cfg) (leaf n : Nat) : List Nat :=
  (c.cpuid.filterMap (fun r => if r.leaf == leaf then r.sub else none)).filter (· ≤ n)
    ++ List.range (min (n + 1) (c.cpuid.length + 1))

/-- Every sub-leaf up to `n` has a type other than 0: the first of type 0 ends an enumeration (R292, R333). -/
def typedUpTo (c : Cfg) (leaf n : Nat) (type : CpuidRow → Nat) : Bool :=
  (subsUpTo c leaf n).all (fun k => type (rawRow c leaf k) != 0)

/-- Leaf 0DH sub-leaf `n` above 1 maps to a bit of XCR0 (R273). -/
def xcr0Component (c : Cfg) (n : Nat) : Bool :=
  if n < 32 then bitAt (rawRow c 0xD 0).eax n else bitAt (rawRow c 0xD 0).edx (n - 32)

/-- Leaf 0DH sub-leaf `n` above 1 maps to a bit of IA32_XSS (R273). -/
def xssComponent (c : Cfg) (n : Nat) : Bool :=
  if n < 32 then bitAt (rawRow c 0xD 1).ecx n else bitAt (rawRow c 0xD 1).edx (n - 32)

/-- Leaf 0DH sub-leaf `n` above 1 (R273): zeros where it is invalid; the sizes of TILECFG and TILEDATA (R561); ECX[0] tells an
IA32_XSS component from an XCR0 one. -/
def fixComponent (c : Cfg) (n : Nat) (r : CpuidRow) : CpuidRow :=
  if !(xcr0Component c n || xssComponent c n) then zeroRow
  else
    { r with
      eax := if n = 17 then 64 else if n = 18 then (rawRow c 0x1D 1).eax &&& 0xFFFF else r.eax
      ebx := if xcr0Component c n then r.ebx else 0
      ecx := setBitTo r.ecx 0 (!xcr0Component c n) }

/-- Leaf 12H sub-leaf 2 and above (R283). -/
def fixEpc (r : CpuidRow) : CpuidRow :=
  if fieldOf r.eax 3 0 = 0 then zeroRow
  else if fieldOf r.eax 3 0 = 1 then
    if fieldOf r.ecx 3 0 = 0 then { r with eax := r.eax &&& 0xFFFFF00F, ecx := 0, edx := 0 }
    else { r with eax := r.eax &&& 0xFFFFF00F, ecx := r.ecx &&& 0xFFFFF00F }
  else r

/-- Sub-leaf `sub` of a leaf whose sub-leaf 0 reports its last one in EAX (R263, R284, R288, R289). -/
def withinLast (c : Cfg) (leaf sub : Nat) : Bool := decide (sub ≤ (rawRow c leaf 0).eax.toNat)

/-- Leaf 18H (R289): zeros past the last sub-leaf and where the type is 0; sub-leaf 0 keeps the number of the last one. -/
def fixTranslation (c : Cfg) (sub : Nat) (r : CpuidRow) : CpuidRow :=
  if !withinLast c 0x18 sub then zeroRow
  else if fieldOf r.edx 4 0 = 0 then (if sub = 0 then { zeroRow with eax := r.eax } else zeroRow)
  else r

/-- Leaf 23H sub-leaf `sub` exists (R336): ArchPerfmonExt is answered (R264), and bit `sub` of EAX of sub-leaf 0. -/
def perfmonSub (c : Cfg) (sub : Nat) : Bool :=
  withinLast c 7 1 && bitAt (rawRow c 7 1).eax 8 && leafInRange c 0x23 && (sub == 0 || bitAt (rawRow c 0x23 0).eax sub)

/-- Leaf 04H (R234): EAX[31:26] is the same in every valid sub-leaf, that of the first. -/
def fixCache (c : Cfg) (r : CpuidRow) : CpuidRow :=
  { r with
    eax := if fieldOf r.eax 4 0 = 0 then r.eax
      else (r.eax &&& 0x03FFFFFF) ||| ((rawRow c 4 0).eax &&& 0xFC000000)
    edx := r.edx &&& 7 }

/-- Leaf 0BH (R270): present where EBX[15:0] of sub-leaf 0 is not zero. Then sub-leaf 0 is the Logical Processor domain, type 1, and
sub-leaf 1 the Core domain, type 2, which is the highest of this leaf, so that every further sub-leaf is invalid (DEDUCED,
notes/assumptions/45.md). -/
def fixTopology (c : Cfg) (sub : Nat) (r : CpuidRow) : CpuidRow :=
  let e := r.ecx &&& 0xFFFF00FF
  if fieldOf (rawRow c 0xB 0).ebx 15 0 ≠ 0 ∧ sub < 2 then { r with ecx := e ||| (if sub = 0 then 0x100 else 0x200) }
  else { r with eax := 0, ebx := 0, ecx := e }

/-- Leaf 05H is supported: in range, and not a row of zeros (DEDUCED, notes/assumptions/45.md). -/
def monitorLeafSupported (c : Cfg) : Bool :=
  let r := rawRow c 5 0
  (r.eax &&& 0xFFFF) ||| (r.ebx &&& 0xFFFF) ||| r.ecx ||| r.edx != 0

/-- A word with flag `i` cleared where what the flag implies is absent: in a configuration that says otherwise the flag gives way (D13;
DESIGN CHOICE, notes/assumptions/45.md). -/
def implying (w : W32) (i : Nat) (present : Bool) : W32 := setBitTo w i (bitAt w i && present)

/-- Leaf 1AH exists (R291): in range, and EAX is not 0. -/
def nativeModelLeaf (c : Cfg) : Bool := leafInRange c 0x1A && (rawRow c 0x1A 0).eax != 0

/-- Leaf 01H: no brand index (R351), no processor serial number (R230, R233), and MONITOR only with leaf 05H, whose support it
implies (R528). -/
def fixFeatures (c : Cfg) (r : CpuidRow) : CpuidRow :=
  { r with
    ebx := r.ebx &&& 0xFFFFFF00
    ecx := implying (r.ecx &&& 0x7FFFFFFF) 3 (monitorLeafSupported c)
    edx := r.edx &&& 0xFFFBFFFF }

/-- Leaf 07H: zeros in an invalid sub-leaf (R263). In sub-leaf 0 SGX implies leaf 12H (R281, R283), RDT-A leaf 10H (R261), Hybrid leaf
1AH (R291), and PCONFIG leaf 1BH (R263, R292). In sub-leaf 1 ArchPerfmonExt implies leaf 23H and HRESET leaf 20H (R264), UTMR its
precondition UINTR (R353), AVX10 leaf 24H (R266), and MWAIT leaf 05H (R528). R264 quotes that a processor with FRED also enumerates
LKGS, and the source gives FRED no bit: the model ties no flag to LKGS (DESIGN CHOICE, notes/assumptions/45.md). -/
def fixSeven (c : Cfg) (sub : Nat) (r : CpuidRow) : CpuidRow :=
  if !withinLast c 7 sub then zeroRow
  else if sub = 0 then
    { r with
      ebx := implying (implying r.ebx 2 (leafInRange c 0x12)) 15 (leafInRange c 0x10)
      edx := implying (implying r.edx 15 (nativeModelLeaf c)) 18 (leafInRange c 0x1B) }
  else if sub = 1 then
    { r with
      eax := implying (implying r.eax 8 (leafInRange c 0x23)) 22 (leafInRange c 0x20)
      edx := implying (implying (implying r.edx 13 (bitAt (rawRow c 7 0).edx 5)) 19 (leafInRange c 0x24))
        23 (monitorLeafSupported c) }
  else r

/-- Leaves below 10H (R225 to R273). -/
def fixLow (c : Cfg) (leaf sub : Nat) (r : CpuidRow) : CpuidRow :=
  if leaf = 0 then { r with ebx := 0x756E6547, ecx := 0x6C65746E, edx := 0x49656E69 }
  else if leaf = 1 then fixFeatures c r
  else if leaf = 4 then fixCache c r
  else if leaf = 5 then { r with eax := r.eax &&& 0xFFFF, ebx := r.ebx &&& 0xFFFF }
  else if leaf = 6 then { r with ecx := r.ecx &&& 0xFF09, edx := setBitTo r.edx 1 (bitAt r.edx 0) }
  else if leaf = 7 then fixSeven c sub r
  else if leaf = 8 ∨ leaf = 0xC ∨ leaf = 0xE then zeroRow
  else if leaf = 0xA then { r with ebx := r.ebx &&& 0x1FFF, edx := r.edx &&& 0x9FFF }
  else if leaf = 0xB then fixTopology c sub r
  else if leaf = 0xD then (if 1 < sub then fixComponent c sub r else r)
  else r

/-- EAX of leaf 1EH sub-leaf 1 (R332): bits 3:0 duplicate AMX-INT8, AMX-BF16, AMX-COMPLEX and AMX-FP16 of leaf 07H (R263, R264,
R266), whatever is listed for them, and the rest but for bits 8:4 is zero. -/
def amxFlags (c : Cfg) (listed : W32) : W32 :=
  let q := rawRow c 7 0
  let r := if withinLast c 7 1 then rawRow c 7 1 else zeroRow
  setBitTo (setBitTo (setBitTo (setBitTo (listed &&& 0x1F0)
    0 (bitAt q.edx 25)) 1 (bitAt q.edx 22)) 2 (bitAt r.edx 8)) 3 (bitAt r.eax 21)

/-- Leaves from 10H to 7FFFFFFFH (R283 to R342). The rules of leaves 20H and 24H name no invalid sub-leaf, so that every sub-leaf is
the configured row (R221 item 1). R284 and C11 say of a sub-leaf of leaf 14H above the last one only that it is not valid: the
model answers zeros (DESIGN CHOICE, notes/assumptions/45.md). R288 calls leaf 17H valid where MaxSOCID_Index is 3 or more and does not
say what it answers below 3: the model answers the configured rows up to the index (DESIGN CHOICE, notes/assumptions/45.md). Of an invalid sub-leaf of leaf 1BH R292 says that its type, EBX, ECX and EDX are 0: the
model answers 0 in the rest of EAX too (DESIGN CHOICE, notes/assumptions/45.md). Of EBX of leaf 23H sub-leaf 4 the bits that R765 prints as 0 are 0; bit 7, which C44 makes
reserved, is the configured one (R15, V4). -/
def fixMid (c : Cfg) (leaf sub : Nat) (r : CpuidRow) : CpuidRow :=
  if leaf = 0x12 then (if 1 < sub then fixEpc r else r)
  else if leaf = 0x14 then (if withinLast c 0x14 sub then r else zeroRow)
  else if leaf = 0x15 then { r with edx := 0 }
  else if leaf = 0x16 then keepBits r 0xFFFF 0xFFFF 0xFFFF 0xFFFFFFFF
  else if leaf = 0x17 then
    (if !withinLast c 0x17 sub then zeroRow
     else if sub = 0 then { r with ebx := r.ebx &&& 0x1FFFF } else r)
  else if leaf = 0x18 then fixTranslation c sub r
  else if leaf = 0x1B then (if typedUpTo c 0x1B sub (fun q => fieldOf q.eax 11 0) then r else zeroRow)
  else if leaf = 0x1C then rawRow c 0x1C 0
  else if leaf = 0x1D then
    (if sub = 0 then keepBits r 0xFFFFFFFF 0 0 0 else if sub = 1 then keepBits r 0xFFFFFFFF 0xFFFFFFFF 0xFFFF 0 else r)
  else if leaf = 0x1E then
    (if sub = 0 then keepBits r 0 0xFFFFFF 0 0
     else if sub = 1 then { r with eax := amxFlags c r.eax, ebx := 0, ecx := 0, edx := 0 } else r)
  else if leaf = 0x1F then
    (if typedUpTo c 0x1F sub (fun q => fieldOf q.ecx 15 8) then r
     else { r with eax := 0, ebx := 0, ecx := r.ecx &&& 0xFFFF00FF })
  else if leaf = 0x21 then zeroRow
  else if leaf = 0x23 then
    (if !perfmonSub c sub then zeroRow else if sub = 4 then { r with ebx := r.ebx &&& 0x60E603F8 } else r)
  else r

/-- Extended leaves (R344 to R349). The last of the 48 bytes of the brand string, EDX[31:24] of leaf 80000004H, is NUL (R345). -/
def fixExt (leaf : Nat) (r : CpuidRow) : CpuidRow :=
  if leaf = 0x80000001 then { r with edx := r.edx &&& 0x2C100FFF }
  else if leaf = 0x80000004 then { r with edx := r.edx &&& 0x00FFFFFF }
  else if leaf = 0x80000005 then zeroRow
  else if leaf = 0x80000006 then keepBits r 0 0 0xFFFFFFFF 0
  else if leaf = 0x80000007 then keepBits r 0 0 0 0x100
  else if leaf = 0x80000008 then keepBits r 0xFFFF 0x200 0 0
  else r

/-- `Cfg.cpuid(leaf, subleaf)` (R10, D13): the configured row within what the spec fixes. -/
def cpuidCfg (c : Cfg) (leaf sub : Nat) : CpuidRow :=
  let r := rawRow c leaf sub
  if leaf < 0x10 then fixLow c leaf sub r
  else if leaf < 0x80000000 then fixMid c leaf sub r
  else fixExt leaf r

/-! ### Configuration values that CPUID holds (R10) -/

/-- `Cfg.MAXPHYADDR` (R349). -/
def maxPhyAddr (c : Cfg) : Nat := fieldOf (cpuidCfg c 0x80000008 0).eax 7 0
/-- `Cfg.LINADDR` (R349). -/
def linAddr (c : Cfg) : Nat := fieldOf (cpuidCfg c 0x80000008 0).eax 15 8
/-- `Cfg.MAXVL` (R342). -/
def maxVL (c : Cfg) : Nat :=
  let b := (cpuidCfg c 0x24 0).ebx
  if bitAt b 18 then 512 else if bitAt b 17 then 256 else 128
/-- `Cfg.n_trigger_cfg` (R285). -/
def nTriggerCfg (c : Cfg) : Nat := fieldOf (cpuidCfg c 0x14 1).eax 10 8
/-- `Cfg.cba_max_level` (R280). -/
def cbaMaxLevel (c : Cfg) : Nat := fieldOf (cpuidCfg c 0x10 5).eax 7 0
/-- `Cfg.cba_max_cos` (R280). -/
def cbaMaxCos (c : Cfg) : Nat := fieldOf (cpuidCfg c 0x10 5).edx 15 0
/-- IA32_TSE_CAPABILITY as read: its reserved bits 35:24 and 63:51 are 0 (R49, R732, D15). -/
def tseCapability (c : Cfg) : W64 := c.tseCapability &&& 0x0007FFF000FFFFFF

/-- Architectural performance monitoring's version (R269). -/
def perfmonVersion (c : Cfg) : Nat := fieldOf (cpuidCfg c 0xA 0).eax 7 0
/-- Width of the performance counters (R269). -/
def gpWidth (c : Cfg) : Nat := fieldOf (cpuidCfg c 0xA 0).eax 23 16
/-- Width of the fixed-function counters (R269). R269 gives EDX[12:5] a meaning above version 1 only; the model takes the field at
version 1 too, for a fixed counter that ECX reports there (DESIGN CHOICE, notes/assumptions/16.md). -/
def fxWidth (c : Cfg) : Nat := fieldOf (cpuidCfg c 0xA 0).edx 12 5
/-- General-purpose counter `n` exists: the bitmap of leaf 23H (R337), else the number in leaf 0AH (R269). -/
def gpExists (c : Cfg) (n : Nat) : Bool :=
  if perfmonSub c 1 then bitAt (cpuidCfg c 0x23 1).eax n
  else perfmonVersion c != 0 && decide (n < fieldOf (cpuidCfg c 0xA 0).eax 15 8) && decide (n < 32)
/-- Fixed-function counter `m` exists: the bitmap of leaf 23H (R337), else leaf 0AH's bitmap or number (R269). -/
def fxExists (c : Cfg) (m : Nat) : Bool :=
  if perfmonSub c 1 then bitAt (cpuidCfg c 0x23 1).ebx m
  else perfmonVersion c != 0
    && (bitAt (cpuidCfg c 0xA 0).ecx m
      || (decide (1 < perfmonVersion c) && decide (m < fieldOf (cpuidCfg c 0xA 0).edx 4 0)))
/-- The sub-leaves of leaf 1BH that can be valid: each of its listed rows, and its first ones (R292). -/
def pconfigSubs (c : Cfg) : List Nat :=
  c.cpuid.filterMap (fun r => if r.leaf == 0x1B then r.sub else none) ++ List.range (c.cpuid.length + 1)
/-- PCONFIG target `t` is enumerated by leaf 1BH (R292, R471): a valid sub-leaf of type 1 names it. -/
def pconfigTarget (c : Cfg) (t : Nat) : Bool :=
  t != 0 && (pconfigSubs c).any (fun n =>
    let r := cpuidCfg c 0x1B n
    fieldOf r.eax 11 0 == 1 && (r.ebx.toNat == t || r.ecx.toNat == t || r.edx.toNat == t))

/-! ### Feature flags (R353) -/

/-- Bit of EAX of a leaf. -/
def featA (c : Cfg) (leaf sub i : Nat) : Bool := bitAt (cpuidCfg c leaf sub).eax i
/-- Bit of EBX of a leaf. -/
def featB (c : Cfg) (leaf sub i : Nat) : Bool := bitAt (cpuidCfg c leaf sub).ebx i
/-- Bit of ECX of a leaf. -/
def featC (c : Cfg) (leaf sub i : Nat) : Bool := bitAt (cpuidCfg c leaf sub).ecx i
/-- Bit of EDX of a leaf. -/
def featD (c : Cfg) (leaf sub i : Nat) : Bool := bitAt (cpuidCfg c leaf sub).edx i

/-- AVX (R229). -/
def hasAvx (c : Cfg) : Bool := featC c 1 0 28
/-- MSR (R230). -/
def hasMsr (c : Cfg) : Bool := featD c 1 0 5
/-- PCONFIG (R263). -/
def hasPconfig (c : Cfg) : Bool := featD c 7 0 18
/-- AMX-BF16 (R263). -/
def hasAmxBf16 (c : Cfg) : Bool := featD c 7 0 22
/-- AMX-TILE (R263). -/
def hasAmxTile (c : Cfg) : Bool := featD c 7 0 24
/-- SM4 (R264). -/
def hasSm4 (c : Cfg) : Bool := featA c 7 1 2
/-- RAO-INT (R264). -/
def hasRaoInt (c : Cfg) : Bool := featA c 7 1 3
/-- WRMSRNS (R264). -/
def hasWrmsrns (c : Cfg) : Bool := featA c 7 1 19
/-- AMX-FP16 (R264). -/
def hasAmxFp16 (c : Cfg) : Bool := featA c 7 1 21
/-- MOVRS (R264). -/
def hasMovrs (c : Cfg) : Bool := featA c 7 1 31
/-- PBNDKB (R265). -/
def hasPbndkb (c : Cfg) : Bool := featB c 7 1 1
/-- MSR_IMM (R265). -/
def hasMsrImm (c : Cfg) : Bool := featC c 7 1 5
/-- AMX-COMPLEX (R266). -/
def hasAmxComplex (c : Cfg) : Bool := featD c 7 1 8
/-- UTMR (R266). -/
def hasUtmr (c : Cfg) : Bool := featD c 7 1 13
/-- USER_MSR (R266). -/
def hasUserMsr (c : Cfg) : Bool := featD c 7 1 15
/-- AVX10.2 (R266, R342). -/
def hasAvx102 (c : Cfg) : Bool := featD c 7 1 19 && decide (2 ≤ fieldOf (cpuidCfg c 0x24 0).ebx 7 0)
/-- APX_F (R266). -/
def hasApx (c : Cfg) : Bool := featD c 7 1 21
/-- AMX-FP8 (R332). -/
def hasAmxFp8 (c : Cfg) : Bool := featA c 0x1E 1 4
/-- AMX-TRANSPOSE (R332). -/
def hasAmxTranspose (c : Cfg) : Bool := featA c 0x1E 1 5
/-- AMX-TF32 (R332). -/
def hasAmxTf32 (c : Cfg) : Bool := featA c 0x1E 1 6
/-- AMX-AVX512 (R332). -/
def hasAmxAvx512 (c : Cfg) : Bool := featA c 0x1E 1 7
/-- AMX-MOVRS (R332). -/
def hasAmxMovrs (c : Cfg) : Bool := featA c 0x1E 1 8
/-- Architectural PEBS (R336), of a valid leaf 23H. -/
def hasArchPebs (c : Cfg) : Bool := featA c 0x23 0 5
/-- Cache Bandwidth Allocation (R276, R721). -/
def hasCba (c : Cfg) : Bool := featB c 7 0 15 && featB c 0x10 0 5
/-- Trigger tracing (R284, R740). -/
def hasPttt (c : Cfg) : Bool := featB c 0x14 0 9
/-- Monitorless MWAIT (R235). -/
def hasMonitorless (c : Cfg) : Bool := featC c 5 0 3

/-! ### The answer (R221) -/

/-- IA32_MISC_ENABLE (R55). -/
def miscEnable (s : State) : W64 := Store.get 0 s.msr 0x1A0

/-- MONITOR/MWAIT are enabled by IA32_MISC_ENABLE[18] (R55, R529). -/
def monitorEnabled (s : State) : Bool := bitAt (miscEnable s) 18

/-- The local APIC is enabled, by bit 11 of IA32_APIC_BASE (R900: the APIC flag follows its control register; the register and
the bit are PRESUMED, notes/assumptions/45.md). -/
def apicEnabled (s : State) : Bool := bitAt (Store.get 0 s.msr 0x1B) 11

/-- IA32_TME_ACTIVATE is locked, enabled, with KeyID bits (R473): TME-MK is enabled. -/
def tmeReady (s : State) : Bool :=
  let a := Store.get 0 s.msr 0x982
  bitAt a 0 && bitAt a 1 && fieldOf a 35 32 != 0

/-- The bits that address physical memory: MAXPHYADDR, less the KeyID bits where TME-MK is enabled (R349). -/
def State.physBits (s : State) : Nat :=
  maxPhyAddr s.cfg - (if tmeReady s then fieldOf (Store.get 0 s.msr 0x982) 35 32 else 0)

/-- The highest basic leaf: 3 under BOOT_NT4 (R221). -/
def maxBasic (s : State) : Nat :=
  let m := (cpuidCfg s.cfg 0 0).eax.toNat
  if bitAt (miscEnable s) 22 && decide (3 < m) then 3 else m

/-- The XSAVE components that a bitmap names, from 2 up. -/
def xsaveComponents (bv : W64) : List Nat := ((List.range 61).map (· + 2)).filter (fun i => bitAt bv i)

/-- Legacy region and header of an XSAVE area: 512 and 64 bytes (PRESUMED, the spec prints no number;
notes/assumptions/45.md). -/
def xsaveBase : Nat := 576

/-- Size of the standard-format XSAVE area for a set of components (R271). -/
def xsaveSize (c : Cfg) (bv : W64) : Nat :=
  (xsaveComponents bv).foldl
    (fun n i => max n ((cpuidCfg c 0xD i).eax.toNat + (cpuidCfg c 0xD i).ebx.toNat)) xsaveBase

/-- Size of the compacted XSAVE area for a set of components (R272, R273). -/
def xsaveCompactSize (c : Cfg) (bv : W64) : Nat :=
  (xsaveComponents bv).foldl
    (fun n i =>
      let r := cpuidCfg c 0xD i
      (if bitAt r.ecx 1 then (n + 63) / 64 * 64 else n) + r.eax.toNat) xsaveBase

/-- The components that leaf 0DH sub-leaf 0 reports for XCR0 (R271). -/
def xcr0Valid (c : Cfg) : W64 := (cpuidCfg c 0xD 0).edx ++ (cpuidCfg c 0xD 0).eax

/-- EBX of leaf 0DH sub-leaf 1 (R272): the area for XCR0 and IA32_XSS, for XCR0 alone without XSAVES, and zero without XSAVES and
XSAVEC. R272 says "the XSAVE area" and no format: the model reads it as the compacted one (PRESUMED, notes/assumptions/45.md). -/
def compactedSize (s : State) : Nat :=
  if featA s.cfg 0xD 1 3 then xsaveCompactSize s.cfg (s.sys.xcr0 ||| Store.get 0 s.msr 0xDA0)
  else if featA s.cfg 0xD 1 1 then xsaveCompactSize s.cfg s.sys.xcr0
  else 0

/-- The answer of a leaf in range, with the bits that follow other state (R229, R262, R266, R268, R271, R272, R797, R900). Leaf
05H answers zeros while IA32_MISC_ENABLE[18] is 0: the spec says "not supported" and no more (R55, R529;
DESIGN CHOICE, notes/assumptions/45.md). -/
def cpuidLeaf (s : State) (leaf sub : Nat) : CpuidRow :=
  let r := cpuidCfg s.cfg leaf sub
  if leaf = 0 then { r with eax := BitVec.ofNat 32 (maxBasic s) }
  else if leaf = 1 then
    { r with ecx := setBitTo (setBitTo r.ecx 27 (bitAt s.sys.cr4 18)) 3 (bitAt r.ecx 3 && monitorEnabled s)
             edx := setBitTo r.edx 9 (bitAt r.edx 9 && apicEnabled s) }
  else if leaf = 5 then (if monitorEnabled s then r else zeroRow)
  else if leaf = 7 then
    if sub = 0 then { r with ecx := setBitTo r.ecx 4 (bitAt s.sys.cr4 22) }
    else if sub = 1 then { r with edx := setBitTo r.edx 23 (bitAt r.edx 23 && monitorEnabled s) }
    else r
  else if leaf = 9 then { r with eax := (Store.get 0 s.msr 0x1F8).setWidth 32 }
  else if leaf = 0xB ∨ leaf = 0x1F then
    { r with ecx := (r.ecx &&& 0xFFFFFF00) ||| BitVec.ofNat 32 (sub % 256)
             edx := (cpuidCfg s.cfg leaf 0).edx }
  else if leaf = 0xD ∧ sub = 0 then
    { r with ebx := BitVec.ofNat 32 (xsaveSize s.cfg s.sys.xcr0)
             ecx := BitVec.ofNat 32 (xsaveSize s.cfg (xcr0Valid s.cfg)) }
  else if leaf = 0xD ∧ sub = 1 then { r with ebx := BitVec.ofNat 32 (compactedSize s) }
  else if leaf = 0x23 ∧ (sub = 4 ∨ sub = 5) ∧ s.ctx.td = .noPerfmon then zeroRow
  else r

/-- `CpuidAnswer(leaf, subleaf)` (R221, R335). -/
def cpuidAnswer (s : State) (leaf sub : Nat) : CpuidRow :=
  if (leaf ≤ maxBasic s ∧ !neverLeaf leaf) ∨ (0x80000000 ≤ leaf ∧ leaf ≤ (cpuidCfg s.cfg 0x80000000 0).eax.toNat) then
    cpuidLeaf s leaf sub
  else cpuidLeaf s (maxBasic s) sub

end Sys2Proof.Machine
end

