-- ==== Sys2Proof/Machine/Ops.lean ====
section
/-! DEFINITION. The named operations over registers, modes and memory that the meanings share, and TAKING AN EXCEPTION as one
operation (60_exceptions.md R829) with the return from one beside it. -/

namespace Sys2Proof.Machine

/-! ### What can stop an instruction -/

/-- Why an instruction does not complete: an exception (R820), a page fault with its linear address (R823), #NM by
IA32_XFD[18] (R825), a VM exit (R507), a transaction abort (R875). -/
inductive Trap where
  | exn (e : Exn) (code : Option W32)
  | page (la : W64) (code : W32)
  | xfd
  | exit (reason : W32) (qualification : W64) (info : W32)
  | abort
  deriving DecidableEq, Repr

/-- A piece of an instruction: it reads and changes the state, or stops with a trap and the state reached so far. -/
abbrev Act (α : Type) := EStateM Trap State α

/-- Stop with a trap unless a condition holds. -/
def need (c : Bool) (t : Trap) : Act Unit := if c then pure () else throw t

/-- A pure stage that can stop. -/
def liftE {α : Type} (x : Except Trap α) : Act α :=
  match x with
  | .ok a => pure a
  | .error t => throw t

/-! ### Registers -/

/-- Read a general register (R31). -/
def Gprs.get (r : Gprs) : Gpr → W64
  | .rax => r.rax | .rcx => r.rcx | .rdx => r.rdx | .rbx => r.rbx | .rsp => r.rsp | .rbp => r.rbp | .rsi => r.rsi
  | .rdi => r.rdi | .r8 => r.r8 | .r9 => r.r9 | .r10 => r.r10 | .r11 => r.r11 | .r12 => r.r12 | .r13 => r.r13
  | .r14 => r.r14 | .r15 => r.r15

/-- Write a general register (R31). -/
def Gprs.set (r : Gprs) (g : Gpr) (v : W64) : Gprs :=
  match g with
  | .rax => { r with rax := v } | .rcx => { r with rcx := v } | .rdx => { r with rdx := v } | .rbx => { r with rbx := v }
  | .rsp => { r with rsp := v } | .rbp => { r with rbp := v } | .rsi => { r with rsi := v } | .rdi => { r with rdi := v }
  | .r8 => { r with r8 := v } | .r9 => { r with r9 := v } | .r10 => { r with r10 := v } | .r11 => { r with r11 := v }
  | .r12 => { r with r12 := v } | .r13 => { r with r13 := v } | .r14 => { r with r14 := v } | .r15 => { r with r15 := v }

/-- A general register of the machine. -/
def State.reg (s : State) (g : Gpr) : W64 := s.gpr.get g

/-- The machine with a general register changed. -/
def State.setReg (s : State) (g : Gpr) (v : W64) : State := { s with gpr := s.gpr.set g v }

/-- Low 32 bits of a general register (R31). -/
def State.reg32 (s : State) (g : Gpr) : W32 := (s.reg g).setWidth 32

/-- A 32-bit result: zero-extended into the upper half (R31). -/
def State.setReg32 (s : State) (g : Gpr) (v : W32) : State := s.setReg g (v.setWidth 64)

/-- A 16-bit result: the upper bits stay (R422). -/
def State.setReg16 (s : State) (g : Gpr) (v : BitVec 16) : State :=
  s.setReg g ((s.reg g &&& 0xFFFFFFFFFFFF0000) ||| v.setWidth 64)

/-- Read a byte register (R421). -/
def State.reg8 (s : State) : Reg8 → Byte
  | .low g => (s.reg g).setWidth 8
  | .ah => (s.reg .rax).extractLsb' 8 8
  | .ch => (s.reg .rcx).extractLsb' 8 8
  | .dh => (s.reg .rdx).extractLsb' 8 8
  | .bh => (s.reg .rbx).extractLsb' 8 8

/-- Bits 15:8 of a register replaced. -/
def setHigh8 (w : W64) (v : Byte) : W64 := (w &&& 0xFFFFFFFFFFFF00FF) ||| (v.setWidth 64 <<< 8)

/-- Write a byte register: the other bits stay (R421). -/
def State.setReg8 (s : State) (r : Reg8) (v : Byte) : State :=
  match r with
  | .low g => s.setReg g ((s.reg g &&& 0xFFFFFFFFFFFFFF00) ||| v.setWidth 64)
  | .ah => s.setReg .rax (setHigh8 (s.reg .rax) v)
  | .ch => s.setReg .rcx (setHigh8 (s.reg .rcx) v)
  | .dh => s.setReg .rdx (setHigh8 (s.reg .rdx) v)
  | .bh => s.setReg .rbx (setHigh8 (s.reg .rbx) v)

/-- A vector register (R38). -/
def State.zmm (s : State) (r : VReg) : W512 := s.vec.zmm[r]

/-- The machine with a vector register changed. -/
def State.setZmm (s : State) (r : VReg) (v : W512) : State := { s with vec := { s.vec with zmm := s.vec.zmm.set r v } }

/-- An opmask register (R39). -/
def State.kreg (s : State) (k : KReg) : W64 := s.vec.k[k]

/-- A model-specific register's stored value (R44). -/
def State.msrVal (s : State) (a : Nat) : W64 := Store.get 0 s.msr a

/-- The machine with a model-specific register's stored value changed. -/
def State.setMsr (s : State) (a : Nat) (v : W64) : State := { s with msr := Store.put 0 s.msr a v }

/-- A free value is drawn: the counter advances (notes/assumptions/11.md). -/
def State.drawn (s : State) (n : Nat) : State := { s with draws := s.draws + n }

/-! ### Modes (R34) -/

/-- The five operating modes. -/
inductive Mode where
  | real | v86 | prot | compat | long
  deriving DecidableEq, Repr

/-- The operating mode (R34). -/
def State.mode (s : State) : Mode :=
  if !bitAt s.sys.cr0 0 then .real
  else if bitAt s.sys.efer 10 then (if s.sys.csL then .long else .compat)
  else if bitAt s.rflags 17 then .v86
  else .prot

/-- 64-bit mode: IA32_EFER.LMA = 1 and CS.L = 1 (R34). -/
def State.is64 (s : State) : Bool := s.mode == .long

/-- The current privilege level: 0 in real-address mode, 3 in virtual-8086 mode (R34). -/
def State.cpl (s : State) : Nat :=
  match s.mode with
  | .real => 0
  | .v86 => 3
  | _ => s.sys.cpl.val

/-- In VMX non-root operation. -/
def State.nonRoot (s : State) : Bool := s.ctx.vmx == .nonRoot

/-- A tertiary processor-based VM-execution control in force (R62, R734, R853). -/
def State.tertiary (s : State) (i : Nat) : Bool := s.vmcs.activateTertiary && bitAt s.vmcs.tertiary i

/-- What decoding depends on (R163, R164). -/
def State.decMode (s : State) : DecMode :=
  ⟨s.is64, s.sys.csD, !(s.mode == .real || s.mode == .v86)⟩

/-- #UD (R821). -/
def udTrap : Trap := .exn .ud none

/-- #GP(0), without an error code in real-address mode (R822). -/
def gpTrap (s : State) : Trap := .exn .gp (if s.mode == .real then none else some 0)

/-- #SS(0), without an error code in real-address mode (R824). -/
def ssTrap (s : State) : Trap := .exn .ss (if s.mode == .real then none else some 0)

/-- #AC(0) (R826). -/
def acTrap : Trap := .exn .ac (some 0)

/-- #NM by CR0.TS (R825). -/
def nmTrap : Trap := .exn .nm none

/-- The address of the next instruction (R32, R170). -/
def State.nextRip (s : State) : W64 :=
  if s.is64 then s.rip + BitVec.ofNat 64 s.ilen
  else if s.sys.csD then ((s.rip + BitVec.ofNat 64 s.ilen).setWidth 32).setWidth 64
  else ((s.rip + BitVec.ofNat 64 s.ilen).setWidth 16).setWidth 64

/-- `pc <- pc + length` (R32). -/
def State.advance (s : State) : State := { s with rip := s.nextRip }

/-! ### Taking an exception, a VM exit, a transaction abort; and returning -/

/-- Vector numbers (R820, D4). -/
def Exn.vector : Exn → Nat
  | .db => 1 | .ud => 6 | .nm => 7 | .ss => 12 | .gp => 13 | .pf => 14 | .ac => 17

/-- `Deliver(vector, errcode)` (R829): the saved RIP is the faulting instruction's. -/
def State.deliver (s : State) (e : Exn) (code : Option W32) : State :=
  { s with delivered := some (.exception e.vector code s.rip) }

/-- `VMexit` (R860): the exit information, the guest deadline saved and cleared (R858), VMX root operation. -/
def State.vmExit (s : State) (reason : W32) (qualification : W64) (info : W32) : State :=
  let v := { s.vmcs with exitReason := reason, exitQualification := qualification, exitInfo := info
                         exitLength := BitVec.ofNat 32 s.ilen }
  { s with
    vmcs := if bitAt s.cfg.vmxProcbasedCtls3 8 then { v with guestDeadline := s.guestDeadline } else v
    guestDeadline := if bitAt s.cfg.vmxProcbasedCtls3 8 then 0 else s.guestDeadline
    ctx := { s.ctx with vmx := .root }
    delivered := some (.vmExit s.rip) }

/-- `TsxAbort` (R875): the transaction ends and EAX holds the abort's information, a free value. -/
def State.tsxAbort (s : State) : State :=
  { (s.setReg32 .rax (Config.tsxAbortStatus s.draws)).drawn 1 with
    ctx := { s.ctx with tsx := false }
    delivered := some (.tsxAbort s.rip) }

/-- TAKING AN EXCEPTION: the one operation behind every trap of every meaning. #PF also writes CR2 (R823); #NM by
IA32_XFD also sets IA32_XFD_ERR[18] (R825). An exception inside a transaction leaves the transaction open: the spec does not say
what it does to one (R875; DESIGN CHOICE, notes/assumptions/19.md). -/
def State.takeTrap (s : State) (t : Trap) : State :=
  match t with
  | .exn e code => s.deliver e code
  | .page la code => { s with sys := { s.sys with cr2 := la } }.deliver .pf (some code)
  | .xfd => (s.setMsr 0x1C5 (setBitTo (s.msrVal 0x1C5) 18 true)).deliver .nm none
  | .exit reason qual info => s.vmExit reason qual info
  | .abort => s.tsxAbort

/-- Returning from an exception to the instruction it interrupted (R830): execution goes on at the saved RIP. -/
def State.resume (s : State) : State := { s with delivered := none }

/-- The end of an instruction: RIP advances, or the trap is taken. -/
def settle (a : Act Unit) (s : State) : Host.Outcome State Fault Refusal :=
  match a s with
  | .ok _ s' => .next s'.advance
  | .error t s' => .next (s'.takeTrap t)

/-! ### Physical memory (R120) -/

/-- What a byte that nothing has written reads as: notes/assumptions/6.md (DESIGN CHOICE, unsafe). -/
def memDefault : Byte := 0

/-- Read one byte of physical memory. -/
def readByte (m : Store Byte) (a : Nat) : Byte := Store.get memDefault m a

/-- Write one byte of physical memory. -/
def writeByte (m : Store Byte) (a : Nat) (b : Byte) : Store Byte := Store.put memDefault m a b

/-- The canonical form of memory. -/
def Memory.wf (m : Store Byte) : Bool := Store.wf memDefault m

/-- Read the bytes at a list of addresses. -/
def readBytes (m : Store Byte) (as : List Nat) : List Byte := as.map (readByte m)

/-- Write bytes at a list of addresses. -/
def writeBytes (m : Store Byte) : List Nat → List Byte → Store Byte
  | a :: as, b :: bs => writeBytes (writeByte m a b) as bs
  | _, _ => m

/-- The little-endian number of a byte list (R120). -/
def leNat : List Byte → Nat
  | [] => 0
  | b :: bs => b.toNat + 256 * leNat bs

/-- The little-endian value of a byte list. -/
def leVal (n : Nat) (bs : List Byte) : BitVec n := BitVec.ofNat n (leNat bs)

/-- The bytes of a value, least significant first (R120). -/
def toBytes {w : Nat} (n : Nat) (v : BitVec w) : List Byte := leBytes n v.toNat

/-! ### Posted RAO updates (R130 to R134) -/

/-- `Mem op src` on one location (R130). -/
def RaoOp.apply (op : RaoOp) (old src : W64) : W64 :=
  match op with
  | .add => old + src
  | .and => old &&& src
  | .or => old ||| src
  | .xor => old ^^^ src

/-- Perform one posted update, atomically (R130). -/
def raoPerform (m : Store Byte) (e : RaoEntry) : Store Byte :=
  writeBytes m e.bytes (toBytes e.bytes.length (e.op.apply (leVal 64 (readBytes m e.bytes)) e.src))

/-- Perform a list of posted updates, oldest first. -/
def raoPerformAll (m : Store Byte) (l : List RaoEntry) : Store Byte := l.foldl raoPerform m

/-- Memory as this processor's own loads see it: every older posted update to the location is performed (R131). -/
def State.seen (s : State) : Store Byte := raoPerformAll s.mem s.rao

/-- Two byte ranges overlap. -/
def overlaps (a b : List Nat) : Bool := a.any (fun x => b.contains x)

/-- Split the queue (oldest first) into the updates that an access to `fp` must follow, and the others (R131): an update
that overlaps the access, or an update that overlaps a younger one of those. -/
def raoSplit (fp : List Nat) : List RaoEntry → List RaoEntry × List RaoEntry × List Nat
  | [] => ([], [], fp)
  | e :: r =>
    let (must, kept, fp') := raoSplit fp r
    if overlaps e.bytes fp' then (e :: must, kept, e.bytes ++ fp') else (must, e :: kept, fp')

/-- The monitor after a store to physical bytes: a store to the armed range triggers it (R65, R530). -/
def Monitor.stored (m : Monitor) (as : List Nat) : Monitor :=
  if m.armed && as.any (fun a => decide (m.base ≤ a) && decide (a < m.base + m.size)) then { m with armed := false } else m

/-- The bytes that a list of posted updates touches. -/
def raoBytes (l : List RaoEntry) : List Nat := l.flatMap RaoEntry.bytes

/-- Perform what an access to `fp` must follow (R131). -/
def State.raoForce (s : State) (fp : List Nat) : State :=
  match s.rao with
  | [] => s
  | l => { s with mem := raoPerformAll s.mem (raoSplit fp l).1, rao := (raoSplit fp l).2.1
                  monitor := s.monitor.stored (raoBytes (raoSplit fp l).1) }

/-- Perform every posted update: serializing instructions (R134). -/
def State.raoDrain (s : State) : State :=
  { s with mem := raoPerformAll s.mem s.rao, rao := [], monitor := s.monitor.stored (raoBytes s.rao) }

/-- Which posted updates the memory subsystem performs at a boundary, and which wait (R130, R131, I17): an update that
overlaps no older waiting one may be performed, as a free value decides. -/
def raoTick (draw : Nat) (waiting : List Nat) : List RaoEntry → List RaoEntry × List RaoEntry
  | [] => ([], [])
  | e :: r =>
    if !overlaps e.bytes waiting && Config.raoPerforms draw then
      (e :: (raoTick (draw + 1) waiting r).1, (raoTick (draw + 1) waiting r).2)
    else ((raoTick (draw + 1) (e.bytes ++ waiting) r).1, e :: (raoTick (draw + 1) (e.bytes ++ waiting) r).2)

/-- The memory subsystem acts, if anything is posted. -/
def State.raoStep (s : State) : State :=
  match s.rao with
  | [] => s
  | l => { s with mem := raoPerformAll s.mem (raoTick s.draws [] l).1, rao := (raoTick s.draws [] l).2
                  monitor := s.monitor.stored (raoBytes (raoTick s.draws [] l).1), draws := s.draws + l.length }

/-! ### Linear addresses (R122, R123) -/

/-- A segment register. -/
def State.segReg (s : State) : Seg → SegReg
  | .es => s.sys.segs.es | .cs => s.sys.segs.cs | .ss => s.sys.segs.ss
  | .ds => s.sys.segs.ds | .fs => s.sys.segs.fs | .gs => s.sys.segs.gs

/-- Canonical form (R123): bits 63 to LINADDR-1 are all equal. -/
def canonical (c : Cfg) (la : W64) : Bool :=
  decide (-(2 ^ (linAddr c - 1) : Int) ≤ la.toInt) && decide (la.toInt < 2 ^ (linAddr c - 1))

/-- The linear address of an offset: in 64-bit mode only FS and GS have a base (R122). Elsewhere the sum is cut to 32 bits, and
the later bytes of an operand that crosses 2^32 are not wrapped again: DESIGN CHOICE, the spec does not say what happens there
(notes/assumptions/10.md). -/
def State.linear (s : State) (seg : Seg) (off : W64) : W64 :=
  if s.is64 then
    match seg with
    | .fs => s.sys.segs.fs.base + off
    | .gs => s.sys.segs.gs.base + off
    | _ => off
  else ((((s.segReg seg).base + off).setWidth 32).setWidth 64)

/-- The exception of an illegal address: #SS through SS, #GP otherwise (R822, R824). -/
def segTrap (s : State) (seg : Seg) : Trap := if seg = .ss then ssTrap s else gpTrap s

/-- Real-address and virtual-8086 mode, whose effective address space is 0 to FFFFH (R123, R406). -/
def State.smallSpace (s : State) : Bool := s.mode == .real || s.mode == .v86

/-- The canonical check, or outside 64-bit mode the segment checks, for `n` bytes (R123); answers the linear address. -/
def checkLinear (s : State) (seg : Seg) (off : W64) (n : Nat) (write : Bool) : Except Trap W64 :=
  let la := s.linear seg off
  if s.is64 then
    if canonical s.cfg la && canonical s.cfg (la + BitVec.ofNat 64 (n - 1)) then .ok la else .error (segTrap s seg)
  else
    let g := s.segReg seg
    if !g.usable then .error (segTrap s seg)
    else if write && !g.writable then .error (gpTrap s)
    else if g.limit.toNat < off.toNat + (n - 1) then .error (segTrap s seg)
    else if s.smallSpace && decide (0xFFFF < off.toNat + (n - 1)) then .error (gpTrap s)
    else .ok la

/-- Alignment checking is enabled (R826). -/
def State.acEnabled (s : State) : Bool := bitAt s.sys.cr0 18 && bitAt s.rflags 18 && s.cpl == 3

/-- An address is a multiple of `n`. -/
def aligned (la : W64) (n : Nat) : Bool := la.toNat % n == 0

/-! ### Translation (R124, D2) -/

/-- Kinds of access. -/
inductive Access where
  | read | write | fetch
  deriving DecidableEq, Repr

/-- The page entry allows the access at the privilege (R124). -/
def pageAllows (e : PageEntry) (k : Access) (user : Bool) : Bool :=
  match k, user with
  | .read, true => e.userRead
  | .read, false => e.superRead
  | .write, true => e.userWrite
  | .write, false => e.superWrite
  | .fetch, true => e.userExec
  | .fetch, false => e.superExec

/-- The page-fault code: P, W/R, U/S, I/D (R124). -/
def pfCode (present : Bool) (k : Access) (user : Bool) : W32 :=
  BitVec.ofNat 32 (ext present 1 + ext (k == .write) 2 + ext user 4 + ext (k == .fetch) 16)

/-- `Translate` for one byte (R124, notes/assumptions/7.md): pages that `Cfg` does not list map to themselves. -/
def translate (s : State) (la : W64) (k : Access) (sup : Bool) : Except Trap Nat :=
  if !bitAt s.sys.cr0 31 then .ok (la.toNat % 2 ^ s.physBits)
  else
    match s.cfg.pages.find? (fun e => e.page == la.toNat / 4096) with
    | none => .ok (la.toNat % 2 ^ s.physBits)
    | some e =>
      let user := !sup && s.cpl == 3
      if e.present && pageAllows e k user then .ok ((e.frame * 4096 + la.toNat % 4096) % 2 ^ s.physBits)
      else .error (.page la (pfCode e.present k user))

/-- `Translate` for `n` bytes from a linear address: the lowest-addressed failing byte decides (R121). -/
def translateBytes (s : State) (k : Access) (sup : Bool) : Nat → W64 → Except Trap (List Nat)
  | 0, _ => .ok []
  | n + 1, la => do
    let a ← translate s la k sup
    let r ← translateBytes s k sup n (la + 1)
    .ok (a :: r)

/-- `memtype` of a physical address (R128, D21). -/
def memType (c : Cfg) (a : Nat) : MemType :=
  match c.memTypes.find? (fun e => e.1 == a / 4096) with
  | some e => e.2
  | none => .wb

/-! ### Access primitives (R121) -/

/-- Checks and translation of `n` bytes (R121, D10): segment or canonical check, #AC where the class has it, translation. -/
def accessBytes (s : State) (seg : Seg) (off : W64) (n : Nat) (k : Access) (ac : Bool) : Except Trap (List Nat) := do
  let la ← checkLinear s seg off n (k == .write)
  if ac && s.acEnabled && !aligned la n then .error acTrap
  else translateBytes s k false n la

/-- The physical bytes of a load, after the updates it must follow (R131). -/
def loadPhys (as : List Nat) : Act (List Byte) := do
  modify (·.raoForce as)
  return readBytes (← get).mem as

/-- Write physical bytes. -/
def State.store (s : State) (as : List Nat) (bs : List Byte) : State :=
  { s with mem := writeBytes s.mem as bs, monitor := s.monitor.stored as }

/-- A store to physical bytes, after the updates it must follow (R131). -/
def storePhys (as : List Nat) (bs : List Byte) : Act Unit :=
  modify (fun s => (s.raoForce as).store as bs)

/-- `MemRead` (R121). -/
def memRead (seg : Seg) (off : W64) (n : Nat) (ac : Bool) : Act (List Byte) := do
  loadPhys (← liftE (accessBytes (← get) seg off n .read ac))

/-- `MemWrite` (R121). -/
def memWrite (seg : Seg) (off : W64) (bs : List Byte) (ac : Bool) : Act Unit := do
  storePhys (← liftE (accessBytes (← get) seg off bs.length .write ac)) bs

/-! ### Trace state -/

/-- IA32_RTIT_STATUS.Paused (R53, R754). -/
def State.ptPaused (s : State) : Bool := bitAt (s.msrVal 0x571) 8

/-- PacketEn (R69, R754): what decides whether other packets are generated. -/
def State.packetEn (s : State) : Bool :=
  s.pt.branchEn && s.pt.triggerEn && s.pt.contextEn && s.pt.filterEn && !s.ptPaused

/-- The instruction that is executed has sent a packet with an IP indication (R749). -/
def State.anchor (s : State) : State := { s with pt := { s.pt with anchored := true } }

end Sys2Proof.Machine
end

