-- ==== Sys2Proof/Machine/Operands.lean ====
section
/-! DEFINITION. Operand forms: effective addresses (20_memory.md R122, 30_encoding.md R163), sibmem (R171), general-register
sizes (R172), vector registers (R38), opmasks (R39). -/

namespace Sys2Proof.Machine

/-! ### Memory operands -/

/-- Reduce an address to the address size (R122, R163). -/
def truncAddr (asz : AddrSize) (a : W64) : W64 :=
  match asz with
  | .a64 => a
  | .a32 => (a.setWidth 32).setWidth 64
  | .a16 => (a.setWidth 16).setWidth 64

/-- The value of a base (R122): none is zero, RIP-relative is the address of the next instruction. -/
def State.baseVal (s : State) : MemBase → W64
  | .none => 0
  | .reg g => s.reg g
  | .rip => s.nextRip

/-- The value of a scaled index. -/
def State.indexVal (s : State) (m : MemOp) : W64 :=
  match m.index with
  | some g => s.reg g <<< m.scale.val
  | none => 0

/-- The effective address (R122). -/
def State.ea (s : State) (m : MemOp) : W64 :=
  truncAddr m.asz (s.baseVal m.base + s.indexVal m + m.disp.signExtend 64)

/-- The segment of a memory operand (R122, R824). -/
def segOf (m : MemOp) : Seg :=
  match m.seg with
  | some g => g
  | none =>
    match m.base with
    | .reg .rsp => .ss
    | .reg .rbp => .ss
    | _ => .ds

/-- Load `n` bytes of a memory operand. -/
def loadOp (m : MemOp) (n : Nat) (ac : Bool) : Act (List Byte) := do
  memRead (segOf m) ((← get).ea m) n ac

/-- Store the bytes of a memory operand. -/
def storeOp (m : MemOp) (bs : List Byte) (ac : Bool) : Act Unit := do
  memWrite (segOf m) ((← get).ea m) bs ac

/-! ### General registers (R172) -/

/-- Bytes of `ry`. -/
def raoWidth : RaoSize → Nat
  | .o32 => 4 | .o64 => 8

/-- Bytes of `rv`. -/
def opWidth : OpSize → Nat
  | .o16 => 2 | .o32 => 4 | .o64 => 8

/-- Write a result of an operand size (R422). -/
def State.setRegSized (s : State) (sz : OpSize) (g : Gpr) (v : W64) : State :=
  match sz with
  | .o16 => s.setReg16 g (v.setWidth 16)
  | .o32 => s.setReg32 g (v.setWidth 32)
  | .o64 => s.setReg g v

/-! ### Vector registers -/

/-- The low `n` bits of a register value, the rest zero: DEST[MAXVL-1:VL] := 0 (R38). -/
def lowBits (n : Nat) (v : W512) : W512 := v &&& BitVec.ofNat 512 (2 ^ n - 1)

/-- Dword `j` of a vector (R11). -/
def dwordAt (v : W512) (j : Nat) : W32 := v.extractLsb' (32 * j) 32

/-- Word `j` of a vector (R11). -/
def wordAt (v : W512) (j : Nat) : BitVec 16 := v.extractLsb' (16 * j) 16

/-- Byte `j` of a vector (R11). -/
def byteAt (v : W512) (j : Nat) : Byte := v.extractLsb' (8 * j) 8

/-- The vector whose dword `j` is `f j`, for `j` below `n`; the rest is zero. -/
def ofDwords (n : Nat) (f : Nat → W32) : W512 :=
  (List.range n).foldl (fun v j => v ||| ((f j).setWidth 512 <<< (32 * j))) 0

/-- The vector whose word `j` is `f j`, for `j` below `n`; the rest is zero. -/
def ofWords (n : Nat) (f : Nat → BitVec 16) : W512 :=
  (List.range n).foldl (fun v j => v ||| ((f j).setWidth 512 <<< (16 * j))) 0

/-- A vector from its bytes, least significant first (R120). -/
def ofBytes (bs : List Byte) : W512 := leVal 512 bs

/-- Element `j` takes part: no writemask is k0 (R39, R424). -/
def State.maskBit (s : State) (k : KReg) (j : Nat) : Bool := k == 0 || bitAt (s.kreg k) j

end Sys2Proof.Machine
end

