-- ==== Sys2Proof/Machine/Movrs.lean ====
section
/-! DEFINITION. MOVRS, VMOVRSB/W/D/Q and PREFETCHRST2 (44_movrs_prefetchrst2.md): plain loads, the hint has no effect (R430). -/

namespace Sys2Proof.Machine

/-! ### Scalar loads (R421 to R423) -/

/-- The #UD conditions of class Legacy-MOVRS (R423). -/
def movrsOk (s : State) : Bool := s.is64 && hasMovrs s.cfg

/-- MOVRS r8, m8 (R421). -/
def movrsByte (d : Reg8) (m : MemOp) : Act Unit := do
  need (movrsOk (← get)) udTrap
  let bs ← loadOp m 1 true
  modify (·.setReg8 d (bs.headD 0))

/-- MOVRS rv, mv (R422). -/
def movrsWide (sz : OpSize) (d : Gpr) (m : MemOp) : Act Unit := do
  need (movrsOk (← get)) udTrap
  let bs ← loadOp m (opWidth sz) true
  modify (·.setRegSized sz d (leVal 64 bs))

/-- MOVRS r8, m8. -/
def execMovrsB (d : Reg8) (m : MemOp) (s : State) : Host.Outcome State Fault Refusal := settle (movrsByte d m) s

/-- MOVRS rv, mv. -/
def execMovrsV (sz : OpSize) (d : Gpr) (m : MemOp) (s : State) : Host.Outcome State Fault Refusal :=
  settle (movrsWide sz d m) s

/-! ### Vector loads (R424 to R429) -/

/-- State that EVEX instructions need enabled (R429): CR4.OSXSAVE, XCR0[7:5] = 111b, XCR0[2:1] = 11b. -/
def evexEnabled (s : State) : Bool := bitAt s.sys.cr4 18 && (s.sys.xcr0 &&& 0xE6 == 0xE6)

/-- The vector length is supported: its own bit of leaf 24H (R342, R424). -/
def vlSupported (c : Cfg) (vl : Nat) : Bool :=
  if vl = 512 then featB c 0x24 0 18 else if vl = 256 then featB c 0x24 0 17 else featB c 0x24 0 16

/-- The #UD conditions of the VMOVRS forms (R424, R429). -/
def vmovrsOk (s : State) (vl : Nat) : Bool :=
  s.is64 && evexEnabled s && hasMovrs s.cfg && hasAvx102 s.cfg && vlSupported s.cfg vl

/-- The element numbers that take part. -/
def activeElems (s : State) (k : KReg) (kl : Nat) : List Nat := (List.range kl).filter (s.maskBit k)

/-- The canonical check of each unmasked element (R424: masked-off elements do not fault). -/
def checkElems (s : State) (seg : Seg) (off : W64) (eb : Nat) : List Nat → Except Trap Unit
  | [] => .ok ()
  | j :: r => do
    let _ ← checkLinear s seg (off + BitVec.ofNat 64 (j * eb)) eb false
    checkElems s seg off eb r

/-- The physical bytes of each unmasked element. -/
def translateElems (s : State) (la : W64) (eb : Nat) : List Nat → Except Trap (List (List Nat))
  | [] => .ok []
  | j :: r => do
    let as ← translateBytes s .read false eb (la + BitVec.ofNat 64 (j * eb))
    .ok (as :: (← translateElems s la eb r))

/-- All checks of a masked vector load (R121, R424, R429, R826): answers each unmasked element's physical bytes. The unit of alignment
for #AC(0) is the whole vector, `n` bytes: the spec gives none for vectors (DESIGN CHOICE, notes/assumptions/28.md). -/
def vectorAccess (s : State) (seg : Seg) (off : W64) (eb n : Nat) (l : List Nat) : Except Trap (List (List Nat)) := do
  checkElems s seg off eb l
  if !l.isEmpty && s.acEnabled && !aligned (s.linear seg off) n then .error acTrap
  else translateElems s (s.linear seg off) eb l

/-- The element values by number: an unmasked element takes the loaded value, another stays or is zeroed (R424). -/
def mergeElem (old : W512) (e : Nat) (z : Bool) (vals : List (Nat × W64)) (j : Nat) : W64 :=
  match vals.find? (fun p => p.1 == j) with
  | some p => p.2
  | none => if z then 0 else (old.extractLsb' (e * j) e).setWidth 64

/-- A vector from `kl` elements of `e` bits; the bits above are zero. -/
def ofElems (kl e : Nat) (f : Nat → W64) : W512 :=
  (List.range kl).foldl (fun v j => v ||| (((f j).setWidth e).setWidth 512 <<< (e * j))) 0

/-- The common operation of R424: `e` bits an element, `vl` bits the vector. -/
def vmovrs (e vl : Nat) (d : VReg) (k : KReg) (z : Bool) (m : MemOp) : Act Unit := do
  let s ← get
  need (vmovrsOk s vl) udTrap
  need (!bitAt s.sys.cr0 3) nmTrap
  let l := activeElems s k (vl / e)
  let as ← liftE (vectorAccess s (segOf m) (s.ea m) (e / 8) (vl / 8) l)
  modify (·.raoForce as.flatten)
  modify (fun t => t.setZmm d (ofElems (vl / e) e
    (mergeElem (t.zmm d) e z (l.zip (as.map (fun a => leVal 64 (readBytes t.mem a)))))))

/-- VMOVRSB, 128 bits (R425). -/
def execVmovrsB128 (d : VReg) (k : KReg) (z : Bool) (m : MemOp) (s : State) : Host.Outcome State Fault Refusal :=
  settle (vmovrs 8 128 d k z m) s

/-- VMOVRSB, 256 bits (R425). -/
def execVmovrsB256 (d : VReg) (k : KReg) (z : Bool) (m : MemOp) (s : State) : Host.Outcome State Fault Refusal :=
  settle (vmovrs 8 256 d k z m) s

/-- VMOVRSB, 512 bits (R425). -/
def execVmovrsB512 (d : VReg) (k : KReg) (z : Bool) (m : MemOp) (s : State) : Host.Outcome State Fault Refusal :=
  settle (vmovrs 8 512 d k z m) s

/-- VMOVRSW, 128 bits (R426). -/
def execVmovrsW128 (d : VReg) (k : KReg) (z : Bool) (m : MemOp) (s : State) : Host.Outcome State Fault Refusal :=
  settle (vmovrs 16 128 d k z m) s

/-- VMOVRSW, 256 bits (R426). -/
def execVmovrsW256 (d : VReg) (k : KReg) (z : Bool) (m : MemOp) (s : State) : Host.Outcome State Fault Refusal :=
  settle (vmovrs 16 256 d k z m) s

/-- VMOVRSW, 512 bits (R426). -/
def execVmovrsW512 (d : VReg) (k : KReg) (z : Bool) (m : MemOp) (s : State) : Host.Outcome State Fault Refusal :=
  settle (vmovrs 16 512 d k z m) s

/-- VMOVRSD, 128 bits (R427). -/
def execVmovrsD128 (d : VReg) (k : KReg) (z : Bool) (m : MemOp) (s : State) : Host.Outcome State Fault Refusal :=
  settle (vmovrs 32 128 d k z m) s

/-- VMOVRSD, 256 bits (R427). -/
def execVmovrsD256 (d : VReg) (k : KReg) (z : Bool) (m : MemOp) (s : State) : Host.Outcome State Fault Refusal :=
  settle (vmovrs 32 256 d k z m) s

/-- VMOVRSD, 512 bits (R427). -/
def execVmovrsD512 (d : VReg) (k : KReg) (z : Bool) (m : MemOp) (s : State) : Host.Outcome State Fault Refusal :=
  settle (vmovrs 32 512 d k z m) s

/-- VMOVRSQ, 128 bits (R428). -/
def execVmovrsQ128 (d : VReg) (k : KReg) (z : Bool) (m : MemOp) (s : State) : Host.Outcome State Fault Refusal :=
  settle (vmovrs 64 128 d k z m) s

/-- VMOVRSQ, 256 bits (R428). -/
def execVmovrsQ256 (d : VReg) (k : KReg) (z : Bool) (m : MemOp) (s : State) : Host.Outcome State Fault Refusal :=
  settle (vmovrs 64 256 d k z m) s

/-- VMOVRSQ, 512 bits (R428). -/
def execVmovrsQ512 (d : VReg) (k : KReg) (z : Bool) (m : MemOp) (s : State) : Host.Outcome State Fault Refusal :=
  settle (vmovrs 64 512 d k z m) s

/-! ### PREFETCHRST2 (R432) -/

/-- PREFETCHRST2 (R432): a hint without architectural effect, whatever the address. -/
def prefetchHint (_m : MemOp) : Act Unit := pure ()

/-- PREFETCHRST2. -/
def execPrefetchrst2 (m : MemOp) (s : State) : Host.Outcome State Fault Refusal := settle (prefetchHint m) s

end Sys2Proof.Machine
end

