-- ==== Sys2Proof/Machine/AmxCommon.lean ====
section
/-! DEFINITION. What the AMX instructions share (48_amx_common_loads.md R561 to R574, R581 to R594): the palette, tile rows,
the zeroing rules, and the checks of the exception classes in the order of D10. -/

namespace Sys2Proof.Machine

/-! ### The palette (R565) -/

/-- A palette of the table: leaf 1DH, whose sub-leaves are numbered by palette; palette 0 is all zeros (R330, R565). -/
def paletteRow (c : Cfg) (p : Nat) : CpuidRow := if p = 0 then zeroRow else cpuidCfg c 0x1D p

/-- `max_palette` (R330, R565). -/
def maxPalette (c : Cfg) : Nat := (cpuidCfg c 0x1D 0).eax.toNat
/-- `palette_table[p].total_tile_bytes` (R330, R565). -/
def totalTileBytes (c : Cfg) (p : Byte) : Nat := fieldOf (paletteRow c p.toNat).eax 15 0
/-- `palette_table[p].bytes_per_tile` (R330, R565). -/
def bytesPerTile (c : Cfg) (p : Byte) : Nat := fieldOf (paletteRow c p.toNat).eax 31 16
/-- `palette_table[p].max_names` (R330, R565), at most the sixteen tile numbers of TILECFG (R562). -/
def maxNames (c : Cfg) (p : Byte) : Nat := min 16 (fieldOf (paletteRow c p.toNat).ebx 31 16)
/-- `palette_table[p].bytes_per_row` (R330, R565), at most the 64 bytes that a row of the state holds
(DESIGN CHOICE, notes/assumptions/32.md). -/
def bytesPerRow (c : Cfg) (p : Byte) : Nat := min 64 (fieldOf (paletteRow c p.toNat).ebx 15 0)
/-- `palette_table[p].max_rows` (R330, R565), at most the sixteen rows that a tile of the state holds
(DESIGN CHOICE, notes/assumptions/32.md). -/
def maxRows (c : Cfg) (p : Byte) : Nat := min 16 (fieldOf (paletteRow c p.toNat).ecx 15 0)
/-- `tmul_maxk` (R331, R565). -/
def tmulMaxK (c : Cfg) : Nat := fieldOf (cpuidCfg c 0x1E 0).ebx 7 0
/-- `tmul_maxn` (R331, R565). -/
def tmulMaxN (c : Cfg) : Nat := fieldOf (cpuidCfg c 0x1E 0).ebx 23 8
/-- `xcr0_supports_palette` (R574). -/
def xcr0SupportsPalette (s : State) (p : Byte) : Bool :=
  p == 0 || (p == 1 && bitAt s.sys.xcr0 17 && bitAt s.sys.xcr0 18)

/-! ### Tiles (R562, R564) -/

/-- A tile that the state holds: the low four bits of a checked tile number. -/
def tileIx (t : Tmm) : Fin 16 := ⟨t.val % 16, Nat.mod_lt _ (by decide)⟩

/-- Configured rows of a tile (R562). -/
def State.tileRows (s : State) (t : Tmm) : Nat := (s.amx.rows[tileIx t]).toNat
/-- Configured bytes of a row (R562). -/
def State.tileColsb (s : State) (t : Tmm) : Nat := (s.amx.colsb[tileIx t]).toNat
/-- The data of a tile (R564). -/
def State.tile (s : State) (t : Tmm) : Vector W512 16 := s.amx.tiles[tileIx t]
/-- Row `r` of a tile (R564). -/
def State.tileRow (s : State) (t : Tmm) (r : Nat) : W512 := (s.tile t).toList.getD r 0

/-- The machine with a tile's data changed. -/
def State.setTile (s : State) (t : Tmm) (v : Vector W512 16) : State :=
  { s with amx := { s.amx with tiles := s.amx.tiles.set (tileIx t) v } }

/-- The machine with `tilecfg.start_row` changed (R568). -/
def State.setStartRow (s : State) (r : Nat) : State := { s with amx := { s.amx with startRow := BitVec.ofNat 8 r } }

/-- `write_row_and_zero` (R570) with the row's bytes as one value. -/
def State.writeRow (s : State) (t : Tmm) (r : Nat) (v : W512) (nbytes : Nat) : State :=
  s.setTile t ((s.tile t).setIfInBounds r (lowBits (8 * nbytes) v))

/-- Rows from `r` on become zero. -/
def zeroFrom (v : Vector W512 16) (r : Nat) : Vector W512 16 :=
  (List.range 16).foldl (fun w i => if r ≤ i then w.setIfInBounds i 0 else w) v

/-- `zero_upper_rows` (R571). -/
def State.zeroUpperRows (s : State) (t : Tmm) (r : Nat) : State := s.setTile t (zeroFrom (s.tile t) r)

/-- A tile's data from its rows: row `r` below `n` is `f r`, the rows above are zero (R567). -/
def tileOf (n : Nat) (f : Nat → W512) : Vector W512 16 :=
  (List.range 16).foldl (fun w i => if i < n then w.setIfInBounds i (f i) else w) (Vector.replicate 16 0)

/-- All of TILEDATA zero, and TILECFG as given: LDTILECFG and TILERELEASE (R573, R597, R599). -/
def State.configureTiles (s : State) (palette startRow : Byte) (rows : Vector Byte 16)
    (colsb : Vector (BitVec 16) 16) : State :=
  { s with amx := ⟨palette, startRow, rows, colsb, Vector.replicate 16 (Vector.replicate 16 0)⟩ }

/-! ### Checks (R582 to R594) -/

/-- TILES_CONFIGURED (R563). -/
def State.tilesConfigured (s : State) : Bool := s.amx.palette != 0

/-- A tile name of the configured palette (R581, D29). -/
def State.tileName (s : State) (t : Tmm) : Bool := decide (t.val < maxNames s.cfg s.amx.palette)

/-- A valid tile: a tile name that is configured with rows and columns (R562, R585). -/
def State.tileValid (s : State) (t : Tmm) : Bool := s.tileName t && s.tileRows t != 0 && s.tileColsb t != 0

/-- A valid tile whose column bytes are a multiple of 4. -/
def State.tileDwords (s : State) (t : Tmm) : Bool := s.tileValid t && s.tileColsb t % 4 == 0

/-- Preamble P (R583) with AMX-TILE (R560). -/
def amxEnabled (s : State) : Bool :=
  s.is64 && bitAt s.sys.cr4 18 && (s.sys.xcr0 &&& 0x60000 == 0x60000) && hasAmxTile s.cfg

/-- The #UD conditions that need no TILECFG, then the transaction abort of R582. `ok` is the instruction's own features. -/
def amxBegin (ok : Cfg → Bool) : Act Unit := do
  let s ← get
  need (amxEnabled s && ok s.cfg) udTrap
  need (!s.ctx.tsx) .abort

/-- #NM if IA32_XFD[18] = 1 (R561, R585). -/
def tileDataEnabled : Act Unit := do need (!bitAt ((← get).msrVal 0x1C4) 18) .xfd

/-- `zero_tileconfig_start` (R572). -/
def zeroStartRow : Act Unit := modify (·.setStartRow 0)

/-- AMX-E3 (R585) beyond the preamble. -/
def tileMemOk (s : State) (t : Tmm) : Bool :=
  s.tilesConfigured && s.tileDwords t && decide (s.amx.startRow.toNat < s.tileRows t)

/-- AMX-E4 (R587) beyond the preamble: C is m by n, A is m by k, B is k by n. -/
def tmulOk (s : State) (c a b : Tmm) : Bool :=
  s.tilesConfigured && c != a && a != b && c != b && s.tileDwords c && s.tileDwords a && s.tileDwords b
    && s.tileColsb c == s.tileColsb b && s.tileColsb a / 4 == s.tileRows b && s.tileRows c == s.tileRows a
    && decide (s.tileColsb c ≤ tmulMaxN s.cfg) && decide (s.tileRows b ≤ tmulMaxK s.cfg)
    && decide (s.tileColsb a / 4 ≤ tmulMaxK s.cfg)

/-- AMX-E10 (R593) beyond the preamble: C is m by n, A is k by m, B is k by n. -/
def tmulTransposedOk (s : State) (c a b : Tmm) : Bool :=
  xcr0SupportsPalette s s.amx.palette && s.tilesConfigured && c != a && a != b && c != b && s.tileDwords c
    && s.tileDwords a && s.tileDwords b && s.tileColsb c == s.tileColsb b && s.tileRows c == s.tileColsb a / 4
    && s.tileRows a == s.tileRows b && decide (s.tileColsb c ≤ tmulMaxN s.cfg) && decide (s.tileRows b ≤ tmulMaxK s.cfg)

/-- AMX-E9 (R592) beyond the preamble. -/
def transposeOk (s : State) (d a : Tmm) : Bool :=
  xcr0SupportsPalette s s.amx.palette && s.tilesConfigured && s.tileDwords d && s.tileDwords a
    && s.tileRows a == s.tileColsb d / 4 && s.tileColsb a / 4 == s.tileRows d

/-- The first tile of a pair (R604): `tbase`. -/
def pairBase (t : Tmm) : Tmm := ⟨t.val / 2 * 2, by omega⟩
/-- The second tile of a pair: `tbase + 1`. -/
def pairNext (t : Tmm) : Tmm := ⟨t.val / 2 * 2 + 1, by omega⟩

/-- AMX-E11 (R594) beyond the preamble: the pair is one of the two rows of Table 3-3 (R603). -/
def pairOk (s : State) (t : Tmm) : Bool :=
  let a := pairBase t
  let b := pairNext t
  s.tilesConfigured && s.tileName a && s.tileName b && s.tileValid a && s.tileColsb a % 8 == 0
    && ((s.tileRows b == 0 && s.tileColsb b == 0)
      || (s.tileRows b == s.tileRows a && s.tileColsb b != 0 && s.tileColsb b % 8 == 0
        && s.tileColsb a == bytesPerRow s.cfg s.amx.palette))
    && decide (s.amx.startRow.toNat < 2 * s.tileRows a)

/-- The enabling conditions of AMX-E7-EVEX and AMX-E8-EVEX (R590, R591) with AVX10.2 at 512 bits (R620, R628). That the row
instructions are #UD without 512-bit support is not in the classes: DESIGN CHOICE, notes/assumptions/47.md. -/
def rowMoveEnabled (s : State) : Bool :=
  (s.sys.xcr0 &&& 0xE6 == 0xE6) && hasAvx102 s.cfg && vlSupported s.cfg 512

end Sys2Proof.Machine
end

