-- ==== Sys2Proof/Machine/Fp.lean ====
section
/-! DEFINITION. Floating-point arithmetic of the AMX instructions (48_amx_common_loads.md R569, R575 to R579): exact integer
computation, then one rounding to nearest even. A finite FP32 number is an integer multiple of 2^-149. -/

namespace Sys2Proof.Machine

/-! ### Rounding -/

/-- `n / 2^q` rounded to nearest, ties to even. -/
def roundRne (n q : Nat) : Nat :=
  let f := n >>> q
  let r := n % 2 ^ q
  if 2 ^ q < 2 * r ∨ (2 * r = 2 ^ q ∧ f % 2 = 1) then f + 1 else f

/-- The magnitude pattern of `n` units in a format with `p` fraction bits whose least denormal is `2^qmin` units; a value
past the largest finite number gives `top`, the pattern of infinity. -/
def packMag (p qmin top n : Nat) : Nat :=
  let q := max (Nat.log2 n - p) qmin
  min (roundRne n q + (q - qmin) * 2 ^ p) top

/-- A sign bit and a magnitude pattern. -/
def signed (w : Nat) (neg : Bool) (mag : Nat) : BitVec w :=
  BitVec.ofNat w (mag + if neg then 2 ^ (w - 1) else 0)

/-! ### FP32 (R184) -/

/-- The sign. -/
def fNeg (x : W32) : Bool := bitAt x 31
/-- The exponent field. -/
def fExp (x : W32) : Nat := fieldOf x 30 23
/-- The fraction field. -/
def fFrac (x : W32) : Nat := fieldOf x 22 0
/-- NaN. -/
def fNan (x : W32) : Bool := fExp x == 255 && fFrac x != 0
/-- Infinity. -/
def fInf (x : W32) : Bool := fExp x == 255 && fFrac x == 0
/-- Zero. -/
def fZero (x : W32) : Bool := fExp x == 0 && fFrac x == 0
/-- `denormal(x)` (R579). -/
def fDenormal (x : W32) : Bool := fExp x == 0 && fFrac x != 0

/-- The magnitude of a finite number in units of 2^-149. -/
def fMag (x : W32) : Nat := if fExp x = 0 then fFrac x else (2 ^ 23 + fFrac x) * 2 ^ (fExp x - 1)

/-- A finite number in units of 2^-149. -/
def fInt (x : W32) : Int := if fNeg x then -(fMag x : Int) else fMag x

/-- A signed zero. -/
def fZeroOf (neg : Bool) : W32 := signed 32 neg 0
/-- A signed infinity. -/
def fInfOf (neg : Bool) : W32 := signed 32 neg 0x7F800000

/-- A denormal becomes a zero of its sign where the flag says so (R569, R575). -/
def flush (on : Bool) (x : W32) : W32 := if on && fDenormal x then fZeroOf (fNeg x) else x

/-- The quiet NaN of `Cfg.amx_qnan` (R575, D28): its sign and payload are free (notes/assumptions/14.md). -/
def amxNan (acc x y : W32) : W32 := Config.amxQnan acc x y ||| 0x7FC00000

/-- A number of `v` units of 2^-298 rounded to FP32; `neg` is the sign of an exact zero. -/
def roundF32 (neg : Bool) (v : Int) : W32 :=
  if v = 0 then fZeroOf neg else signed 32 (v < 0) (packMag 23 149 0x7F800000 v.natAbs)

/-- `x*y + acc` for three finite numbers, rounded once (R575). -/
def fmaFinite (acc x y : W32) : W32 :=
  roundF32 ((fNeg x != fNeg y) && fNeg acc) (fInt x * fInt y + fInt acc * 2 ^ 149)

/-- `x*y + acc` by the rules of IEEE 754 (R575). -/
def fmaIeee (acc x y : W32) : W32 :=
  let neg := fNeg x != fNeg y
  if fNan acc || fNan x || fNan y then amxNan acc x y
  else if (fInf x && fZero y) || (fZero x && fInf y) then amxNan acc x y
  else if fInf x || fInf y then
    (if fInf acc && (fNeg acc != neg) then amxNan acc x y else fInfOf neg)
  else if fInf acc then acc
  else fmaFinite acc x y

/-- `fma32` (R575), rounding to nearest even, no exceptions. -/
def fma32 (acc x y : W32) (daz ftz : Bool) : W32 := flush ftz (fmaIeee (flush daz acc) (flush daz x) (flush daz y))

/-- FP32 addition with one rounding (R579): `a + b*1`. -/
def fadd (a b : W32) (daz ftz : Bool) : W32 := fma32 a b 0x3F800000 daz ftz

/-! ### Conversions -/

/-- `make_fp32` (R579). -/
def makeFp32 (b : BitVec 16) : W32 := b.setWidth 32 <<< 16

/-- The magnitude of a finite FP16 number in units of 2^-24. -/
def hMag (h : BitVec 16) : Nat :=
  if fieldOf h 14 10 = 0 then fieldOf h 9 0 else (2 ^ 10 + fieldOf h 9 0) * 2 ^ (fieldOf h 14 10 - 1)

/-- `cvt_fp16_to_fp32` (R579): exact; a NaN is quieted, its sign kept. -/
def halfToSingle (h : BitVec 16) : W32 :=
  if fieldOf h 14 10 = 31 then
    signed 32 (bitAt h 15) (0x7F800000 + (if fieldOf h 9 0 = 0 then 0 else (fieldOf h 9 0 * 2 ^ 13) ||| 0x400000))
  else if hMag h = 0 then fZeroOf (bitAt h 15)
  else signed 32 (bitAt h 15) (packMag 23 0 0x7F800000 (hMag h * 2 ^ 125))

/-- `vCvt_s2h` (R579): FP32 denormals give signed zero, FP16 denormals may result, a NaN is quieted. -/
def singleToHalf (x : W32) : BitVec 16 :=
  if fNan x then signed 16 (fNeg x) (0x7C00 + ((fFrac x >>> 13) ||| 0x200))
  else if fInf x then signed 16 (fNeg x) 0x7C00
  else if fZero x || fDenormal x then signed 16 (fNeg x) 0
  else signed 16 (fNeg x) (packMag 10 125 0x7C00 (fMag x))

/-- `convert_fp32_to_bfloat16` (R578). -/
def singleToBf16 (x : W32) : BitVec 16 :=
  if fZero x || fDenormal x then signed 16 (fNeg x) 0
  else if fInf x then x.extractLsb' 16 16
  else if fNan x then x.extractLsb' 16 16 ||| 0x40
  else (x + 0x7FFF + (if bitAt x 16 then 1 else 0)).extractLsb' 16 16

/-- `Convert_Integer_To_Single_Precision_Floating_Point` (R579). -/
def intToSingle (d : W32) : W32 :=
  if d = 0 then 0 else signed 32 (d.toInt < 0) (packMag 23 0 0x7F800000 (d.toInt.natAbs * 2 ^ 149))

/-- `zero_lower_mantissa_bits_fp32` of `silence_snan_fp32` (R651). -/
def toTf32 (x : W32) : W32 := (if fNan x then x ||| 0x400000 else x) &&& 0xFFFFE000

/-! ### FP8 (R182, R576, R577, R640, R641) -/

/-- The two FP8 formats (R182). -/
inductive Fp8 where
  | bf8 | hf8
  deriving DecidableEq, Repr

/-- Fraction bits: two in E5M2, three in E4M3 (R182). -/
def fp8FracBits : Fp8 → Nat
  | .bf8 => 2 | .hf8 => 3

/-- The binary point of the integer form: BF8 values are scaled by 2^16, HF8 values by 2^9 (R577). -/
def fp8Scale : Fp8 → Nat
  | .bf8 => 16 | .hf8 => 9

/-- The exponent field. -/
def fp8Exp (f : Fp8) (b : Byte) : Nat := (b.toNat % 128) / 2 ^ fp8FracBits f
/-- The fraction field. -/
def fp8Frac (f : Fp8) (b : Byte) : Nat := b.toNat % 2 ^ fp8FracBits f
/-- The sign. -/
def fp8Neg (b : Byte) : Bool := bitAt b 7
/-- Zero. -/
def fp8Zero (b : Byte) : Bool := b.toNat % 128 == 0

/-- NaN (R182): BF8 has exponent 31 and a fraction; HF8 has S.1111.111. -/
def fp8Nan (f : Fp8) (b : Byte) : Bool :=
  match f with
  | .bf8 => fp8Exp .bf8 b == 31 && fp8Frac .bf8 b != 0
  | .hf8 => b.toNat % 128 == 127

/-- Infinity (R182): BF8 only. -/
def fp8Inf (f : Fp8) (b : Byte) : Bool :=
  match f with
  | .bf8 => fp8Exp .bf8 b == 31 && fp8Frac .bf8 b == 0
  | .hf8 => false

/-- `convert_fp8_to_int64` (R577). -/
def fp8Int (f : Fp8) (b : Byte) : Int :=
  let m := if fp8Exp f b = 0 then fp8Frac f b else (2 ^ fp8FracBits f + fp8Frac f b) * 2 ^ (fp8Exp f b - 1)
  if fp8Neg b then -(m : Int) else m

/-- `convert_int128_to_fp32` (R576) with the sign restored (C32): `v` times 2^-factor, rounded. -/
def int128ToSingle (f1 f2 : Fp8) (v : Int) : W32 :=
  if v = 0 then 0
  else signed 32 (v < 0) (packMag 23 0 0x7F800000 (v.natAbs * 2 ^ (149 - (fp8Scale f1 + fp8Scale f2))))

/-- FP32 QNaN indefinite (R641). -/
def qnanIndefinite : W32 := 0xFFC00000

/-- A product that is infinite, with this sign (R641). -/
def fp8ProductInf (f1 f2 : Fp8) (p : Byte × Byte) (neg : Bool) : Bool :=
  (fp8Inf f1 p.1 || fp8Inf f2 p.2) && !fp8Zero p.1 && !fp8Zero p.2 && ((fp8Neg p.1 != fp8Neg p.2) == neg)

/-- A product of infinity and zero (R641). -/
def fp8ProductInvalid (f1 f2 : Fp8) (p : Byte × Byte) : Bool :=
  (fp8Inf f1 p.1 && fp8Zero p.2) || (fp8Zero p.1 && fp8Inf f2 p.2)

/-- The exact dot product (R640). -/
def fp8Sum (f1 f2 : Fp8) (l : List (Byte × Byte)) : Int := l.foldl (fun v p => v + fp8Int f1 p.1 * fp8Int f2 p.2) 0

/-- One output element of the FP8 dot product (R640, R641): `l` lists the factor pairs of all its products. -/
def fp8Dot (f1 f2 : Fp8) (acc : W32) (l : List (Byte × Byte)) : W32 :=
  if fNan acc || l.any (fun p => fp8Nan f1 p.1 || fp8Nan f2 p.2) then qnanIndefinite
  else if l.any (fp8ProductInvalid f1 f2) then qnanIndefinite
  else
    let pos := l.any (fun p => fp8ProductInf f1 f2 p false)
    let neg := l.any (fun p => fp8ProductInf f1 f2 p true)
    if pos && neg then qnanIndefinite
    else if pos || neg then
      (if fInf acc && (fNeg acc != neg) then qnanIndefinite else fInfOf neg)
    else fadd acc (int128ToSingle f1 f2 (fp8Sum f1 f2 l)) false true

end Sys2Proof.Machine
end

