-- ==== Sys2Proof/Machine/AmxCompute.lean ====
section
/-! DEFINITION. The AMX matrix multiplies (49_amx_compute.md R620 to R625, R640 to R666). An output element depends on one row
of A and one column of B, so the model computes each element by itself, its products in ascending k (R621). -/

namespace Sys2Proof.Machine

/-- The dwords of A and B that an output element reads: `a k` and `b k` for `k` below the common dimension. -/
abbrev Lane := Nat → W32

/-! ### Products of dword pairs -/

/-- The operands of the two `fma32` calls for one k: those of the even and of the odd temporary. -/
structure PairTerm where
  e1 : W32
  e2 : W32
  o1 : W32
  o2 : W32
  deriving DecidableEq, Repr

/-- The low word of a dword: the real part (R622). -/
def lowWord (d : W32) : BitVec 16 := d.extractLsb' 0 16
/-- The high word of a dword: the imaginary part (R622). -/
def highWord (d : W32) : BitVec 16 := d.extractLsb' 16 16
/-- The sign of a half flipped (R579). -/
def negHalf (h : BitVec 16) : BitVec 16 := h ^^^ 0x8000

/-- Imaginary part of a product (R622, R661): imaginary by real, real by imaginary. -/
def imagTerm (a b : W32) : PairTerm :=
  ⟨halfToSingle (highWord a), halfToSingle (lowWord b), halfToSingle (lowWord a), halfToSingle (highWord b)⟩

/-- Real part of a product (R623, R662): real by real, negated imaginary by imaginary. -/
def realTerm (a b : W32) : PairTerm :=
  ⟨halfToSingle (lowWord a), halfToSingle (lowWord b), halfToSingle (negHalf (highWord a)), halfToSingle (highWord b)⟩

/-- Imaginary part of a product with the conjugate of the first factor (R625). -/
def conjImagTerm (a b : W32) : PairTerm :=
  ⟨halfToSingle (negHalf (highWord a)), halfToSingle (lowWord b), halfToSingle (lowWord a), halfToSingle (highWord b)⟩

/-- A pair of BF16 products (R663). -/
def bf16Term (a b : W32) : PairTerm :=
  ⟨makeFp32 (lowWord a), makeFp32 (lowWord b), makeFp32 (highWord a), makeFp32 (highWord b)⟩

/-- A pair of FP16 products (R664). -/
def fp16Term (a b : W32) : PairTerm :=
  ⟨halfToSingle (lowWord a), halfToSingle (lowWord b), halfToSingle (highWord a), halfToSingle (highWord b)⟩

/-- The even temporary after the products of k below `n` (R622). -/
def evenSum (term : W32 → W32 → PairTerm) (a b : Lane) : Nat → W32
  | 0 => 0
  | n + 1 => fma32 (evenSum term a b n) (term (a n) (b n)).e1 (term (a n) (b n)).e2 true true

/-- The odd temporary after the products of k below `n` (R622). -/
def oddSum (term : W32 → W32 → PairTerm) (a b : Lane) : Nat → W32
  | 0 => 0
  | n + 1 => fma32 (oddSum term a b n) (term (a n) (b n)).o1 (term (a n) (b n)).o2 true true

/-- An output element of the pair instructions: the temporaries are added, then accumulated (R622). -/
def pairElem (term : W32 → W32 → PairTerm) (n : Nat) (a b : Lane) (c : W32) : W32 :=
  fadd c (fadd (evenSum term a b n) (oddSum term a b n) true true) true true

/-- The TF32 temporary after the products of k below `n` (R650). -/
def tf32Sum (a b : Lane) : Nat → W32
  | 0 => 0
  | n + 1 => fma32 (tf32Sum a b n) (toTf32 (a n)) (toTf32 (b n)) true true

/-- An output element of the TF32 instructions (R650, R665). -/
def tf32Elem (n : Nat) (a b : Lane) (c : W32) : W32 := fadd c (tf32Sum a b n) true true

/-- Byte `j` of a dword. -/
def dwordByte (d : W32) (j : Nat) : Byte := d.extractLsb' (8 * j) 8

/-- The factor pairs of an FP8 output element, in the printed order (R640). -/
def fp8Pairs (n : Nat) (a b : Lane) : List (Byte × Byte) :=
  (List.range n).flatMap (fun k => (List.range 4).map (fun j => (dwordByte (a k) j, dwordByte (b k) j)))

/-- An output element of the FP8 instructions (R640, R641). -/
def fp8Elem (f1 f2 : Fp8) (n : Nat) (a b : Lane) (c : W32) : W32 := fp8Dot f1 f2 c (fp8Pairs n a b)

/-! ### The loops -/

/-- How one output element follows from the common dimension, its lanes and its old value. -/
abbrev ElemOp := Nat → Lane → Lane → W32 → W32

/-- Row `m` of A, stored m by k (R622). -/
def rowLane (s : State) (t : Tmm) (m : Nat) : Lane := fun k => dwordAt (s.tileRow t m) k

/-- Column `n` of a tile: of B, stored k by n (R622), or of A stored k by m (R660). -/
def colLane (s : State) (t : Tmm) (n : Nat) : Lane := fun k => dwordAt (s.tileRow t k) n

/-- Every row of the destination from element values, the rest zero, `start_row` zero (R567, R621). -/
def State.setResult (s : State) (c : Tmm) (f : Nat → Nat → W32) : State :=
  (s.setTile c (tileOf (s.tileRows c) (fun m => ofDwords (s.tileColsb c / 4) (f m)))).setStartRow 0

/-- A multiply of class AMX-E4 (R587, R621). -/
def tmul (ok : Cfg → Bool) (op : ElemOp) (c a b : Tmm) : Act Unit := do
  amxBegin ok
  tileDataEnabled
  let s ← get
  need (tmulOk s c a b) udTrap
  set (s.setResult c (fun m n =>
    op (s.tileColsb a / 4) (rowLane s a m) (colLane s b n) (dwordAt (s.tileRow c m) n)))

/-- A multiply of class AMX-E10, the first source transposed (R593, R660). -/
def tmulTransposed (ok : Cfg → Bool) (op : ElemOp) (c a b : Tmm) : Act Unit := do
  amxBegin ok
  tileDataEnabled
  let s ← get
  need (tmulTransposedOk s c a b) udTrap
  set (s.setResult c (fun m n =>
    op (s.tileRows a) (colLane s a m) (colLane s b n) (dwordAt (s.tileRow c m) n)))

/-! ### The instructions -/

/-- AMX-TRANSPOSE and AMX-COMPLEX (R625). -/
def transposeComplex (c : Cfg) : Bool := hasAmxTranspose c && hasAmxComplex c
/-- AMX-TRANSPOSE and AMX-BF16 (R663). -/
def transposeBf16 (c : Cfg) : Bool := hasAmxTranspose c && hasAmxBf16 c
/-- AMX-TRANSPOSE and AMX-FP16 (R664, C33). -/
def transposeFp16 (c : Cfg) : Bool := hasAmxTranspose c && hasAmxFp16 c
/-- AMX-TRANSPOSE and AMX-TF32 (R665). -/
def transposeTf32 (c : Cfg) : Bool := hasAmxTranspose c && hasAmxTf32 c

/-- TCMMIMFP16PS (R622). -/
def execTcmmimfp16ps (d s1 s2 : Tmm) (s : State) : Host.Outcome State Fault Refusal :=
  settle (tmul hasAmxComplex (pairElem imagTerm) d s1 s2) s

/-- TCMMRLFP16PS (R623). -/
def execTcmmrlfp16ps (d s1 s2 : Tmm) (s : State) : Host.Outcome State Fault Refusal :=
  settle (tmul hasAmxComplex (pairElem realTerm) d s1 s2) s

/-- TCONJTCMMIMFP16PS (R625). -/
def execTconjtcmmimfp16ps (d s1 s2 : Tmm) (s : State) : Host.Outcome State Fault Refusal :=
  settle (tmulTransposed transposeComplex (pairElem conjImagTerm) d s1 s2) s

/-- TDPBF8PS (R642). -/
def execTdpbf8ps (d s1 s2 : Tmm) (s : State) : Host.Outcome State Fault Refusal :=
  settle (tmul hasAmxFp8 (fp8Elem .bf8 .bf8) d s1 s2) s

/-- TDPBHF8PS (R643). -/
def execTdpbhf8ps (d s1 s2 : Tmm) (s : State) : Host.Outcome State Fault Refusal :=
  settle (tmul hasAmxFp8 (fp8Elem .bf8 .hf8) d s1 s2) s

/-- TDPHBF8PS (R644). -/
def execTdphbf8ps (d s1 s2 : Tmm) (s : State) : Host.Outcome State Fault Refusal :=
  settle (tmul hasAmxFp8 (fp8Elem .hf8 .bf8) d s1 s2) s

/-- TDPHF8PS (R645). -/
def execTdphf8ps (d s1 s2 : Tmm) (s : State) : Host.Outcome State Fault Refusal :=
  settle (tmul hasAmxFp8 (fp8Elem .hf8 .hf8) d s1 s2) s

/-- TMMULTF32PS (R650). -/
def execTmmultf32ps (d s1 s2 : Tmm) (s : State) : Host.Outcome State Fault Refusal :=
  settle (tmul hasAmxTf32 tf32Elem d s1 s2) s

/-- TTCMMIMFP16PS (R661). -/
def execTtcmmimfp16ps (d s1 s2 : Tmm) (s : State) : Host.Outcome State Fault Refusal :=
  settle (tmulTransposed transposeComplex (pairElem imagTerm) d s1 s2) s

/-- TTCMMRLFP16PS (R662). -/
def execTtcmmrlfp16ps (d s1 s2 : Tmm) (s : State) : Host.Outcome State Fault Refusal :=
  settle (tmulTransposed transposeComplex (pairElem realTerm) d s1 s2) s

/-- TTDPBF16PS (R663). -/
def execTtdpbf16ps (d s1 s2 : Tmm) (s : State) : Host.Outcome State Fault Refusal :=
  settle (tmulTransposed transposeBf16 (pairElem bf16Term) d s1 s2) s

/-- TTDPFP16PS (R664). -/
def execTtdpfp16ps (d s1 s2 : Tmm) (s : State) : Host.Outcome State Fault Refusal :=
  settle (tmulTransposed transposeFp16 (pairElem fp16Term) d s1 s2) s

/-- TTMMULTF32PS (R665). -/
def execTtmmultf32ps (d s1 s2 : Tmm) (s : State) : Host.Outcome State Fault Refusal :=
  settle (tmulTransposed transposeTf32 tf32Elem d s1 s2) s

/-! ### Transposes (R592, R626, R690) -/

/-- A tile to tile transpose of dwords, all of the source read first (D31): `f` changes each dword. -/
def tileTranspose (ok : Cfg → Bool) (f : W32 → W32) (d a : Tmm) : Act Unit := do
  amxBegin ok
  tileDataEnabled
  let s ← get
  need (transposeOk s d a) udTrap
  set (s.setResult d (fun i j => f (dwordAt (s.tileRow a j) i)))

/-- TCONJTFP16 (R626): bit 15 of the high word flips. -/
def execTconjtfp16 (d a : Tmm) (s : State) : Host.Outcome State Fault Refusal :=
  settle (tileTranspose transposeComplex (fun w => w ^^^ 0x80000000) d a) s

/-- TTRANSPOSED (R690). -/
def execTtransposed (d a : Tmm) (s : State) : Host.Outcome State Fault Refusal :=
  settle (tileTranspose hasAmxTranspose (fun w => w) d a) s

end Sys2Proof.Machine
end

