-- ==== Sys2Proof/Machine/AmxConvert.lean ====
section
/-! DEFINITION. Row conversions and moves from a tile to a vector register (49_amx_compute.md R628 to R638, R647, R648). -/

namespace Sys2Proof.Machine

/-- A row selector (R628): the row and the first byte of the chunk. -/
structure RowSel where
  row : Nat
  chunk : Nat
  deriving DecidableEq, Repr

/-- The selector in a 32-bit register (R628). -/
def selReg (r : W32) : RowSel := ⟨fieldOf r 15 0, fieldOf r 31 16 * 64⟩

/-- The selector in an imm8 (R628). -/
def selImm (i : Byte) : RowSel := ⟨fieldOf i 5 0, fieldOf i 7 6 * 64⟩

/-- The selected chunk of a row: sixteen dwords from the chunk on, each changed by `f`; past the configured width zero (R628). -/
def chunkDwords (row : W512) (colsb chunk : Nat) (f : W32 → W32) : W512 :=
  ofDwords 16 (fun i => if colsb / 4 ≤ i + chunk / 4 then 0 else f (dwordAt row (chunk / 4 + i)))

/-- The common operation (R590, R591, R628): checks, then `f` on each dword of the row. As everywhere the transaction abort of R582
comes after the #UD conditions that need no TILECFG (notes/assumptions/19.md). With CR0.TS = 1 and IA32_XFD[18] = 1 the #NM is the one
of CR0.TS, and IA32_XFD_ERR stays: R582 and D10 leave the lines of a class unordered (DESIGN CHOICE,
notes/assumptions/9.md). -/
def rowToZmm (f : W32 → W32) (d : VReg) (t : Tmm) (sel : RowSel) : Act Unit := do
  need (rowMoveEnabled (← get)) udTrap
  amxBegin hasAmxAvx512
  let s ← get
  need (!bitAt s.sys.cr0 3) nmTrap
  tileDataEnabled
  need (s.tilesConfigured && s.tileDwords t) udTrap
  need (decide (sel.row < s.tileRows t) && decide (sel.chunk < s.tileColsb t)) (gpTrap s)
  set ((s.setZmm d (chunkDwords (s.tileRow t sel.row) (s.tileColsb t) sel.chunk f)).setStartRow 0)

/-- A 16-bit result in the high half of a dword (R631, R635). -/
def inHigh (h : BitVec 16) : W32 := h.setWidth 32 <<< 16
/-- A 16-bit result in the low half of a dword (R633, R637). -/
def inLow (h : BitVec 16) : W32 := h.setWidth 32

/-- TCVTROWD2PS, r32 selector (R629). -/
def execTcvtrowd2psR (d : VReg) (t : Tmm) (r : Gpr) (s : State) : Host.Outcome State Fault Refusal :=
  settle (rowToZmm intToSingle d t (selReg (s.reg32 r))) s

/-- TCVTROWD2PS, imm8 selector (R630). -/
def execTcvtrowd2psI (d : VReg) (t : Tmm) (imm : Byte) (s : State) : Host.Outcome State Fault Refusal :=
  settle (rowToZmm intToSingle d t (selImm imm)) s

/-- TCVTROWPS2PBF16H, r32 selector (R631). -/
def execTcvtrowps2pbf16hR (d : VReg) (t : Tmm) (r : Gpr) (s : State) : Host.Outcome State Fault Refusal :=
  settle (rowToZmm (fun w => inHigh (singleToBf16 w)) d t (selReg (s.reg32 r))) s

/-- TCVTROWPS2PBF16H, imm8 selector (R632). -/
def execTcvtrowps2pbf16hI (d : VReg) (t : Tmm) (imm : Byte) (s : State) : Host.Outcome State Fault Refusal :=
  settle (rowToZmm (fun w => inHigh (singleToBf16 w)) d t (selImm imm)) s

/-- TCVTROWPS2PBF16L, r32 selector (R633). -/
def execTcvtrowps2pbf16lR (d : VReg) (t : Tmm) (r : Gpr) (s : State) : Host.Outcome State Fault Refusal :=
  settle (rowToZmm (fun w => inLow (singleToBf16 w)) d t (selReg (s.reg32 r))) s

/-- TCVTROWPS2PBF16L, imm8 selector (R634). -/
def execTcvtrowps2pbf16lI (d : VReg) (t : Tmm) (imm : Byte) (s : State) : Host.Outcome State Fault Refusal :=
  settle (rowToZmm (fun w => inLow (singleToBf16 w)) d t (selImm imm)) s

/-- TCVTROWPS2PHH, r32 selector (R635). -/
def execTcvtrowps2phhR (d : VReg) (t : Tmm) (r : Gpr) (s : State) : Host.Outcome State Fault Refusal :=
  settle (rowToZmm (fun w => inHigh (singleToHalf w)) d t (selReg (s.reg32 r))) s

/-- TCVTROWPS2PHH, imm8 selector (R636). -/
def execTcvtrowps2phhI (d : VReg) (t : Tmm) (imm : Byte) (s : State) : Host.Outcome State Fault Refusal :=
  settle (rowToZmm (fun w => inHigh (singleToHalf w)) d t (selImm imm)) s

/-- TCVTROWPS2PHL, r32 selector (R637). -/
def execTcvtrowps2phlR (d : VReg) (t : Tmm) (r : Gpr) (s : State) : Host.Outcome State Fault Refusal :=
  settle (rowToZmm (fun w => inLow (singleToHalf w)) d t (selReg (s.reg32 r))) s

/-- TCVTROWPS2PHL, imm8 selector (R638). -/
def execTcvtrowps2phlI (d : VReg) (t : Tmm) (imm : Byte) (s : State) : Host.Outcome State Fault Refusal :=
  settle (rowToZmm (fun w => inLow (singleToHalf w)) d t (selImm imm)) s

/-- TILEMOVROW, r32 selector (R648). -/
def execTilemovrowR (d : VReg) (t : Tmm) (r : Gpr) (s : State) : Host.Outcome State Fault Refusal :=
  settle (rowToZmm (fun w => w) d t (selReg (s.reg32 r))) s

/-- TILEMOVROW, imm8 selector (R647). -/
def execTilemovrowI (d : VReg) (t : Tmm) (imm : Byte) (s : State) : Host.Outcome State Fault Refusal :=
  settle (rowToZmm (fun w => w) d t (selImm imm)) s

end Sys2Proof.Machine
end

