-- ==== Sys2Proof/Machine/AmxLoad.lean ====
section
/-! DEFINITION. Tile configuration, loads and stores (48_amx_common_loads.md R597 to R614). -/

namespace Sys2Proof.Machine

/-! ### Configuration (R597 to R600) -/

/-- The word of a tile's colsb in the 64-byte image (R562). -/
def cfgColsb (b : List Byte) (n : Nat) : BitVec 16 := leVal 16 ((b.drop (16 + 2 * n)).take 2)
/-- The byte of a tile's rows in the 64-byte image (R562). -/
def cfgRows (b : List Byte) (n : Nat) : Byte := b.getD (48 + n) 0

/-- Bytes `lo` to `hi - 1` are zero. -/
def zeroBytes (b : List Byte) (lo hi : Nat) : Bool := ((b.drop lo).take (hi - lo)).all (· == 0)

/-- A tile's configuration is in range, with rows and columns both zero or both not (R597). -/
def cfgTileOk (c : Cfg) (p : Byte) (b : List Byte) (n : Nat) : Bool :=
  decide ((cfgColsb b n).toNat ≤ bytesPerRow c p) && decide ((cfgRows b n).toNat ≤ maxRows c p)
    && ((cfgRows b n == 0) == (cfgColsb b n == 0))

/-- The configuration checks of LDTILECFG (R597). -/
def cfgOk (s : State) (b : List Byte) : Bool :=
  let p := b.getD 0 0
  let n := maxNames s.cfg p
  decide (p.toNat ≤ maxPalette s.cfg) && xcr0SupportsPalette s p
    && (p == 0 || (zeroBytes b 2 16 && zeroBytes b (16 + 2 * n) 48 && zeroBytes b (48 + n) 64
      && (List.range n).all (cfgTileOk s.cfg p b)))

/-- One value for each tile number of a tile configuration. -/
def perTile {α : Type} (f : Nat → α) : Vector α 16 := Vector.ofFn (fun n => f n.val)

/-- TILECFG in its INIT state and TILEDATA zero (R597, R599). -/
def State.releaseTiles (s : State) : State := s.configureTiles 0 0 (Vector.replicate 16 0) (Vector.replicate 16 0)

/-- TILECFG from a checked image (R597). -/
def State.loadConfig (s : State) (b : List Byte) : State :=
  if b.getD 0 0 = 0 then s.releaseTiles
  else s.configureTiles (b.getD 0 0) (b.getD 1 0) (perTile (cfgRows b)) (perTile (cfgColsb b))

/-- LDTILECFG (R597), class AMX-E1. -/
def loadTileConfig (m : MemOp) : Act Unit := do
  amxBegin (fun _ => true)
  let b ← loadOp m 64 false
  let s ← get
  need (cfgOk s b) (gpTrap s)
  set (s.loadConfig b)

/-- LDTILECFG. -/
def execLdtilecfg (m : MemOp) (s : State) : Host.Outcome State Fault Refusal := settle (loadTileConfig m) s

/-- The 64-byte image of TILECFG (R562, R598). -/
def configImage (a : Amx) : List Byte :=
  if a.palette = 0 then List.replicate 64 0
  else [a.palette, a.startRow] ++ List.replicate 14 0 ++ a.colsb.toList.flatMap (toBytes 2) ++ a.rows.toList

/-- STTILECFG (R598), class AMX-E2. -/
def storeTileConfig (m : MemOp) : Act Unit := do
  amxBegin (fun _ => true)
  storeOp m (configImage (← get).amx) false

/-- STTILECFG. -/
def execSttilecfg (m : MemOp) (s : State) : Host.Outcome State Fault Refusal := settle (storeTileConfig m) s

/-- TILERELEASE (R599), class AMX-E6. The cell of the class ends at a page break after the common preamble, and whether lines followed,
such as #NM by IA32_XFD, cannot be told (R589, N36): the model takes the preamble alone (DESIGN CHOICE,
notes/assumptions/33.md). -/
def releaseTileConfig : Act Unit := do
  amxBegin (fun _ => true)
  modify State.releaseTiles

/-- TILERELEASE. -/
def execTilerelease (s : State) : Host.Outcome State Fault Refusal := settle releaseTileConfig s

/-- TILEZERO (R600), class AMX-E5. -/
def zeroTile (t : Tmm) : Act Unit := do
  amxBegin (fun _ => true)
  tileDataEnabled
  let s ← get
  need (s.tilesConfigured && s.tileValid t) udTrap
  set ((s.setTile t (Vector.replicate 16 0)).setStartRow 0)

/-- TILEZERO. -/
def execTilezero (t : Tmm) (s : State) : Host.Outcome State Fault Refusal := settle (zeroTile t) s

/-! ### Strided rows (R580, R613, R602) -/

/-- The offset of memory row `i` of a sibmem operand: base + displacement + i * stride (R580, R613). -/
def State.rowAddr (s : State) (m : MemOp) (i : Nat) : W64 :=
  truncAddr m.asz (s.baseVal m.base + m.disp.signExtend 64 + BitVec.ofNat 64 i * s.indexVal m)

/-- Read memory row `i`; a fault leaves `start_row` at `i` (R568). -/
def readRow (m : MemOp) (i nbytes : Nat) : Act W512 := do
  modify (·.setStartRow i)
  return ofBytes (← memRead (segOf m) ((← get).rowAddr m i) nbytes false)

/-- The flags of the RS tile loads (R353: MOVRS gates the loads of AMX-MOVRS; R613). -/
def tileRsOk (c : Cfg) : Bool := hasAmxMovrs c && hasMovrs c

/-- The rows of a tile load: `n` rows from row `i` on (R613). -/
def loadRows (t : Tmm) (m : MemOp) (nbytes : Nat) : Nat → Nat → Act Unit
  | 0, _ => pure ()
  | n + 1, i => do
    let v ← readRow m i nbytes
    modify (·.writeRow t i v nbytes)
    loadRows t m nbytes n (i + 1)

/-- A tile load (R601, R613), class AMX-E3. -/
def tileLoad (ok : Cfg → Bool) (t : Tmm) (m : MemOp) : Act Unit := do
  amxBegin ok
  tileDataEnabled
  let s ← get
  need (tileMemOk s t) udTrap
  modify (·.zeroUpperRows t s.amx.startRow.toNat)
  loadRows t m (s.tileColsb t) (s.tileRows t - s.amx.startRow.toNat) s.amx.startRow.toNat
  zeroStartRow

/-- TILELOADD (R601). -/
def execTileloadd (t : Tmm) (m : MemOp) (s : State) : Host.Outcome State Fault Refusal :=
  settle (tileLoad (fun _ => true) t m) s

/-- TILELOADDT1 (R601): the hint has no effect. -/
def execTileloaddT1 (t : Tmm) (m : MemOp) (s : State) : Host.Outcome State Fault Refusal :=
  settle (tileLoad (fun _ => true) t m) s

/-- TILELOADDRS (R613). -/
def execTileloaddrs (t : Tmm) (m : MemOp) (s : State) : Host.Outcome State Fault Refusal :=
  settle (tileLoad tileRsOk t m) s

/-- TILELOADDRST1 (R614). -/
def execTileloaddrsT1 (t : Tmm) (m : MemOp) (s : State) : Host.Outcome State Fault Refusal :=
  settle (tileLoad tileRsOk t m) s

/-- The rows of a tile store: `n` rows from row `i` on (R602). -/
def storeRows (t : Tmm) (m : MemOp) (nbytes : Nat) : Nat → Nat → Act Unit
  | 0, _ => pure ()
  | n + 1, i => do
    modify (·.setStartRow i)
    let s ← get
    memWrite (segOf m) (s.rowAddr m i) (toBytes nbytes (s.tileRow t i)) false
    storeRows t m nbytes n (i + 1)

/-- TILESTORED (R602), class AMX-E3 with write faults. -/
def tileStore (m : MemOp) (t : Tmm) : Act Unit := do
  amxBegin (fun _ => true)
  tileDataEnabled
  let s ← get
  need (tileMemOk s t) udTrap
  storeRows t m (s.tileColsb t) (s.tileRows t - s.amx.startRow.toNat) s.amx.startRow.toNat
  zeroStartRow

/-- TILESTORED. -/
def execTilestored (m : MemOp) (t : Tmm) (s : State) : Host.Outcome State Fault Refusal := settle (tileStore m t) s

/-! ### Pair loads (R603 to R611) -/

/-- A dword with word `w` replaced. -/
def setWord (d : W32) (w : Nat) (v : BitVec 16) : W32 :=
  if w = 0 then (d &&& 0xFFFF0000) ||| v.setWidth 32 else (d &&& 0xFFFF) ||| (v.setWidth 32 <<< 16)

/-- Word `w` of the first `n` dwords of a row replaced, the rest of the row zero (R604). -/
def interleave (row : W512) (n w : Nat) (f : Nat → BitVec 16) : W512 :=
  ofDwords n (fun d => setWord (dwordAt row d) w (f d))

/-- The start of a pair load in one tile (R604): the rows not yet read are zero, and the high words of a half-read row. -/
def State.pairPrologue (s : State) (t : Tmm) (start : Nat) : State :=
  let s1 := s.zeroUpperRows t ((start + 1) / 2)
  if start % 2 = 1 then
    s1.writeRow t (start / 2) (interleave (s1.tileRow t (start / 2)) (s1.tileColsb t / 4) 1 (fun _ => 0)) (s1.tileColsb t)
  else s1

/-- Merge one memory row into one tile of the pair (R604); `base` is the first dword of this tile's share. -/
def State.pairRow (s : State) (t : Tmm) (i base : Nat) (v : W512) : State :=
  if 0 < s.tileColsb t then
    s.writeRow t (i / 2)
      (interleave (s.tileRow t (i / 2)) (s.tileColsb t / 4) (i % 2) (fun d => wordAt v (base + d))) (s.tileColsb t)
  else s

/-- The memory row `i` of a pair load: read, or zeros for the padded last row (R604). -/
def pairRead (m : MemOp) (i limit nbytes : Nat) : Act W512 :=
  if i < limit then readRow m i nbytes else pure 0

/-- The rows of a pair load: `n` memory rows from row `i` on (R604). -/
def pairRows (a b : Tmm) (m : MemOp) (limit : Nat) : Nat → Nat → Act Unit
  | 0, _ => pure ()
  | n + 1, i => do
    let s ← get
    let v ← pairRead m i limit ((s.tileColsb a + s.tileColsb b) / 2)
    modify (fun t => (t.pairRow a i 0 v).pairRow b i (s.tileColsb a / 4) v)
    pairRows a b m limit n (i + 1)

/-- T2RPNTLVW (R604), class AMX-E11: `pad` is 1 for the Z1 forms. -/
def pairLoad (ok : Cfg → Bool) (pad : Nat) (t : Tmm) (m : MemOp) : Act Unit := do
  amxBegin ok
  tileDataEnabled
  let s ← get
  need (pairOk s t) udTrap
  let start := s.amx.startRow.toNat
  let total := 2 * s.tileRows (pairBase t)
  modify (fun u => (u.pairPrologue (pairBase t) start).pairPrologue (pairNext t) start)
  pairRows (pairBase t) (pairNext t) m (total - pad) (total - start) start
  zeroStartRow

/-- The flags of the RS pair loads (R353, R609). -/
def pairRsOk (c : Cfg) : Bool := hasAmxTranspose c && tileRsOk c

/-- T2RPNTLVWZ0 (R605). -/
def execT2rpntlvwZ0 (t : Tmm) (m : MemOp) (s : State) : Host.Outcome State Fault Refusal :=
  settle (pairLoad hasAmxTranspose 0 t m) s

/-- T2RPNTLVWZ0T1 (R606). -/
def execT2rpntlvwZ0T1 (t : Tmm) (m : MemOp) (s : State) : Host.Outcome State Fault Refusal :=
  settle (pairLoad hasAmxTranspose 0 t m) s

/-- T2RPNTLVWZ1 (R607). -/
def execT2rpntlvwZ1 (t : Tmm) (m : MemOp) (s : State) : Host.Outcome State Fault Refusal :=
  settle (pairLoad hasAmxTranspose 1 t m) s

/-- T2RPNTLVWZ1T1 (R608). -/
def execT2rpntlvwZ1T1 (t : Tmm) (m : MemOp) (s : State) : Host.Outcome State Fault Refusal :=
  settle (pairLoad hasAmxTranspose 1 t m) s

/-- T2RPNTLVWZ0RS (R609). -/
def execT2rpntlvwZ0RS (t : Tmm) (m : MemOp) (s : State) : Host.Outcome State Fault Refusal :=
  settle (pairLoad pairRsOk 0 t m) s

/-- T2RPNTLVWZ0RST1 (R610). -/
def execT2rpntlvwZ0RST1 (t : Tmm) (m : MemOp) (s : State) : Host.Outcome State Fault Refusal :=
  settle (pairLoad pairRsOk 0 t m) s

/-- T2RPNTLVWZ1RS (R611). -/
def execT2rpntlvwZ1RS (t : Tmm) (m : MemOp) (s : State) : Host.Outcome State Fault Refusal :=
  settle (pairLoad pairRsOk 1 t m) s

/-- T2RPNTLVWZ1RST1 (R611). -/
def execT2rpntlvwZ1RST1 (t : Tmm) (m : MemOp) (s : State) : Host.Outcome State Fault Refusal :=
  settle (pairLoad pairRsOk 1 t m) s

end Sys2Proof.Machine
end

