-- ==== Sys2Proof/Machine/Cpuid.lean ====
section
/-! DEFINITION. CPUID (40_cpuid.md R220 to R223). -/

namespace Sys2Proof.Machine

/-- EAX, EBX, ECX and EDX of an answer; the upper halves are cleared in all modes (R220). -/
def State.withCpuid (s : State) (r : CpuidRow) : State :=
  (((s.setReg32 .rax r.eax).setReg32 .rbx r.ebx).setReg32 .rcx r.ecx).setReg32 .rdx r.edx

/-- IA32_BIOS_SIGN_ID receives the microcode revision in its upper half (R223). -/
def State.loadSignature (s : State) : State :=
  s.setMsr 0x8B (s.cfg.microcodeRev ++ (s.msrVal 0x8B).setWidth 32)

/-- CPUID (R220): the answer for EAX and ECX, read before any register is written; it serializes (R222). -/
def cpuidEffect (s : State) : State :=
  (s.loadSignature.raoDrain).withCpuid (cpuidAnswer s (s.reg32 .rax).toNat (s.reg32 .rcx).toNat)

/-- CPUID. -/
def execCpuid (s : State) : Host.Outcome State Fault Refusal := settle (modify cpuidEffect) s

end Sys2Proof.Machine
end

