-- ==== Sys2Proof/Machine/Flags.lean ====
section
/-! DEFINITION. Every flag computation the spec gives (10_state.md R33): PBNDKB and PCONFIG (R452, R470) and a failing VM
entry (R853). No other instruction of the table changes a flag. -/

namespace Sys2Proof.Machine

/-- Bits CF, PF, AF, SF and OF of RFLAGS (R33). -/
def keyFlagMask : W64 := 0x895

/-- PBNDKB and PCONFIG on every completion (R452, R470): ZF tells failure, CF, PF, AF, OF and SF are cleared. -/
def State.keyFlags (s : State) (failed : Bool) : State :=
  { s with rflags := setBitTo (s.rflags &&& ~~~keyFlagMask) 6 failed }

/-- A failing VM entry sets ZF (R853). -/
def State.setZf (s : State) : State := { s with rflags := setBitTo s.rflags 6 true }

end Sys2Proof.Machine
end

