-- ==== Sys2Proof/Machine/Keys.lean ====
section
/-! DEFINITION. PBNDKB and PCONFIG (45_keys_pbndkb_pconfig.md). The cryptography is uninterpreted (R450); GCM encryption is
the exclusive or with a key stream, so decryption undoes it, the one law R450 asks for. -/

namespace Sys2Proof.Machine

/-! ### Structures as byte lists (R451, R472, R474) -/

/-- Bytes `lo` to `lo + n - 1`. -/
def slice (bs : List Byte) (lo n : Nat) : List Byte := (bs.drop lo).take n

/-- All bytes of a slice are zero. -/
def zeros (bs : List Byte) (lo n : Nat) : Bool := (slice bs lo n).all (· == 0)

/-- The value of a slice of `n` bytes. -/
def sliceVal (bs : List Byte) (lo n : Nat) : BitVec (8 * n) := leVal (8 * n) (slice bs lo n)

/-- The reserved-byte and control checks on a bind structure (R451, R452, R477). -/
def bindOk (t : List Byte) : Bool :=
  zeros t 16 8 && zeros t 36 28 && decide ((sliceVal t 160 1).toNat ≤ 1) && zeros t 161 95

/-- The 176 bytes of additional authenticated data (R452, R477): 8 zero bytes, the IV, 28 zero bytes, BTDATA. -/
def bindAad (iv : BitVec 96) (btdata : List Byte) : BitVec 1408 :=
  leVal 1408 (List.replicate 8 0 ++ toBytes 12 iv ++ List.replicate 28 0 ++ btdata)

/-- The wrapping key of a challenge (R452, R477). -/
def wrappingKey (challenge : BitVec 256) : BitVec 256 := Config.hmacSha256 Config.platformKey challenge

/-- AES256_GCM_ENC and AES256_GCM_DEC of 64 bytes (R450). -/
def gcmCrypt (key : BitVec 256) (iv : BitVec 96) (t : BitVec 512) : BitVec 512 := t ^^^ Config.gcmStream key iv

/-! ### PBNDKB (R452) -/

/-- Failure: ZF, the reason in RAX, the other flags cleared (R452, R470). -/
def keyFailure (reason : Nat) : Act Unit := modify (fun s => (s.setReg .rax (BitVec.ofNat 64 reason)).keyFlags true)

/-- Success (R452, R470). -/
def keySuccess : Act Unit := modify (fun s => (s.setReg .rax 0).keyFlags false)

/-- `RNG`: a success bit and a value, both free (R450). -/
def rng : Act (Bool × W512) := do
  let s ← get
  set (s.drawn 1)
  return (Config.rngOk s.draws, Config.rngBits s.draws)

/-- Which platform-specific failure PBNDKB meets: one of the configured reasons, if any (D23). -/
def platformFailure (s : State) : Option W32 :=
  if s.cfg.pbndkbFailures.isEmpty then none
  else (Config.pbndkbFailure s.draws).bind (fun i => s.cfg.pbndkbFailures[i]?)

/-- The output bind structure (R452). -/
def bindOutput (key : BitVec 256) (iv : BitVec 96) (plain : BitVec 512) (btdata : List Byte) (ctrl : Byte) : List Byte :=
  let ct := gcmCrypt key iv plain
  toBytes 16 (Config.gcmTag key iv (bindAad iv btdata) ct) ++ List.replicate 8 0 ++ toBytes 12 iv
    ++ List.replicate 28 0 ++ toBytes 64 ct ++ List.replicate 32 0 ++ [ctrl] ++ List.replicate 95 0

/-- The key material that is wrapped: under control 1 random bits are mixed in (R452); `none` is a lack of entropy. -/
def bindKeys (t : List Byte) : Act (Option (BitVec 512)) := do
  let keys : BitVec 512 := sliceVal t 64 64
  if (sliceVal t 160 1).toNat = 1 then do
    let (ok1, d) ← rng
    let (ok2, w) ← rng
    if ok1 && ok2 then return some (keys ^^^ (w.setWidth 256 ++ d.setWidth 256)) else return none
  else return some keys

/-- From the checked input structure to the output in memory (R452). -/
def bindWrite (out : W64) (t : List Byte) : Act Unit := do
  match ← bindKeys t with
  | none => keyFailure 1
  | some plain =>
    let (ok, v) ← rng
    if ok then do
      let iv : BitVec 96 := v.setWidth 96
      memWrite .ds out (bindOutput (wrappingKey (sliceVal t 128 32)) iv plain (slice t 128 128) (t.getD 160 0)) false
      keySuccess
    else keyFailure 1

/-- PBNDKB (R452). The addresses are linear addresses, so DS is only nominal: its base is 0 in 64-bit mode. Where among the
steps a platform-specific failure is met is not in the spec: the model tests it after the checks of the bind structure and before
any random number or access to the output (DESIGN CHOICE, notes/assumptions/30.md). -/
def bindKey : Act Unit := do
  let s ← get
  need (hasPbndkb s.cfg && s.cpl == 0 && s.is64) udTrap
  need (!s.nonRoot || s.tertiary 9) udTrap
  need (canonical s.cfg (s.reg .rbx) && canonical s.cfg (s.reg .rcx)) (gpTrap s)
  need (s.reg .rbx != s.reg .rcx && aligned (s.reg .rbx) 256 && aligned (s.reg .rcx) 256) (gpTrap s)
  let t ← memRead .ds (s.reg .rbx) 256 false
  need (bindOk t) (gpTrap s)
  match platformFailure s with
  | some r => do
    modify (·.drawn 1)
    keyFailure r.toNat
  | none => bindWrite (s.reg .rcx) t

/-- PBNDKB. -/
def execPbndkb (s : State) : Host.Outcome State Fault Refusal := settle bindKey s

/-! ### PCONFIG (R470 to R481) -/

/-- Exactly one bit set, and it is supported (R472, R474, R476). -/
def algOk (alg supported : BitVec 16) : Bool := alg != 0 && (alg &&& (alg - 1) == 0) && (alg &&& supported != 0)

/-- KEYID of a programming structure (R472). -/
def keyId (t : List Byte) : Nat := (sliceVal t 0 2).toNat
/-- COMMAND (R472). -/
def keyCommand (t : List Byte) : Nat := (sliceVal t 2 1).toNat
/-- ENC_ALG (R472). -/
def keyAlg (t : List Byte) : BitVec 16 := leVal 16 (slice t 3 2)
/-- The reserved byte of KEYID_CTRL (R472). -/
def keyReservedOk (t : List Byte) : Bool := zeros t 5 1
/-- KEY_FIELD_1 (R472). -/
def keyField1 (t : List Byte) : W512 := sliceVal t 64 64
/-- KEY_FIELD_2 (R472). -/
def keyField2 (t : List Byte) : W512 := sliceVal t 128 64

/-- `TryLock`: whether another processor holds the table's lock is free (R479, D24). -/
def tryLock : Act Bool := do
  let s ← get
  set (s.drawn 1)
  return Config.tryLock s.draws

/-- The results of PCONFIG are 32 bits outside 64-bit mode (R470): the upper half of RAX is not written then. -/
def State.setPconfigRax (s : State) (v : Nat) : State :=
  if s.is64 then s.setReg .rax (BitVec.ofNat 64 v)
  else s.setReg .rax ((s.reg .rax &&& 0xFFFFFFFF00000000) ||| BitVec.ofNat 64 v)

/-- Failure of PCONFIG (R478). -/
def pconfigFailure (reason : Nat) : Act Unit := modify (fun s => (s.setPconfigRax reason).keyFlags true)

/-- Success of PCONFIG (R470). -/
def pconfigSuccess : Act Unit := modify (fun s => (s.setPconfigRax 0).keyFlags false)

/-- Write a slot of the TME-MK table (R66). -/
def State.setTmemk (s : State) (k : Nat) (v : KeySlot) : State :=
  { s with tmemk := Store.put KeySlot.unprogrammed s.tmemk k v }

/-- Write a slot of the TSE table (R66). -/
def State.setTse (s : State) (k : Nat) (v : KeySlot) : State :=
  { s with tse := Store.put KeySlot.unprogrammed s.tse k v }

/-- The checks of R473 on the structure. -/
def mktmeOk (s : State) (t : List Byte) : Bool :=
  let a := s.msrVal 0x982
  keyReservedOk t && decide (keyCommand t ≤ 3) && keyId t != 0 && decide (keyId t ≤ 2 ^ fieldOf a 35 32 - 1)
    && decide (keyId t ≤ fieldOf s.cfg.tmeCapability 50 36) && algOk (keyAlg t) (a.extractLsb' 48 16)

/-- The command of leaf 0, under the lock (R473). An algorithm's key size is not in the source: every algorithm takes the whole
64-byte fields and 512 random bits (DESIGN CHOICE, notes/assumptions/31.md). The rule gives only the mode of a slot with the
TME default or without encryption: zeros stand in its other fields (DESIGN CHOICE, notes/assumptions/31.md). -/
def mktmeCommand (t : List Byte) : Act Unit :=
  match keyCommand t with
  | 0 => do
    modify (·.setTmemk (keyId t) ⟨.encrypt, keyAlg t, keyField1 t, keyField2 t⟩)
    pconfigSuccess
  | 1 => do
    let (ok1, d) ← rng
    if ok1 then do
      let (ok2, w) ← rng
      if ok2 then do
        modify (·.setTmemk (keyId t) ⟨.encrypt, keyAlg t, d ^^^ keyField1 t, w ^^^ keyField2 t⟩)
        pconfigSuccess
      else pconfigFailure 2
    else pconfigFailure 2
  | 2 => do
    modify (·.setTmemk (keyId t) ⟨.default, 0, 0, 0⟩)
    pconfigSuccess
  | _ => do
    modify (·.setTmemk (keyId t) ⟨.noEncrypt, 0, 0, 0⟩)
    pconfigSuccess

/-- The address of leaf 0: an offset in DS, 32 bits outside 64-bit mode (R470, R473). -/
def State.pconfigOff (s : State) (g : Gpr) : W64 := if s.is64 then s.reg g else (s.reg32 g).setWidth 64

/-- Leaf 0, MKTME_KEY_PROGRAM (R473). -/
def mktmeProgram : Act Unit := do
  let s ← get
  need (pconfigTarget s.cfg 1) (gpTrap s)
  need (tmeReady s) (gpTrap s)
  need (aligned (s.linear .ds (s.pconfigOff .rbx)) 256) (gpTrap s)
  let t ← memRead .ds (s.pconfigOff .rbx) 192 false
  need (mktmeOk s t) (gpTrap s)
  if ← tryLock then mktmeCommand t else pconfigFailure 5

/-- The checks of R475 on the structure. -/
def tseOk (s : State) (t : List Byte) : Bool :=
  keyReservedOk t && decide (keyCommand t ≤ 1) && decide (keyId t ≤ fieldOf (tseCapability s.cfg) 50 36)
    && algOk (keyAlg t) ((tseCapability s.cfg).setWidth 16)

/-- A TSE key is 256 bits: the low 32 bytes of its field (R475). -/
def key256 (f : W512) : W512 := (f.setWidth 256).setWidth 512

/-- The slot that leaf 1 writes (R475). The rule gives only the mode of a slot without encryption: zeros stand in its other
fields (DESIGN CHOICE, notes/assumptions/31.md). -/
def tseSlot (t : List Byte) : KeySlot :=
  if keyCommand t = 0 then ⟨.encrypt, keyAlg t, key256 (keyField1 t), key256 (keyField2 t)⟩ else ⟨.noEncrypt, 0, 0, 0⟩

/-- Leaf 1, TSE_KEY_PROGRAM (R475). -/
def tseProgram : Act Unit := do
  let s ← get
  need (pconfigTarget s.cfg 2) (gpTrap s)
  need s.is64 (gpTrap s)
  need (aligned (s.reg .rbx) 256) (gpTrap s)
  let t ← memRead .ds (s.reg .rbx) 192 false
  need (tseOk s t) (gpTrap s)
  if ← tryLock then do
    modify (·.setTse (keyId t) (tseSlot t))
    pconfigSuccess
  else pconfigFailure 5

/-- The checks of R477 on RBX. -/
def wrappedArgsOk (s : State) : Bool :=
  let b := s.reg .rbx
  fieldOf b 23 16 == 0 && aligned (s.reg .rcx) 256 && decide (fieldOf b 15 0 ≤ fieldOf (tseCapability s.cfg) 50 36)
    && algOk (b.extractLsb' 24 16) ((tseCapability s.cfg).setWidth 16)

/-- The MAC recomputed from a bind structure (R477). -/
def unwrapMac (t : List Byte) : BitVec 128 :=
  Config.gcmTag (wrappingKey (sliceVal t 128 32)) (sliceVal t 24 12) (bindAad (sliceVal t 24 12) (slice t 128 128))
    (sliceVal t 64 64)

/-- The keys of a bind structure (R477). -/
def unwrapKeys (t : List Byte) : BitVec 512 :=
  gcmCrypt (wrappingKey (sliceVal t 128 32)) (sliceVal t 24 12) (sliceVal t 64 64)

/-- The slot that leaf 2 writes (R477). -/
def wrappedSlot (s : State) (t : List Byte) : KeySlot :=
  ⟨.encrypt, (s.reg .rbx).extractLsb' 24 16, ((unwrapKeys t).extractLsb' 0 256).setWidth 512,
    ((unwrapKeys t).extractLsb' 256 256).setWidth 512⟩

/-- Leaf 2, TSE_KEY_PROGRAM_WRAPPED (R477). -/
def tseProgramWrapped : Act Unit := do
  let s ← get
  need (pconfigTarget s.cfg 2) (gpTrap s)
  need (s.is64 && wrappedArgsOk s) (gpTrap s)
  let t ← memRead .ds (s.reg .rcx) 256 false
  need (bindOk t) (gpTrap s)
  if unwrapMac t = leVal 128 (slice t 0 16) then do
    if ← tryLock then do
      modify (·.setTse (fieldOf (s.reg .rbx) 15 0) (wrappedSlot s t))
      pconfigSuccess
    else pconfigFailure 5
  else pconfigFailure 7

/-- PCONFIG (R470): the leaf is EAX. R470 says that an execution may fail for platform-specific reasons, and R478 defines the reasons 2, 5
and 7 only: the model fails with no other (DESIGN CHOICE, notes/assumptions/31.md). -/
def configure : Act Unit := do
  let s ← get
  need (hasPconfig s.cfg && s.cpl == 0 && s.mode != .v86) udTrap
  match (s.reg32 .rax).toNat with
  | 0 => mktmeProgram
  | 1 => tseProgram
  | 2 => tseProgramWrapped
  | _ => throw (gpTrap s)

/-- PCONFIG. -/
def execPconfig (s : State) : Host.Outcome State Fault Refusal := settle configure s

end Sys2Proof.Machine
end

