-- ==== Sys2Proof/Machine/Vmx.lean ====
section
/-! DEFINITION. The VMX additions of 60_exceptions.md R845 to R859 and 61_platform_features.md R734, R735: deadline
conversion, VM entry with its checks, and the VM exits of the MSR instructions (46_msr_access_mwait.md R507). -/

namespace Sys2Proof.Machine

/-- The inverse of TSC scaling (R859): the smallest counter value whose scaled value is at least `d`, or a nearby one, above it
by less than one more unit of the scaled counter and by a free amount. Where no 64-bit value is one, a free value. -/
def unscaled (v : Vmcs) (d : W64) : W64 :=
  let m := v.tscMultiplier.toNat
  let a := (d.toNat * 2 ^ 48 + (m - 1)) / m
    + Config.deadlineSlack d v.tscOffset v.tscMultiplier % (2 ^ 48 / m + 1)
  if m = 0 ∨ 2 ^ 64 ≤ a then Config.deadlineWithoutInverse d v.tscOffset v.tscMultiplier else BitVec.ofNat 64 a

/-- `VirtToActual` (R859, D35): the identity without offsetting and scaling, `virtual - offset` with offsetting only, and with
scaling the inverse of the multiplication of what is left. R859 gives the scaled view under offsetting only: with scaling alone the
model inverts the multiplication without an offset (DESIGN CHOICE, notes/assumptions/40.md). -/
def virtToActual (v : Vmcs) (virt : W64) : W64 :=
  let d := if v.tscOffsetting then virt - v.tscOffset else virt
  if v.tscScaling then unscaled v d else d

/-- The TSC as the guest sees it (R859): the product with the multiplier over 2^48 under scaling, plus the offset under
offsetting; outside VMX non-root operation the TSC itself. That scaling alone multiplies without an offset is not in R859 (DESIGN
CHOICE, notes/assumptions/40.md). -/
def State.tscView (s : State) : W64 :=
  if s.nonRoot then
    (if s.vmcs.tscScaling then BitVec.ofNat 64 (s.tsc.toNat * s.vmcs.tscMultiplier.toNat / 2 ^ 48) else s.tsc)
      + (if s.vmcs.tscOffsetting then s.vmcs.tscOffset else 0)
  else s.tsc

/-- "APIC-timer virtualization" is in force for the guest (R853). -/
def State.timerVirtualized (s : State) : Bool := s.nonRoot && s.tertiary 8

/-- The VM-entry checks that the spec adds (R735, R853): every tertiary control that is 1 is one that may be (R62). -/
def State.vmEntryOk (s : State) : Bool :=
  let t := s.vmcs.activateTertiary
  (!(t && bitAt s.vmcs.tertiary 8) ||
      (s.vmcs.virtIntDelivery && !s.vmcs.rdtscExiting && decide (s.vmcs.virtTimerVector.toNat ≤ 255)))
    && (!t || s.vmcs.tertiary &&& ~~~s.cfg.vmxProcbasedCtls3 == 0)

/-- VM entry, as far as the spec says it (R735, R853, R854): a failing check passes control to the next instruction with
ZF set and error 7; a completing entry loads the guest deadline when the control is 1. -/
def State.vmEntry (s : State) : State :=
  if s.vmEntryOk then
    { s with ctx := { s.ctx with vmx := .nonRoot }
             guestDeadline := if s.tertiary 8 then s.vmcs.guestDeadline else 0 }
  else { s.setZf.advance with vmcs := { s.vmcs with vmInstrError := 7 } }

/-! ### Fields by their encodings (R63, R845, R853) -/

/-- The fields that an encoding can name. -/
inductive VmcsField where
  | userTimer | deadline | deadlineShadow | timerVector | interruptStatus
  deriving DecidableEq, Repr

/-- The field of an encoding, and whether the encoding names its high half (R63: encoding pairs, full and high). -/
def vmcsField (enc : Nat) : Option (VmcsField × Bool) :=
  if enc = 0x2050 then some (.userTimer, false)
  else if enc = 0x2051 then some (.userTimer, true)
  else if enc = 0x2830 then some (.deadline, false)
  else if enc = 0x2831 then some (.deadline, true)
  else if enc = 0x204E then some (.deadlineShadow, false)
  else if enc = 0x204F then some (.deadlineShadow, true)
  else if enc = 0x000A then some (.timerVector, false)
  else if enc = 0x0810 then some (.interruptStatus, false)
  else none

/-- The field exists (R63, R845): with UTMR, with the 1-setting of "APIC-timer virtualization". How support of virtual-interrupt
delivery, the condition of the guest interrupt status, is enumerated is not in the spec: the field is always present (DESIGN CHOICE,
notes/assumptions/18.md). -/
def VmcsField.present (c : Cfg) : VmcsField → Bool
  | .userTimer => hasUtmr c
  | .deadline | .deadlineShadow | .timerVector => bitAt c.vmxProcbasedCtls3 8
  | .interruptStatus => true

/-- A field's value. -/
def Vmcs.field (v : Vmcs) : VmcsField → W64
  | .userTimer => v.virtUserTimer
  | .deadline => v.guestDeadline
  | .deadlineShadow => v.guestDeadlineShadow
  | .timerVector => v.virtTimerVector.setWidth 64
  | .interruptStatus => v.guestIntStatus.setWidth 64

/-- The control structure with a field's value changed; a 16-bit field takes 16 bits. -/
def Vmcs.setField (v : Vmcs) (f : VmcsField) (x : W64) : Vmcs :=
  match f with
  | .userTimer => { v with virtUserTimer := x }
  | .deadline => { v with guestDeadline := x }
  | .deadlineShadow => { v with guestDeadlineShadow := x }
  | .timerVector => { v with virtTimerVector := x.setWidth 16 }
  | .interruptStatus => { v with guestIntStatus := x.setWidth 16 }

/-- Reading the VMCS by encoding: `none` where no field answers. VMREAD and VMWRITE are base architecture. -/
def State.vmcsRead (s : State) (enc : Nat) : Option W64 :=
  match vmcsField enc with
  | some (f, high) => if f.present s.cfg then some (if high then s.vmcs.field f >>> 32 else s.vmcs.field f) else none
  | none => none

/-- Writing the VMCS by encoding; the high encoding replaces bits 63:32 (PRESUMED, notes/assumptions/18.md). -/
def State.vmcsWrite (s : State) (enc : Nat) (x : W64) : Option State :=
  match vmcsField enc with
  | some (f, high) =>
    let y := if high then (s.vmcs.field f &&& 0xFFFFFFFF) ||| x <<< 32 else x
    if f.present s.cfg then some { s with vmcs := s.vmcs.setField f y } else none
  | none => none

/-! ### VM exits of the MSR instructions (R507) -/

/-- The bit of an MSR bitmap at a byte offset (R507; the layout is PRESUMED, notes/assumptions/17.md). -/
def State.msrBitmapBit (s : State) (offset n : Nat) : Bool :=
  bitAt (readByte s.seen ((s.vmcs.msrBitmap.toNat / 4096 * 4096 + offset + n / 8) % 2 ^ s.physBits)) (n % 8)

/-- URDMSR and UWRMSR cause a VM exit (R507). -/
def State.userMsrExits (s : State) (a : Nat) (write : Bool) : Bool :=
  s.nonRoot && (!s.vmcs.useMsrBitmaps || decide (0x1FFF < a) || s.msrBitmapBit (if write then 2048 else 0) a)

/-- RDMSR and WRMSRNS cause a VM exit: the base architecture's rule (R501, R520; notes/assumptions/17.md). -/
def State.msrExits (s : State) (a : Nat) (write : Bool) : Bool :=
  s.nonRoot &&
    (!s.vmcs.useMsrBitmaps ||
      (if a ≤ 0x1FFF then s.msrBitmapBit (if write then 2048 else 0) a
       else if 0xC0000000 ≤ a ∧ a ≤ 0xC0001FFF then s.msrBitmapBit (if write then 3072 else 1024) (a - 0xC0000000)
       else true))

/-- The instruction information of a URDMSR or UWRMSR exit (R507, Table 2-6): bits 6:3 name the data register, the rest
is undefined (U2). -/
def userExitInfo (g : Gpr) (draw : Nat) : W32 :=
  (Config.exitInfoBits draw &&& 0xFFFFFF87) ||| BitVec.ofNat 32 (g.code * 8)

end Sys2Proof.Machine
end

