-- ==== Sys2Proof/Machine/Msr.lean ====
section
/-! DEFINITION. The MSR space (10_state.md R44 to R62, R67; 46_msr_access_mwait.md R500): which addresses exist, what a read
answers, what a write checks and does. Addresses the spec does not print are PRESUMED (notes/assumptions/15.md). -/

namespace Sys2Proof.Machine

/-! ### Addresses -/

/-- IA32_PMC_GPn_CTR, the counter's own address; IA32_PMCx is its second one (R60, R760). -/
def pmcAddr (n : Nat) : Nat := 0x1900 + 4 * n
/-- IA32_PMC_GPn_CFG_A, also IA32_PERFEVTSELx. -/
def evtSelAddr (n : Nat) : Nat := 0x1901 + 4 * n
/-- IA32_PMC_FXm_CTR, also IA32_FIXED_CTRm. -/
def fixedAddr (m : Nat) : Nat := 0x1980 + 4 * m
/-- IA32_PMC_GPn_CFG_C (R771). -/
def gpCfgC (n : Nat) : Nat := 0x1903 + 4 * n
/-- IA32_PMC_FXm_CFG_C (R771). -/
def fxCfgC (m : Nat) : Nat := 0x1983 + 4 * m

/-- How many counters have the addresses C1H + n and 186H + n: CFH is another register (notes/assumptions/15.md). -/
def legacyCounters : Nat := 14
/-- How many fixed-function counters have the addresses 309H + m. -/
def legacyFixed : Nat := 16

/-- IA32_PMCx, IA32_PERFEVTSELx and IA32_FIXED_CTRm stand for the counters and selectors at 1900H and above, which hold the
values (R60, R760). -/
def msrHome (a : Nat) : Nat :=
  if 0xC1 ≤ a ∧ a < 0xC1 + legacyCounters then pmcAddr (a - 0xC1)
  else if 0x186 ≤ a ∧ a < 0x186 + legacyCounters then evtSelAddr (a - 0x186)
  else if 0x309 ≤ a ∧ a < 0x309 + legacyFixed then fixedAddr (a - 0x309)
  else a

/-! ### Existence (R44) -/

/-- A range of addresses, both ends in it, holds an address. -/
def inSome (l : List (Nat × Nat)) (a : Nat) : Bool := l.any (fun r => decide (r.1 ≤ a) && decide (a ≤ r.2))

/-- General-purpose counter `n` has a CFG_C register (R771). -/
def gpCfgCExists (c : Cfg) (n : Nat) : Bool := featA c 0x23 5 n || featA c 0x23 2 n
/-- Fixed-function counter `m` has a CFG_C register (R771). -/
def fxCfgCExists (c : Cfg) (m : Nat) : Bool := featC c 0x23 5 m || featB c 0x23 2 m
/-- The largest LBR depth that leaf 1CH enumerates (R293). It is also the number of IA32_LBR_x entries, which the spec does not
give: DESIGN CHOICE, notes/assumptions/15.md. -/
def lbrDepth (c : Cfg) : Nat :=
  (List.range 8).foldl (fun d n => if bitAt (cpuidCfg c 0x1C 0).eax n then 8 * (n + 1) else d) 0

/-- The bits of IA32_SPEC_CTRL that leaf 07H enumerates (R263, R267; the places of bits 0 and 2 are PRESUMED). -/
def specCtrlBits (c : Cfg) : W64 :=
  let d := (cpuidCfg c 7 0).edx
  let e := (cpuidCfg c 7 2).edx
  (if bitAt d 26 then 1 else 0) ||| (if bitAt d 27 then 2 else 0) ||| (if bitAt d 31 then 4 else 0)
    ||| (if bitAt e 1 then 0x18 else 0) ||| (if bitAt e 2 then 0x60 else 0) ||| (if bitAt e 0 then 0x80 else 0)
    ||| (if bitAt e 3 then 0x100 else 0) ||| (if bitAt e 4 then 0x400 else 0)

/-- An opaque MSR range (R67): first and last address, and the condition under which it exists (D14). -/
structure NamedMsr where
  first : Nat
  last : Nat
  present : Bool
  deriving DecidableEq, Repr

/-- The MSRs that leaf 07H enumerates and of which no rule gives more than bits (R261 to R267). -/
def namedSeven (c : Cfg) : List NamedMsr :=
  [⟨0x3B, 0x3B, featB c 7 0 1⟩, ⟨0x48, 0x48, specCtrlBits c != 0⟩, ⟨0x49, 0x49, featD c 7 0 26⟩,
   ⟨0x2F, 0x2F, featA c 7 1 27⟩, ⟨0x4E, 0x4F, featB c 7 1 0⟩, ⟨0xCF, 0xCF, featD c 7 0 30⟩,
   ⟨0x10B, 0x10B, featD c 7 0 28⟩, ⟨0x10F, 0x10F, featD c 7 0 13⟩, ⟨0x123, 0x123, featD c 7 0 9⟩,
   ⟨0x981, 0x984, featC c 7 0 13⟩, ⟨0xC8D, 0xC8E, featB c 7 0 12⟩, ⟨0x17DA, 0x17DA, featA c 7 1 22⟩]

/-- The MSRs that leaves 01H, 06H and 80000001H enumerate likewise (R229, R230, R236, R268, R344). -/
def namedOther (c : Cfg) : List NamedMsr :=
  [⟨0x1B, 0x1B, featD c 1 0 9⟩, ⟨0xE7, 0xE8, featC c 6 0 0⟩, ⟨0xFE, 0xFE, featD c 1 0 12⟩,
   ⟨0x174, 0x174, featD c 1 0 11⟩, ⟨0x179, 0x17A, featD c 1 0 14⟩,
   ⟨0x19B, 0x19B, featD c 1 0 22 || featA c 6 0 24⟩, ⟨0x1B0, 0x1B0, featC c 6 0 3⟩,
   ⟨0x1B1, 0x1B2, featA c 6 0 6 || featA c 6 0 19⟩, ⟨0x277, 0x277, featD c 1 0 16⟩, ⟨0x2FF, 0x2FF, featD c 1 0 12⟩, ⟨0x1F8, 0x1F8, featC c 1 0 18⟩,
   ⟨0x770, 0x771, featA c 6 0 7⟩, ⟨0x772, 0x772, featA c 6 0 11⟩, ⟨0x773, 0x773, featA c 6 0 8⟩,
   ⟨0x774, 0x774, featA c 6 0 7⟩, ⟨0x776, 0x776, featA c 6 0 22⟩, ⟨0x777, 0x777, featA c 6 0 7⟩,
   ⟨0xC80, 0xC80, featC c 1 0 11⟩,
   ⟨0xDB0, 0xDB2, featA c 6 0 13⟩, ⟨0x17D0, 0x17D1, featA c 6 0 19⟩, ⟨0x17D2, 0x17D2, featA c 6 0 23⟩,
   ⟨0x17D4, 0x17D4, featA c 6 0 23⟩, ⟨0xC0000103, 0xC0000103, featD c 0x80000001 0 27⟩]

/-- How many IA32_QoS_Core_BW_Thrtl_n there are (R722, D32). -/
def cbaCount (c : Cfg) : Nat := (cbaMaxCos c + 8) / 8

/-- The counters and their CFG_A and CFG_C registers from 1900H up (R59, R60, R771). -/
def counterHigh (a : Nat) : Bool :=
  (decide (0x1900 ≤ a) && decide (a < 0x1980) && a % 4 != 2)
    || (decide (0x1980 ≤ a) && decide (a < 0x1A00) && (a % 4 == 0 || a % 4 == 3))

/-- Addresses from 1000H up that another register of the spec has: no throttle register stands there (DESIGN CHOICE,
notes/assumptions/15.md). -/
def takenHigh (a : Nat) : Bool :=
  inSome [(0x1200, 0x123F), (0x14CE, 0x14CF), (0x1500, 0x153F), (0x1600, 0x163F), (0x17D0, 0x17D2), (0x17D4, 0x17D4),
      (0x17DA, 0x17DA), (0x1B00, 0x1B01)] a
    || counterHigh a

/-- The throttle register E00H + n exists (R721, R722). -/
def cbaMsr (c : Cfg) (a : Nat) : Bool :=
  hasCba c && decide (0xE00 ≤ a) && decide (a - 0xE00 < cbaCount c) && !takenHigh a

/-- The MSRs that have a rule of their own or a condition of existence in the spec (R44 to R62, R67): of a row of `Cfg.msrs` they take
at most the reserved bits (R500: the rules of each MSR come first; `configuredMask`). 3F1H and 3F2H are not among them: without Architectural PEBS they are
the configuration's. -/
def definedMsr (c : Cfg) (a : Nat) : Bool :=
  inSome [(0x10, 0x10), (0x1C, 0x1C), (0x48, 0x48), (0xC1, 0xCE), (0x10A, 0x10A), (0x175, 0x176),
      (0x186, 0x193), (0x1A0, 0x1A0), (0x1C4, 0x1C5), (0x1DD, 0x1DE), (0x1E0, 0x1E0), (0x309, 0x318), (0x329, 0x329),
      (0x345, 0x345), (0x38D, 0x391), (0x3F4, 0x3F5), (0x492, 0x492), (0x560, 0x561), (0x568, 0x56E), (0x570, 0x572),
      (0x580, 0x587), (0x600, 0x600), (0x6A0, 0x6A0), (0x6A2, 0x6A2), (0x6A4, 0x6A8), (0x6E0, 0x6E0), (0x981, 0x982),
      (0x985, 0x98A), (0x9F1, 0x9F1), (0xC8F, 0xC8F), (0xD90, 0xD90), (0xDA0, 0xDA0), (0xE00, 0xEFF),
      (0x1200, 0x123F), (0x14CE, 0x14CF), (0x1500, 0x153F), (0x1600, 0x163F), (0x17DA, 0x17DA), (0x1B00, 0x1B01),
      (0xC0000080, 0xC0000080), (0xC0000082, 0xC0000082), (0xC0000100, 0xC0000103)] a
    || counterHigh a || cbaMsr c a

/-- A row of `Cfg.msrs`, of an MSR that the spec does not define (R500). -/
def msrDesc (c : Cfg) (a : Nat) : Option MsrDesc :=
  if definedMsr c a then none else c.msrs.find? (fun d => d.addr == a)

/-- The MSR that leaf 01H, 06H, 07H or 80000001H enumerates by name at an address, present or not. -/
def namedMsr (c : Cfg) (a : Nat) : Option NamedMsr :=
  (namedSeven c ++ namedOther c).find? (fun d => decide (d.first ≤ a) && decide (a ≤ d.last))

/-- The kinds of cache allocation that leaf 10H enumerates (R276 to R278): the sub-leaf, which is the resource's bit too, and the
address of the first mask, IA32_L2_MASK_0 or IA32_L3_MASK_0 (PRESUMED, notes/assumptions/15.md). -/
def catKinds (c : Cfg) : List (Nat × Nat) :=
  [(2, 0xD10), (1, 0xC90)].filter (fun k => featB c 7 0 15 && featB c 0x10 0 k.1)

/-- The sub-leaf of leaf 10H whose capacity mask stands at an address: one for each class of service up to the highest one (R277,
R278), where no other MSR of the spec, and of an IA32_L3_MASK_n no IA32_L2_MASK_n, has the address (DESIGN CHOICE,
notes/assumptions/15.md). -/
def catMask (c : Cfg) (a : Nat) : Option Nat :=
  if definedMsr c a || (namedMsr c a).isSome then none
  else ((catKinds c).find? (fun k => decide (k.2 ≤ a) && decide (a ≤ k.2 + fieldOf (cpuidCfg c 0x10 k.1).edx 15 0))).map Prod.fst

/-- The rest of the MSR space: a named MSR exists as its CPUID bit says, a capacity mask as leaf 10H says, and any other as `Cfg.msrs`
says (R67, R277, R278, D14). -/
def msrExistsNamed (c : Cfg) (a : Nat) : Bool :=
  match namedMsr c a with
  | some d => d.present
  | none => (catMask c a).isSome || (a != 0xC90 && a != 0xD10 && (msrDesc c a).isSome)

/-- The addresses below 1000H that exist, by their enumeration conditions (R44, R67). "Tertiary controls supported", the
condition of 492H, is read as VMX with any control that may be 1: DESIGN CHOICE (notes/assumptions/16.md). R44 says only "base perfmon" of 38DH to 391H, and the model takes version 2 and
later: DESIGN CHOICE (notes/assumptions/16.md). -/
def msrExistsLow (c : Cfg) (td : TdMode) (a : Nat) : Bool :=
  if a = 0x10 then featD c 1 0 4
  else if a = 0x1C then hasUserMsr c
  else if a = 0x1A0 then true
  else if a = 0x10A then featD c 7 0 29
  else if a = 0x175 ∨ a = 0x176 then featD c 1 0 11
  else if a = 0x1C4 ∨ a = 0x1C5 then featA c 0xD 1 4
  else if a = 0x1DD ∨ a = 0x1DE ∨ a = 0x1E0 then featD c 7 0 19
  else if a = 0x329 then featB c 0x23 4 6
  else if a = 0x345 then featC c 1 0 15
  else if 0x38D ≤ a ∧ a ≤ 0x391 then decide (1 < perfmonVersion c)
  else if a = 0x3F1 ∨ a = 0x3F2 then !hasArchPebs c && (msrDesc c a).isSome
  else if a = 0x3F4 ∨ a = 0x3F5 then hasArchPebs c && td != .noPerfmon
  else if a = 0x492 then featC c 1 0 5 && c.vmxProcbasedCtls3 != 0
  else if a = 0x560 ∨ a = 0x561 then featB c 7 0 25 && featC c 0x14 0 0
  else if a = 0x570 ∨ a = 0x571 then featB c 7 0 25
  else if 0x568 ≤ a ∧ a ≤ 0x56E then hasPttt c && decide (a - 0x568 < nTriggerCfg c)
  else if a = 0x572 then featB c 7 0 25 && featB c 0x14 0 0
  else if 0x580 ≤ a ∧ a ≤ 0x587 then featB c 7 0 25 && decide (a - 0x580 < 2 * fieldOf (cpuidCfg c 0x14 1).eax 2 0)
  else if a = 0x600 then featD c 1 0 21
  else if a = 0x6A0 ∨ a = 0x6A2 then featC c 7 0 7 || featD c 7 0 20
  else if 0x6A4 ≤ a ∧ a ≤ 0x6A8 then featC c 7 0 7
  else if a = 0x6E0 then featC c 1 0 24
  else if 0x985 ≤ a ∧ a ≤ 0x98A then featD c 7 0 5
  else if a = 0x9F1 then hasPbndkb c
  else if a = 0xC8F then featB c 7 0 15
  else if a = 0xD90 then featB c 7 0 14
  else if a = 0xDA0 then featA c 0xD 1 3
  else msrExistsNamed c a

/-- The other addresses from 1000H up that exist (R44, R67). -/
def msrExistsHigh (c : Cfg) (td : TdMode) (a : Nat) : Bool :=
  if 0x1200 ≤ a ∧ a < 0x1240 then featD c 7 0 19 && decide (a - 0x1200 < lbrDepth c)
  else if a = 0x14CE ∨ a = 0x14CF then featD c 7 0 19
  else if 0x1500 ≤ a ∧ a < 0x1540 then featD c 7 0 19 && decide (a - 0x1500 < lbrDepth c)
  else if 0x1600 ≤ a ∧ a < 0x1640 then featD c 7 0 19 && decide (a - 0x1600 < lbrDepth c)
  else if 0x1900 ≤ a ∧ a < 0x1980 then
    let n := (a - 0x1900) / 4
    if (a - 0x1900) % 4 ≤ 1 then featA c 7 1 8 && gpExists c n
    else if (a - 0x1900) % 4 = 3 then gpCfgCExists c n && td != .noPerfmon
    else msrExistsNamed c a
  else if 0x1980 ≤ a ∧ a < 0x1A00 then
    let m := (a - 0x1980) / 4
    if (a - 0x1980) % 4 = 0 then featA c 7 1 8 && fxExists c m
    else if (a - 0x1980) % 4 = 3 then fxCfgCExists c m && td != .noPerfmon
    else msrExistsNamed c a
  else if a = 0x1B00 then hasUtmr c
  else if a = 0x1B01 then bitAt c.archCapabilities 12 && featD c 7 0 29
  else if a = 0xC0000080 ∨ (0xC0000100 ≤ a ∧ a ≤ 0xC0000102) then featD c 0x80000001 0 29
  else if a = 0xC0000082 then featD c 0x80000001 0 11
  else msrExistsNamed c a

/-- The first addresses of the counters and selectors, and the throttle registers, which no fixed range holds (R60, R722):
`none` for another address. -/
def msrExistsCounted (c : Cfg) (a : Nat) : Option Bool :=
  if 0xC1 ≤ a ∧ a < 0xC1 + legacyCounters then some (gpExists c (a - 0xC1))
  else if 0x186 ≤ a ∧ a < 0x186 + legacyCounters then some (gpExists c (a - 0x186))
  else if 0x309 ≤ a ∧ a < 0x309 + legacyFixed then some (fxExists c (a - 0x309))
  else if 0xE00 ≤ a ∧ a < 0xF00 then some (cbaMsr c a)
  else none

/-- `Cfg.msr_exists` (R10, R44, D14), for the current context. -/
def msrExists (s : State) (a : Nat) : Bool :=
  match msrExistsCounted s.cfg a with
  | some b => b
  | none =>
    (if a < 0x1000 then msrExistsLow s.cfg s.ctx.td a else msrExistsHigh s.cfg s.ctx.td a) || cbaMsr s.cfg a

/-! ### Reading (R500) -/

/-- IA32_RTIT_STATUS as read: bits 2:0 show the tracing state (R53, R754). -/
def State.rtitStatus (s : State) : W64 :=
  setBitTo (setBitTo (setBitTo (s.msrVal 0x571) 0 s.pt.filterEn) 1 s.pt.contextEn) 2 s.pt.triggerEn

/-- IA32_MISC_ENABLE as read: bit 12 is kept as 1 with Architectural PEBS (R55, R763). -/
def State.miscEnableRead (s : State) : W64 :=
  if hasArchPebs s.cfg then s.msrVal 0x1A0 ||| 0x1000 else s.msrVal 0x1A0

/-- IA32_PERF_CAPABILITIES (R56, R762): with Architectural PEBS bits 6, 7, 17 are 1, bits 11:8 are FH and bits 14 and 16 are 0. -/
def perfCapabilities (c : Cfg) : W64 :=
  if hasArchPebs c then (c.perfCapabilities &&& ~~~0x34FC0) ||| 0x20FC0 else c.perfCapabilities

/-- IA32_RTIT_CTL as read: TraceEn and BranchEn stand in `pt` (R69; the places of the bits are PRESUMED,
notes/assumptions/38.md). -/
def State.rtitCtl (s : State) : W64 :=
  setBitTo (setBitTo (s.msrVal 0x570) 0 s.pt.traceEn) 13 s.pt.branchEn

/-- What a read of an existing MSR answers, without its undefined bits. The write ports of the global status hold nothing and read as
0 (R500: reserved bits read 0, and no bit of an MSR of 10_state.md is undefined; that the other bits are 0 is PRESUMED,
notes/assumptions/16.md). -/
def msrStored (s : State) (a : Nat) : W64 :=
  if a = 0x10 then s.tscView
  else if a = 0x10A then s.cfg.archCapabilities
  else if a = 0x1A0 then s.miscEnableRead
  else if a = 0x345 then perfCapabilities s.cfg
  else if a = 0x390 ∨ a = 0x391 then 0
  else if a = 0x492 then s.cfg.vmxProcbasedCtls3
  else if a = 0x570 then s.rtitCtl
  else if a = 0x571 then s.rtitStatus
  else if a = 0x6E0 then (if s.timerVirtualized then s.vmcs.guestDeadlineShadow else s.msrVal 0x6E0)
  else if a = 0x981 then s.cfg.tmeCapability
  else if a = 0x985 then s.uirr
  else if a = 0x9F1 then tseCapability s.cfg
  else if a = 0x1B00 then (if s.nonRoot then s.vmcs.virtUserTimer else s.msrVal 0x1B00)
  else if a = 0xC0000080 then s.sys.efer
  else if a = 0xC0000100 then s.sys.segs.fs.base
  else if a = 0xC0000101 then s.sys.segs.gs.base
  else s.msrVal a

/-- The bit positions of an MSR whose read value is undefined (R500, U1): only of an MSR outside the spec. -/
def msrFreeBits (s : State) (a : Nat) : W64 :=
  match msrDesc s.cfg a with
  | some d => d.unimplemented
  | none => 0

/-- The value a read of MSR `a` answers. -/
def msrValue (s : State) (a : Nat) : W64 :=
  let h := msrHome a
  if msrFreeBits s h = 0 then msrStored s h
  else (msrStored s h &&& ~~~(msrFreeBits s h)) ||| (Config.msrUnimplemented h s.draws &&& msrFreeBits s h)

/-- `MsrRead` (R500). -/
def msrRead (a : Nat) : Act W64 := do
  let s ← get
  need (msrExists s a) (gpTrap s)
  set (if msrFreeBits s (msrHome a) = 0 then s else s.drawn 1)
  return msrValue s a

/-! ### Write checks (R500, R523) -/

/-- MSRs whose written value must be canonical (R67, R523), and IA32_USER_MSR_CTL (D25). -/
def msrCanonical (a : Nat) : Bool :=
  a == 0x1C || a == 0x175 || a == 0x176 || (decide (0x580 ≤ a) && decide (a ≤ 0x587)) || a == 0x600 || a == 0x6A0
    || a == 0x6A2 || (decide (0x6A4 ≤ a) && decide (a ≤ 0x6A8)) || a == 0x986 || a == 0x987 || a == 0x989 || a == 0x98A
    || a == 0xD90 || a == 0xC0000082 || (decide (0xC0000100 ≤ a) && decide (a ≤ 0xC0000102))

/-- Read-only MSRs: a write is #GP(0) (D14). -/
def msrReadOnly (c : Cfg) (a : Nat) : Bool :=
  a == 0xFE || a == 0x10A || a == 0x179 || a == 0x345 || a == 0x38E || a == 0x492 || a == 0x981 || a == 0x9F1
    || (match msrDesc c a with | some d => d.readOnly | none => false)

/-- All bits from `n` up. -/
def bitsFrom (n : Nat) : W64 := BitVec.ofNat 64 (2 ^ 64 - 2 ^ min n 64)

/-- The bits of IA32_PERF_GLOBAL_CTRL that name a counter (R60). -/
def globalCounters (c : Cfg) : W64 :=
  BitVec.ofNat 64 ((List.range 32).foldl
    (fun n i => n + (if gpExists c i then 2 ^ i else 0) + (if fxExists c i then 2 ^ (32 + i) else 0)) 0)

/-- The defined bits of IA32_PERF_GLOBAL_STATUS, which a write to _RESET or _SET may set: counter overflows and ARCH_PEBS (R60, R776),
and the base architecture's 55 and 63:58, which no rule names (PRESUMED, notes/assumptions/16.md). -/
def globalStatusBits (c : Cfg) : W64 :=
  globalCounters c ||| 0xFC80000000000000 ||| (if hasArchPebs c then 0x0040000000000000 else 0)

/-- XFD may name the components whose leaf 0DH row supports it (R273). -/
def xfdValid (c : Cfg) : W64 :=
  BitVec.ofNat 64 (((List.range 61).map (· + 2)).foldl
    (fun n i => if bitAt (cpuidCfg c 0xD i).ecx 2 then n + 2 ^ i else n) 0)

/-- The reserved bits of IA32_PMC_GPn_CFG_C and IA32_PMC_FXm_CFG_C (R765, R774): the fixed ones, the group bits that leaf
23H does not enumerate, and PEBS_EN and RELOAD_VALUE where sub-leaf 5 does not enumerate the counter. -/
def cfgCReserved (c : Cfg) (pebs : Bool) : W64 :=
  let groups : W64 := ((cpuidCfg c 0x23 4).ebx &&& 0x60E60378).setWidth 64 <<< 32
  ~~~(groups ||| (if pebs then 0x80000000FFFFFFFF else 0))

/-- Fixed-function counters in IA32_FIXED_CTR_CTRL: four bits each, so sixteen counters (PRESUMED, notes/assumptions/16.md).
Bits 32, 36, 40 and 44, ADAPTIVE_RECORD of model-specific PEBS, are reserved with Architectural PEBS (R775). -/
def fixedCtrlBits (c : Cfg) : W64 :=
  BitVec.ofNat 64 ((List.range 16).foldl (fun n m => if fxExists c m then n + 15 * 16 ^ m else n) 0)
    &&& ~~~(if hasArchPebs c then 0x0000111100000000 else 0)

/-- The bits of a mask unless a condition holds: they are reserved without the capability. -/
def without (b : Bool) (m : W64) : W64 := if b then 0 else m

/-- Reserved bits of IA32_RTIT_CTL, by leaf 14H (R284; the place of CR3Filter is PRESUMED, notes/assumptions/16.md). -/
def rtitCtlReserved (c : Cfg) : W64 :=
  let b := fun i => featB c 0x14 0 i
  without (b 0) 0x80 ||| without (b 4) 0x1020 ||| without (b 5) 0x10 ||| without (b 6) 0x0100000000000000
    ||| without (b 7) 0x80000000 ||| without (b 8) 0x0080000000000000

/-- Reserved bits of IA32_U_CET and IA32_S_CET (R262, R263): bits 9:6, bits 1:0 without CET_SS, and bits 5:2 and 63:10
without CET_IBT. -/
def cetReserved (c : Cfg) : W64 :=
  0x3C0 ||| without (featC c 7 0 7) 3 ||| without (featD c 7 0 20) 0xFFFFFFFFFFFFFC3C

/-- Reserved bits of the thermal and HWP registers, by leaf 06H (R236). -/
def thermalReserved (c : Cfg) (a : Nat) : W64 :=
  if a = 0x19B then without (featA c 6 0 24) 0x2000000
  else if a = 0x1B1 then without (featA c 6 0 19) 0x4000000
  else if a = 0x1B2 then without (featA c 6 0 19) 0x2000000
  else if a = 0x774 then without (featA c 6 0 9) 0x000003FF00000000 ||| without (featA c 6 0 10) 0xFF000000
  else 0

/-- Reserved bits of the MSRs that have a `NamedMsr` row (R67, R261 to R267). -/
def msrReservedNamed (c : Cfg) (a : Nat) : W64 :=
  if a = 0x1B then 0x2FF ||| without (featC c 1 0 21) 0x400 ||| bitsFrom (maxPhyAddr c)
  else if a = 0x48 then ~~~(specCtrlBits c)
  else thermalReserved c a

/-- Reserved bits of the MSRs below 1000H (R44 to R60, D15). The spec does not say which bits of IA32_XFD_ERR (1C5H, R37) a write may
set: the model reserves all but the components that XFD can disable, as in IA32_XFD (DESIGN CHOICE, notes/assumptions/16.md). -/
def msrReservedLow (c : Cfg) (a : Nat) : W64 :=
  if a = 0x1C then 0xFFE
  else if a = 0x1C4 ∨ a = 0x1C5 then ~~~(xfdValid c)
  else if a = 0x38D then ~~~(fixedCtrlBits c)
  else if a = 0x38F then ~~~(globalCounters c)
  else if a = 0x390 ∨ a = 0x391 then ~~~(globalStatusBits c)
  else if a = 0x3F4 then 0xFF0 ||| bitsFrom (maxPhyAddr c)
  else if a = 0x3F5 then 0xF800000E7800000F
  else if 0x568 ≤ a ∧ a ≤ 0x56E then 0x0F800F800F800F80
  else if a = 0x570 then rtitCtlReserved c
  else if a = 0x571 then (if hasPttt c then 0xFFFE0000FFFFFE08 else 0xFFFE0000FFFFFF08) ||| without (featB c 0x14 0 6) 0xC0
  else if a = 0x6A0 ∨ a = 0x6A2 then cetReserved c
  else if a = 0xDA0 then ~~~((cpuidCfg c 0xD 1).edx ++ (cpuidCfg c 0xD 1).ecx)
  else msrReservedNamed c a

/-- The depths that IA32_LBR_DEPTH may hold (R293). -/
def lbrDepthOk (c : Cfg) (v : W64) : Bool :=
  (List.range 8).any (fun n => bitAt (cpuidCfg c 0x1C 0).eax n && v == BitVec.ofNat 64 (8 * (n + 1)))

/-- Reserved bits of IA32_LBR_CTL, by leaf 1CH (R293). -/
def lbrCtlReserved (c : Cfg) : W64 :=
  without (featB c 0x1C 0 0) 6 ||| without (featB c 0x1C 0 1) 0x7F0000 ||| without (featB c 0x1C 0 2) 8

/-- Reserved bits of IA32_LBR_x_INFO, by leaf 1CH (R293). -/
def lbrInfoReserved (c : Cfg) : W64 :=
  without (featC c 0x1C 0 0) 0x8000000000000000 ||| without (featC c 0x1C 0 1) 0x100000000000FFFF
    ||| without (featC c 0x1C 0 2) 0x0F00000000000000

/-- Reserved bits of the MSRs from 1000H up (R48, R59, R293, R334, D15). Where (23H,0).EBX[1:0] reports UnitMask2 and the EQ bit
(R336), their places in IA32_PERFEVTSELx are not in the spec, and bits 63:32 but 38 stay reserved as R752 lists them:
DESIGN CHOICE, notes/assumptions/16.md. -/
def msrReservedHigh (c : Cfg) (a : Nat) : W64 :=
  if 0x1200 ≤ a ∧ a < 0x1240 then lbrInfoReserved c
  else if a = 0x14CE then lbrCtlReserved c
  else if a = 0x17DA then ~~~(((cpuidCfg c 0x20 0).ebx).setWidth 64)
  else if 0x1900 ≤ a ∧ a < 0x1980 ∧ (a - 0x1900) % 4 = 0 then bitsFrom (gpWidth c)
  else if 0x1900 ≤ a ∧ a < 0x1980 ∧ (a - 0x1900) % 4 = 1 then
    (if hasPttt c then 0xFFFFFFBF00000000 else 0xFFFFFFFF00000000)
  else if 0x1900 ≤ a ∧ a < 0x1980 ∧ (a - 0x1900) % 4 = 3 then cfgCReserved c (featA c 0x23 5 ((a - 0x1900) / 4))
  else if 0x1980 ≤ a ∧ a < 0x1A00 ∧ (a - 0x1980) % 4 = 0 then bitsFrom (fxWidth c)
  else if 0x1980 ≤ a ∧ a < 0x1A00 ∧ (a - 0x1980) % 4 = 3 then cfgCReserved c (featC c 0x23 5 ((a - 0x1980) / 4))
  else if a = 0x1B01 then c.uarchMiscReserved
  else msrReservedNamed c a

/-- The MSRs of which a rule says every bit (R45, R47, R48, R50, R52, R57 to R60, R752): the configuration reserves none. -/
def maskFixed (c : Cfg) (a : Nat) : Bool :=
  inSome [(0x1C, 0x1C), (0x3F4, 0x3F5), (0x568, 0x56E), (0x571, 0x571), (0x1B00, 0x1B01)] a || counterHigh a || cbaMsr c a

/-- The bits that the configuration reserves where no rule fixes them (R10). -/
def configuredMask (c : Cfg) (a : Nat) : W64 :=
  if maskFixed c a then 0
  else
    match c.msrs.find? (fun d => d.addr == a) with
    | some d => d.reserved
    | none => 0

/-- `Cfg.msr_reserved_mask` (R10), at an MSR's first address: what a rule reserves, and what the configuration does. -/
def msrReserved (c : Cfg) (a : Nat) : W64 :=
  (if a < 0x1000 then msrReservedLow c a else msrReservedHigh c a) ||| configuredMask c a

/-- The bytes of a value. -/
def bytesOf64 (v : W64) : List Nat := (List.range 8).map (fun j => (v >>> (8 * j)).toNat % 256)

/-- The throttle levels of MSR E00H + n are in range, and those of classes that do not exist are 0 (R723, D32). -/
def cbaOk (c : Cfg) (n : Nat) (v : W64) : Bool :=
  ((bytesOf64 v).zipIdx).all (fun e => decide (e.1 ≤ cbaMaxLevel c) && (decide (8 * n + e.2 ≤ cbaMaxCos c) || e.1 == 0))

/-- The active throttle level: byte (c mod 8) of MSR E00H + c / 8, where c is IA32_PQR_ASSOC.CLOS (R724). -/
def State.cbaLevel (s : State) : Nat :=
  let c := fieldOf (s.msrVal 0xC8F) 63 32
  (bytesOf64 (s.msrVal (0xE00 + c / 8))).getD (c % 8) 0

/-- The set bits of a value are contiguous, and there is one. -/
def contiguous (v : W64) : Bool := v != 0 && (v + (v &&& -v)) &&& v == 0

/-- A capacity mask may be written: no bit above the mask's length, and contiguous bits unless ECX[3] of the sub-leaf allows others
(R277, R278). That any other value is #GP(0), and the mask 0 too where bits must be contiguous, the spec does not say: PRESUMED
(notes/assumptions/16.md). -/
def catOk (c : Cfg) (sub : Nat) (v : W64) : Bool :=
  decide (v.toNat < 2 ^ (fieldOf (cpuidCfg c 0x10 sub).eax 4 0 + 1)) && (featC c 0x10 sub 3 || contiguous v)

/-- Checks on a written value beyond reserved bits: throttle levels (R723), the LBR depth (R293), the class of service (R51), a
capacity mask (R277, R278: what a mask that is too long or not contiguous does is PRESUMED), a locked IA32_TME_ACTIVATE and
IA32_EFER.LME under paging (notes/assumptions/16.md). -/
def msrExtraOk (s : State) (a : Nat) (v : W64) : Bool :=
  if cbaMsr s.cfg a then cbaOk s.cfg (a - 0xE00) v
  else if a = 0x14CF then lbrDepthOk s.cfg v
  else if a = 0xC8F then !hasCba s.cfg || decide (fieldOf v 63 32 ≤ cbaMaxCos s.cfg)
  else if a = 0x982 then !bitAt (s.msrVal 0x982) 0
  else if a = 0xC0000080 then !bitAt s.sys.cr0 31 || bitAt v 8 == bitAt s.sys.efer 8
  else match catMask s.cfg a with
    | some sub => catOk s.cfg sub v
    | none => true

/-- A write of `v` to MSR `a` is permitted (R500, R523). -/
def msrWriteOk (s : State) (a : Nat) (v : W64) : Bool :=
  let h := msrHome a
  msrExists s a && !msrReadOnly s.cfg h && (v &&& msrReserved s.cfg h == 0)
    && (!msrCanonical h || canonical s.cfg v) && msrExtraOk s h v

/-! ### Writing -/

/-- A write to IA32_UINTR_TIMER (R841); in VMX non-root operation R846. A deadline that converts to 0 is stored as 0, which
disables the timer: the spec does not discuss it (DESIGN CHOICE, notes/assumptions/40.md). -/
def State.writeUserTimer (s : State) (v : W64) : State :=
  if s.nonRoot then
    let d := if v &&& 0xFFFFFFFFFFFFFFC0 = 0 then 0 else virtToActual s.vmcs (v &&& 0xFFFFFFFFFFFFFFC0)
    { s.setMsr 0x1B00 ((d &&& 0xFFFFFFFFFFFFFFC0) ||| (v &&& 0x3F)) with vmcs := { s.vmcs with virtUserTimer := v } }
  else s.setMsr 0x1B00 v

/-- A write to IA32_TSC_DEADLINE (R61); under APIC-timer virtualization R855. -/
def State.writeTscDeadline (s : State) (v : W64) : State :=
  if s.timerVirtualized then
    { s with vmcs := { s.vmcs with guestDeadlineShadow := v }
             guestDeadline := if v = 0 then 0 else virtToActual s.vmcs v }
  else s.setMsr 0x6E0 v

/-- The effect of a permitted write, at an MSR's first address. -/
def msrStore (s : State) (a : Nat) (v : W64) : State :=
  if a = 0x10 then { s with tsc := v }
  else if a = 0x1A0 then s.setMsr 0x1A0 (if hasArchPebs s.cfg then v ||| 0x1000 else v)
  else if a = 0x390 then s.setMsr 0x38E (s.msrVal 0x38E &&& ~~~v)
  else if a = 0x391 then s.setMsr 0x38E (s.msrVal 0x38E ||| v)
  else if a = 0x570 then
    { s.setMsr 0x570 (v &&& ~~~0x2001) with pt := { s.pt with traceEn := bitAt v 0, branchEn := bitAt v 13 } }
  else if a = 0x571 then s.setMsr 0x571 (v &&& ~~~7)
  else if a = 0x6E0 then s.writeTscDeadline v
  else if a = 0x982 then { s.setMsr 0x982 v with tmemk := if bitAt v 1 then [] else s.tmemk }
  else if a = 0x985 then { s with uirr := v }
  else if a = 0x1B00 then s.writeUserTimer v
  else if a = 0xC0000080 then { s with sys := { s.sys with efer := setBitTo v 10 (bitAt s.sys.efer 10) } }
  else if a = 0xC0000100 then
    { s with sys := { s.sys with segs := { s.sys.segs with fs := { s.sys.segs.fs with base := v } } } }
  else if a = 0xC0000101 then
    { s with sys := { s.sys with segs := { s.sys.segs with gs := { s.sys.segs.gs with base := v } } } }
  else s.setMsr a v

/-- The machine after a permitted write to MSR `a`. -/
def State.msrWritten (s : State) (a : Nat) (v : W64) : State := msrStore s (msrHome a) v

/-- `MsrWrite` (R500): the write takes effect at the end of the instruction and drains nothing (R133, R522). -/
def msrWrite (a : Nat) (v : W64) : Act Unit := do
  let s ← get
  need (msrWriteOk s a v) (gpTrap s)
  set (s.msrWritten a v)

/-! ### The user-MSR bitmap (R45, R46, R506) -/

/-- `UserMsrBit`: an implicit supervisor-mode read of one byte (R139, D25). -/
def userMsrBit (write : Bool) (a : Nat) : Act Bool := do
  let s ← get
  let off : W64 := (s.msrVal 0x1C &&& 0xFFFFFFFFFFFFF000) + BitVec.ofNat 64 ((if write then 2048 else 0) + a / 8)
  let bs ← loadPhys (← liftE (translateBytes s .read true 1 off))
  return bitAt (bs.headD 0) (a % 8)

end Sys2Proof.Machine
end

