-- ==== Sys2Proof/Machine/MsrInstr.lean ====
section
/-! DEFINITION. RDMSR, WRMSRNS, URDMSR, UWRMSR (46_msr_access_mwait.md R500 to R523). -/

namespace Sys2Proof.Machine

/-- A VM exit of RDMSR (31) or WRMSRNS (32), immediate forms included: the reason, the qualification and the place of the exit are
PRESUMED from the base architecture. What the VM-exit instruction information then holds is not in the spec: all of it is a free
value (DESIGN CHOICE, R501, notes/assumptions/17.md). -/
def msrExit (s : State) (a : Nat) (write : Bool) (qualification : W64) : Act Unit :=
  if s.msrExits a write then do
    set (s.drawn 1)
    throw (.exit (if write then 32 else 31) qualification (Config.exitInfoBits s.draws))
  else pure ()

/-- Privilege of the implicit forms (R501, R520): #GP(0) in virtual-8086 mode and outside privilege level 0. -/
def implicitOk (s : State) : Bool := s.mode != .v86 && s.cpl == 0

/-- RDMSR, implicit form (R501). -/
def readMsrImplicit : Act Unit := do
  let s ← get
  need (hasMsr s.cfg) udTrap
  need (implicitOk s) (gpTrap s)
  msrExit s (s.reg32 .rcx).toNat false 0
  let v ← msrRead (s.reg32 .rcx).toNat
  modify (fun t => (t.setReg32 .rax (v.setWidth 32)).setReg32 .rdx (v.extractLsb' 32 32))

/-- RDMSR. -/
def execRdmsr (s : State) : Host.Outcome State Fault Refusal := settle readMsrImplicit s

/-- RDMSR, immediate form (R502, R503); `apx` for the EVEX row. -/
def readMsrImm (apx : Bool) (d : Gpr) (imm : W32) : Act Unit := do
  let s ← get
  need (s.is64 && hasMsrImm s.cfg && (!apx || hasApx s.cfg)) udTrap
  need (s.cpl == 0) (gpTrap s)
  msrExit s imm.toNat false (imm.setWidth 64)
  let v ← msrRead imm.toNat
  modify (·.setReg d v)

/-- RDMSR r64, imm32 (VEX). -/
def execRdmsrImm (d : Gpr) (imm : W32) (s : State) : Host.Outcome State Fault Refusal := settle (readMsrImm false d imm) s

/-- RDMSR r64, imm32 (EVEX). -/
def execRdmsrImmApx (d : Gpr) (imm : W32) (s : State) : Host.Outcome State Fault Refusal :=
  settle (readMsrImm true d imm) s

/-- The conditions before the bitmap (R505, R510): 64-bit mode, USER_MSR, IA32_USER_MSR_CTL.ENABLE. -/
def userMsrOk (s : State) : Bool := s.is64 && hasUserMsr s.cfg && bitAt (s.msrVal 0x1C) 0

/-- The bitmap check of R505 and R510: the address fits 14 bits and its bit is 1. -/
def userMsrAllowed (write : Bool) (a : W64) : Act Unit := do
  need (a.toNat < 0x4000) (gpTrap (← get))
  let ok ← userMsrBit write a.toNat
  need ok (gpTrap (← get))

/-- A VM exit of URDMSR (80) or UWRMSR (81), or #GP(0) in an enclave (R507). -/
def userMsrExit (g : Gpr) (a : Nat) (write : Bool) : Act Unit := do
  let s ← get
  if s.userMsrExits a write then
    if s.ctx.enclave = .none then do
      set (s.drawn 1)
      throw (.exit (if write then 81 else 80) (BitVec.ofNat 64 a) (userExitInfo g s.draws))
    else throw (gpTrap s)
  else pure ()

/-- URDMSR (R505): destination `d`, address `a`. -/
def userRead (d : Gpr) (a : W64) : Act Unit := do
  need (userMsrOk (← get)) udTrap
  userMsrAllowed false a
  let s ← get
  need (msrExists s a.toNat) (gpTrap s)
  userMsrExit d a.toNat false
  let v ← msrRead a.toNat
  modify (·.setReg d v)

/-- URDMSR r64, r64. -/
def execUrdmsr (d a : Gpr) (s : State) : Host.Outcome State Fault Refusal := settle (userRead d (s.reg a)) s

/-- URDMSR r64, imm32. -/
def execUrdmsrImm (d : Gpr) (imm : W32) (s : State) : Host.Outcome State Fault Refusal :=
  settle (userRead d (imm.setWidth 64)) s

/-- Table 2-7 (R511): the MSRs that UWRMSR may write. -/
def userWritable (a : Nat) : Bool := a == 0x1B00 || a == 0x1B01

/-- UWRMSR (R510): address `a`, data register `g`. -/
def userWrite (a : W64) (g : Gpr) : Act Unit := do
  need (userMsrOk (← get)) udTrap
  userMsrAllowed true a
  let s ← get
  need (userWritable a.toNat) (gpTrap s)
  need (msrWriteOk s a.toNat (s.reg g)) (gpTrap s)
  userMsrExit g a.toNat true
  msrWrite a.toNat (s.reg g)

/-- UWRMSR r64, r64. -/
def execUwrmsr (a v : Gpr) (s : State) : Host.Outcome State Fault Refusal := settle (userWrite (s.reg a) v) s

/-- UWRMSR imm32, r64. -/
def execUwrmsrImm (imm : W32) (v : Gpr) (s : State) : Host.Outcome State Fault Refusal :=
  settle (userWrite (imm.setWidth 64) v) s

/-- EDX:EAX (R520). -/
def State.edxEax (s : State) : W64 := s.reg32 .rdx ++ s.reg32 .rax

/-- WRMSRNS, implicit form (R520). -/
def writeMsrImplicit : Act Unit := do
  let s ← get
  need (hasWrmsrns s.cfg) udTrap
  need (implicitOk s) (gpTrap s)
  msrExit s (s.reg32 .rcx).toNat true 0
  msrWrite (s.reg32 .rcx).toNat s.edxEax

/-- WRMSRNS. -/
def execWrmsrns (s : State) : Host.Outcome State Fault Refusal := settle writeMsrImplicit s

/-- WRMSRNS, immediate form (R521); `apx` for the EVEX row. -/
def writeMsrImm (apx : Bool) (imm : W32) (g : Gpr) : Act Unit := do
  let s ← get
  need (s.is64 && hasMsrImm s.cfg && (!apx || hasApx s.cfg)) udTrap
  need (s.cpl == 0) (gpTrap s)
  msrExit s imm.toNat true (imm.setWidth 64)
  msrWrite imm.toNat (s.reg g)

/-- WRMSRNS imm32, r64 (VEX). -/
def execWrmsrnsImm (imm : W32) (v : Gpr) (s : State) : Host.Outcome State Fault Refusal := settle (writeMsrImm false imm v) s

/-- WRMSRNS imm32, r64 (EVEX). -/
def execWrmsrnsImmApx (imm : W32) (v : Gpr) (s : State) : Host.Outcome State Fault Refusal :=
  settle (writeMsrImm true imm v) s

end Sys2Proof.Machine
end

