-- ==== Sys2Proof/Machine/Mwait.lean ====
section
/-! DEFINITION. MWAIT and MONITOR (46_msr_access_mwait.md R528 to R536). -/

namespace Sys2Proof.Machine

/-- M of R528: CPUID.01H:ECX[3]. -/
def monitorFlag (s : State) : Bool := bitAt (cpuidLeaf s 1 0).ecx 3
/-- W of R528: CPUID.(07H,1):EDX[23]. -/
def mwaitFlag (s : State) : Bool := bitAt (cpuidLeaf s 7 1).edx 23
/-- CPUID.05H:ECX, whose bit 1 is interrupt break events and bit 3 L of R528. -/
def monitorLeaf (s : State) : W32 := (cpuidLeaf s 5 0).ecx

/-- The extensions in ECX, in RCX in 64-bit mode (R530, R533). -/
def State.mwaitExt (s : State) : W64 := if s.is64 then s.reg .rcx else (s.reg32 .rcx).setWidth 64

/-- The #GP conditions of R530. -/
def mwaitArgsOk (s : State) : Bool :=
  let c := s.mwaitExt
  (c &&& 0xFFFFFFFFFFFFFFFA == 0)
    && (!bitAt c 0 || bitAt (monitorLeaf s) 1)
    && (if bitAt c 2 then bitAt (monitorLeaf s) 3 else monitorFlag s)

/-- The #UD conditions of R530. -/
def mwaitOk (s : State) : Bool :=
  s.mode != .v86 && monitorEnabled s && (monitorFlag s || mwaitFlag s) && s.cpl == 0

/-- The monitor is triggered. -/
def Monitor.trigger (m : Monitor) : Monitor := { m with armed := false }

/-- After MWAIT (R530): a monitored wait ends with the monitor triggered; a monitorless one leaves it as it is or triggers
it, which is a free value (D26). The wait itself returns at once (I7, notes/assumptions/21.md). Where CPUID.1CH:EAX[30] is 1 the LBRs
"may be cleared" on a request for a C-state above C1 (R293): the model never clears them (DESIGN CHOICE,
notes/assumptions/21.md). -/
def mwaitEffect (s : State) : State :=
  if bitAt s.mwaitExt 2 then
    { s.drawn 1 with monitor := if Config.monitorlessTriggers s.draws then s.monitor.trigger else s.monitor }
  else { s with monitor := s.monitor.trigger }

/-- MWAIT (R530). -/
def waitOnMonitor : Act Unit := do
  let s ← get
  need (mwaitOk s) udTrap
  need (mwaitArgsOk s) (gpTrap s)
  set (mwaitEffect s)

/-- MWAIT. -/
def execMwait (s : State) : Host.Outcome State Fault Refusal := settle waitOnMonitor s

/-- The size of the monitored range: between the limits of leaf 05H (R65, I8). -/
def lineSize (s : State) : Nat :=
  let lo := fieldOf (cpuidLeaf s 5 0).eax 15 0
  let hi := fieldOf (cpuidLeaf s 5 0).ebx 15 0
  if lo = hi then lo else min (max (Config.monitorLineSize lo hi) lo) hi

/-- The line of `n` bytes that contains a physical address. -/
def armLine (n a : Nat) : Monitor := ⟨true, if n = 0 then a else a / n * n, n⟩

/-- The monitor after MONITOR read the physical byte `a`: armed on its line. The spec says only that the range should be write-back
memory (R128), and speaks of a MONITOR that "did not successfully arm an address range" (R530): on another memory type a free value
decides whether it arms, and where it does not, no range is armed (DESIGN CHOICE, notes/assumptions/43.md). -/
def State.armAt (s : State) (a : Nat) : State :=
  if memType s.cfg a = .wb then { s with monitor := armLine (lineSize s) a }
  else
    { s.drawn 1 with
      monitor := if Config.monitorArms s.draws then armLine (lineSize s) a else s.monitor.trigger }

/-- MONITOR (R536): arm the line containing DS:rAX. -/
def armMonitor (seg : Option Seg) (asz : AddrSize) : Act Unit := do
  let s ← get
  need (s.mode != .v86 && monitorEnabled s && monitorFlag s && s.cpl == 0) udTrap
  let g := seg.getD .ds
  let as ← liftE (accessBytes s g (truncAddr asz (s.reg .rax)) 1 .read false)
  loadPhys as >>= fun _ => modify (·.armAt (as.headD 0))

/-- MONITOR. -/
def execMonitor (seg : Option Seg) (asz : AddrSize) (s : State) : Host.Outcome State Fault Refusal :=
  settle (armMonitor seg asz) s

end Sys2Proof.Machine
end

