-- ==== Sys2Proof/Machine/Rao.lean ====
section
/-! DEFINITION. Remote atomic operations (43_rao.md R400 to R411): the update is posted, not performed (20_memory.md R130). -/

namespace Sys2Proof.Machine

/-- The checks of R402 on the destination, in its order: segment or canonical, alignment (#GP), translation for a write,
memory type WB. Answers the physical bytes. -/
def raoCheck (s : State) (m : MemOp) (n : Nat) : Except Trap (List Nat) := do
  let la ← checkLinear s (segOf m) (s.ea m) n true
  if !aligned la n then .error (gpTrap s)
  else
    let as ← translateBytes s .write false n la
    if as.all (fun a => memType s.cfg a == .wb) then .ok as else .error (gpTrap s)

/-- `reg[OSIZE-1:0]` (R402). -/
def raoSrc (sz : RaoSize) (v : W64) : W64 :=
  match sz with
  | .o32 => (v.setWidth 32).setWidth 64
  | .o64 => v

/-- Post an update (R130). -/
def State.post (s : State) (e : RaoEntry) : State := { s with rao := s.rao ++ [e] }

/-- The common execution of R402. -/
def raoPost (op : RaoOp) (sz : RaoSize) (m : MemOp) (r : Gpr) : Act Unit := do
  let s ← get
  need (hasRaoInt s.cfg) udTrap
  let as ← liftE (raoCheck s m (raoWidth sz))
  need (!s.ctx.tsx) .abort
  set (s.post ⟨op, as, raoSrc sz (s.reg r)⟩)

/-- AADD (R408). -/
def execAadd (sz : RaoSize) (m : MemOp) (r : Gpr) (s : State) : Host.Outcome State Fault Refusal :=
  settle (raoPost .add sz m r) s

/-- AAND (R409). -/
def execAand (sz : RaoSize) (m : MemOp) (r : Gpr) (s : State) : Host.Outcome State Fault Refusal :=
  settle (raoPost .and sz m r) s

/-- AOR (R410). -/
def execAor (sz : RaoSize) (m : MemOp) (r : Gpr) (s : State) : Host.Outcome State Fault Refusal :=
  settle (raoPost .or sz m r) s

/-- AXOR (R411). -/
def execAxor (sz : RaoSize) (m : MemOp) (r : Gpr) (s : State) : Host.Outcome State Fault Refusal :=
  settle (raoPost .xor sz m r) s

end Sys2Proof.Machine
end

