-- ==== Sys2Proof/Machine/Sm4.lean ====
section
/-! DEFINITION. VSM4KEY4 and VSM4RNDS4 (47_sm4.md R540 to R546), and the whole cipher that they compute (R547). -/

namespace Sys2Proof.Machine

/-! ### The cipher (R541, R542) -/

/-- The S-box (R541), one row of sixteen entries a number, entry 0 of a row first. -/
def sboxRows : List Nat :=
  [0xD690E9FECCE13DB716B614C228FB2C05, 0x2B679A762ABE04C3AA44132649860699,
   0x9C4250F491EF987A33540B43EDCFAC62, 0xE4B31CA9C908E89580DF94FA758F3FA6,
   0x4707A7FCF37317BA83593C19E6854FA8, 0x686B81B27164DA8BF8EB0F4B70569D35,
   0x1E240E5E6358D1A225227C3B01217887, 0xD40046579FD327524C3602E7A0C4C89E,
   0xEABF8AD240C738B5A3F7F2CEF96115A1, 0xE0AE5DA49B341A55AD933230F58CB1E3,
   0x1DF6E22E8266CA60C02923AB0D534E6F, 0xD5DB3745DEFD8E2F03FF6A726D6C5B51,
   0x8D1BAF92BBDDBC7F11D95C411F105AD8, 0x0AC13188A5CD7BBD2D74D012B8E5B4B0,
   0x8969974A0C96777E65B9F109C56EC684, 0x18F07DEC3ADC4D2079EE5F3ED7CB3948]

/-- `sbox[i]` (R541): row `i / 16`, column `i % 16`. -/
def sbox (i : Nat) : Byte := BitVec.ofNat 8 (sboxRows.getD (i / 16) 0 >>> (8 * (15 - i % 16)))

/-- `lower_t` (R542): each byte through the S-box. -/
def lowerT (w : W32) : W32 :=
  sbox (w.extractLsb' 24 8).toNat ++ sbox (w.extractLsb' 16 8).toNat
    ++ sbox (w.extractLsb' 8 8).toNat ++ sbox (w.extractLsb' 0 8).toNat

/-- `L_KEY` (R542). -/
def lKey (w : W32) : W32 := w ^^^ w.rotateLeft 13 ^^^ w.rotateLeft 23

/-- `L_RND` (R542). -/
def lRnd (w : W32) : W32 :=
  w ^^^ w.rotateLeft 2 ^^^ w.rotateLeft 10 ^^^ w.rotateLeft 18 ^^^ w.rotateLeft 24

/-- `F_KEY` with `l = L_KEY`, `F_RND` with `l = L_RND` (R542). -/
def sm4F (l : W32 → W32) (x0 x1 x2 x3 rk : W32) : W32 := x0 ^^^ l (lowerT (x1 ^^^ x2 ^^^ x3 ^^^ rk))

/-- Dword `j` of the four rounds on one lane (R543, R544): `p` and `c` are the lane's dwords of SRC1 and SRC2. -/
def sm4Round (l : W32 → W32) (p c : Nat → W32) (j : Nat) : W32 :=
  let c0 := sm4F l (p 0) (p 1) (p 2) (p 3) (c 0)
  let c1 := sm4F l (p 1) (p 2) (p 3) c0 (c 1)
  let c2 := sm4F l (p 2) (p 3) c0 c1 (c 2)
  let c3 := sm4F l (p 3) c0 c1 c2 (c 3)
  match j with
  | 0 => c0
  | 1 => c1
  | 2 => c2
  | _ => c3

/-- Every lane of `vl` bits, the bits above zero (R543, R544). -/
def sm4Lanes (l : W32 → W32) (vl : Nat) (s1 s2 : W512) : W512 :=
  ofDwords (vl / 32) (fun j =>
    sm4Round l (fun i => dwordAt s1 (4 * (j / 4) + i)) (fun i => dwordAt s2 (4 * (j / 4) + i)) (j % 4))

/-! ### The whole cipher (R547), out of the operations of the two instructions on one lane -/

/-- Four words as a lane. -/
def sm4Block (w : Nat → W32) : W512 := ofDwords 4 w

/-- FK (R547). -/
def sm4Fk (j : Nat) : W32 := [0xA3B1BAC6, 0x56AA3350, 0x677D9197, 0xB27022DC].getD j 0

/-- CK[i] (R547): the dword whose bytes, most significant first, are (4i + j) * 7 mod 256 for j = 0 to 3. -/
def sm4Ck (i : Nat) : W32 :=
  BitVec.ofNat 8 (4 * i * 7) ++ BitVec.ofNat 8 ((4 * i + 1) * 7) ++ BitVec.ofNat 8 ((4 * i + 2) * 7)
    ++ BitVec.ofNat 8 ((4 * i + 3) * 7)

/-- What precedes block `r` of the key schedule of the master key `mk` (R547): K[0..3], then the blocks rk[4r - 4..4r - 1], each
VSM4KEY4's result on the block before it and CK. -/
def sm4KeyBlock (mk : Nat → W32) : Nat → W512
  | 0 => sm4Block (fun j => mk j ^^^ sm4Fk j)
  | r + 1 => sm4Lanes lKey 128 (sm4KeyBlock mk r) (sm4Block (fun j => sm4Ck (4 * r + j)))

/-- Round key rk[i] (R547). -/
def sm4RoundKey (mk : Nat → W32) (i : Nat) : W32 := dwordAt (sm4KeyBlock mk (i / 4 + 1)) (i % 4)

/-- The cipher state after 4r rounds (R547): each four are VSM4RNDS4's result on the state before and the block of round keys. -/
def sm4State (mk x : Nat → W32) : Nat → W512
  | 0 => sm4Block x
  | r + 1 => sm4Lanes lRnd 128 (sm4State mk x r) (sm4KeyBlock mk (r + 1))

/-- Dword `j` of the ciphertext of `x` under `mk` (R547): the last state with its four dwords reversed. -/
def sm4Encrypt (mk x : Nat → W32) (j : Nat) : W32 := dwordAt (sm4State mk x 8) (3 - j)

/-! ### The instructions -/

/-- The #UD conditions of Exceptions Type 6 (R546): VEX forms. -/
def sm4VexOk (s : State) : Bool :=
  s.mode != .real && s.mode != .v86 && bitAt s.sys.cr4 18 && (s.sys.xcr0 &&& 6 == 6) && hasAvx s.cfg && hasSm4 s.cfg

/-- The #UD conditions of Exceptions Type E6 (R546): EVEX forms. -/
def sm4EvexOk (s : State) (vl : Nat) : Bool :=
  s.mode != .real && s.mode != .v86 && evexEnabled s && hasAvx102 s.cfg && vlSupported s.cfg vl && hasSm4 s.cfg

/-- The third operand: a register, or `vl` bits of memory (R543). Its unit of alignment for #AC(0) (R546, R826) is the whole operand,
16, 32 or 64 bytes: the spec gives none for vectors (DESIGN CHOICE, notes/assumptions/29.md). -/
def vecSrc (vl : Nat) (v : VecSrc) : Act W512 :=
  match v with
  | .reg r => return (← get).zmm r
  | .mem m => return ofBytes (← loadOp m (vl / 8) true)

/-- The common operation of R543 and R544. -/
def sm4 (ok : State → Bool) (l : W32 → W32) (vl : Nat) (d s1 : VReg) (s2 : VecSrc) : Act Unit := do
  let s ← get
  need (ok s) udTrap
  need (!bitAt s.sys.cr0 3) nmTrap
  let b ← vecSrc vl s2
  modify (·.setZmm d (sm4Lanes l vl (s.zmm s1) b))

/-- VSM4KEY4, VEX.128 (R543). -/
def execVsm4Key4Vex128 (d s1 : VReg) (s2 : VecSrc) (s : State) : Host.Outcome State Fault Refusal :=
  settle (sm4 sm4VexOk lKey 128 d s1 s2) s

/-- VSM4KEY4, VEX.256 (R543). -/
def execVsm4Key4Vex256 (d s1 : VReg) (s2 : VecSrc) (s : State) : Host.Outcome State Fault Refusal :=
  settle (sm4 sm4VexOk lKey 256 d s1 s2) s

/-- VSM4KEY4, EVEX.128 (R543). -/
def execVsm4Key4Evex128 (d s1 : VReg) (s2 : VecSrc) (s : State) : Host.Outcome State Fault Refusal :=
  settle (sm4 (sm4EvexOk · 128) lKey 128 d s1 s2) s

/-- VSM4KEY4, EVEX.256 (R543). -/
def execVsm4Key4Evex256 (d s1 : VReg) (s2 : VecSrc) (s : State) : Host.Outcome State Fault Refusal :=
  settle (sm4 (sm4EvexOk · 256) lKey 256 d s1 s2) s

/-- VSM4KEY4, EVEX.512 (R543). -/
def execVsm4Key4Evex512 (d s1 : VReg) (s2 : VecSrc) (s : State) : Host.Outcome State Fault Refusal :=
  settle (sm4 (sm4EvexOk · 512) lKey 512 d s1 s2) s

/-- VSM4RNDS4, VEX.128 (R544). -/
def execVsm4Rnds4Vex128 (d s1 : VReg) (s2 : VecSrc) (s : State) : Host.Outcome State Fault Refusal :=
  settle (sm4 sm4VexOk lRnd 128 d s1 s2) s

/-- VSM4RNDS4, VEX.256 (R544). -/
def execVsm4Rnds4Vex256 (d s1 : VReg) (s2 : VecSrc) (s : State) : Host.Outcome State Fault Refusal :=
  settle (sm4 sm4VexOk lRnd 256 d s1 s2) s

/-- VSM4RNDS4, EVEX.128 (R544). -/
def execVsm4Rnds4Evex128 (d s1 : VReg) (s2 : VecSrc) (s : State) : Host.Outcome State Fault Refusal :=
  settle (sm4 (sm4EvexOk · 128) lRnd 128 d s1 s2) s

/-- VSM4RNDS4, EVEX.256 (R544). -/
def execVsm4Rnds4Evex256 (d s1 : VReg) (s2 : VecSrc) (s : State) : Host.Outcome State Fault Refusal :=
  settle (sm4 (sm4EvexOk · 256) lRnd 256 d s1 s2) s

/-- VSM4RNDS4, EVEX.512 (R544). -/
def execVsm4Rnds4Evex512 (d s1 : VReg) (s2 : VecSrc) (s : State) : Host.Outcome State Fault Refusal :=
  settle (sm4 (sm4EvexOk · 512) lRnd 512 d s1 s2) s

end Sys2Proof.Machine
end

