-- ==== Sys2Proof/Machine/Dispatch.lean ====
section
/-! DEFINITION. One arm per instruction: the meaning of each constructor of `Instr`. -/

namespace Sys2Proof.Machine

/-- What an instruction does. -/
def exec (i : Instr) (s : State) : Host.Outcome State Fault Refusal :=
  match i with
  | .cpuid => Sys2Proof.Machine.execCpuid s
  | .aadd sz m r => Sys2Proof.Machine.execAadd sz m r s
  | .aand sz m r => Sys2Proof.Machine.execAand sz m r s
  | .aor sz m r => Sys2Proof.Machine.execAor sz m r s
  | .axor sz m r => Sys2Proof.Machine.execAxor sz m r s
  | .movrsB d m => Sys2Proof.Machine.execMovrsB d m s
  | .movrsV sz d m => Sys2Proof.Machine.execMovrsV sz d m s
  | .vmovrsB128 d k z m => Sys2Proof.Machine.execVmovrsB128 d k z m s
  | .vmovrsB256 d k z m => Sys2Proof.Machine.execVmovrsB256 d k z m s
  | .vmovrsB512 d k z m => Sys2Proof.Machine.execVmovrsB512 d k z m s
  | .vmovrsW128 d k z m => Sys2Proof.Machine.execVmovrsW128 d k z m s
  | .vmovrsW256 d k z m => Sys2Proof.Machine.execVmovrsW256 d k z m s
  | .vmovrsW512 d k z m => Sys2Proof.Machine.execVmovrsW512 d k z m s
  | .vmovrsD128 d k z m => Sys2Proof.Machine.execVmovrsD128 d k z m s
  | .vmovrsD256 d k z m => Sys2Proof.Machine.execVmovrsD256 d k z m s
  | .vmovrsD512 d k z m => Sys2Proof.Machine.execVmovrsD512 d k z m s
  | .vmovrsQ128 d k z m => Sys2Proof.Machine.execVmovrsQ128 d k z m s
  | .vmovrsQ256 d k z m => Sys2Proof.Machine.execVmovrsQ256 d k z m s
  | .vmovrsQ512 d k z m => Sys2Proof.Machine.execVmovrsQ512 d k z m s
  | .prefetchrst2 m => Sys2Proof.Machine.execPrefetchrst2 m s
  | .pbndkb => Sys2Proof.Machine.execPbndkb s
  | .pconfig => Sys2Proof.Machine.execPconfig s
  | .rdmsr => Sys2Proof.Machine.execRdmsr s
  | .rdmsrImm d imm => Sys2Proof.Machine.execRdmsrImm d imm s
  | .rdmsrImmApx d imm => Sys2Proof.Machine.execRdmsrImmApx d imm s
  | .urdmsr d a => Sys2Proof.Machine.execUrdmsr d a s
  | .urdmsrImm d imm => Sys2Proof.Machine.execUrdmsrImm d imm s
  | .uwrmsr a v => Sys2Proof.Machine.execUwrmsr a v s
  | .uwrmsrImm imm v => Sys2Proof.Machine.execUwrmsrImm imm v s
  | .wrmsrns => Sys2Proof.Machine.execWrmsrns s
  | .wrmsrnsImm imm v => Sys2Proof.Machine.execWrmsrnsImm imm v s
  | .wrmsrnsImmApx imm v => Sys2Proof.Machine.execWrmsrnsImmApx imm v s
  | .mwait => Sys2Proof.Machine.execMwait s
  | .monitor seg asz => Sys2Proof.Machine.execMonitor seg asz s
  | .vsm4Key4Vex128 d s1 s2 => Sys2Proof.Machine.execVsm4Key4Vex128 d s1 s2 s
  | .vsm4Key4Vex256 d s1 s2 => Sys2Proof.Machine.execVsm4Key4Vex256 d s1 s2 s
  | .vsm4Key4Evex128 d s1 s2 => Sys2Proof.Machine.execVsm4Key4Evex128 d s1 s2 s
  | .vsm4Key4Evex256 d s1 s2 => Sys2Proof.Machine.execVsm4Key4Evex256 d s1 s2 s
  | .vsm4Key4Evex512 d s1 s2 => Sys2Proof.Machine.execVsm4Key4Evex512 d s1 s2 s
  | .vsm4Rnds4Vex128 d s1 s2 => Sys2Proof.Machine.execVsm4Rnds4Vex128 d s1 s2 s
  | .vsm4Rnds4Vex256 d s1 s2 => Sys2Proof.Machine.execVsm4Rnds4Vex256 d s1 s2 s
  | .vsm4Rnds4Evex128 d s1 s2 => Sys2Proof.Machine.execVsm4Rnds4Evex128 d s1 s2 s
  | .vsm4Rnds4Evex256 d s1 s2 => Sys2Proof.Machine.execVsm4Rnds4Evex256 d s1 s2 s
  | .vsm4Rnds4Evex512 d s1 s2 => Sys2Proof.Machine.execVsm4Rnds4Evex512 d s1 s2 s
  | .ldtilecfg m => Sys2Proof.Machine.execLdtilecfg m s
  | .sttilecfg m => Sys2Proof.Machine.execSttilecfg m s
  | .tilerelease => Sys2Proof.Machine.execTilerelease s
  | .tilezero t => Sys2Proof.Machine.execTilezero t s
  | .tileloadd t m => Sys2Proof.Machine.execTileloadd t m s
  | .tileloaddT1 t m => Sys2Proof.Machine.execTileloaddT1 t m s
  | .tilestored m t => Sys2Proof.Machine.execTilestored m t s
  | .t2rpntlvwZ0 t m => Sys2Proof.Machine.execT2rpntlvwZ0 t m s
  | .t2rpntlvwZ0T1 t m => Sys2Proof.Machine.execT2rpntlvwZ0T1 t m s
  | .t2rpntlvwZ1 t m => Sys2Proof.Machine.execT2rpntlvwZ1 t m s
  | .t2rpntlvwZ1T1 t m => Sys2Proof.Machine.execT2rpntlvwZ1T1 t m s
  | .t2rpntlvwZ0RS t m => Sys2Proof.Machine.execT2rpntlvwZ0RS t m s
  | .t2rpntlvwZ0RST1 t m => Sys2Proof.Machine.execT2rpntlvwZ0RST1 t m s
  | .t2rpntlvwZ1RS t m => Sys2Proof.Machine.execT2rpntlvwZ1RS t m s
  | .t2rpntlvwZ1RST1 t m => Sys2Proof.Machine.execT2rpntlvwZ1RST1 t m s
  | .tileloaddrs t m => Sys2Proof.Machine.execTileloaddrs t m s
  | .tileloaddrsT1 t m => Sys2Proof.Machine.execTileloaddrsT1 t m s
  | .tcmmimfp16ps d s1 s2 => Sys2Proof.Machine.execTcmmimfp16ps d s1 s2 s
  | .tcmmrlfp16ps d s1 s2 => Sys2Proof.Machine.execTcmmrlfp16ps d s1 s2 s
  | .tconjtcmmimfp16ps d s1 s2 => Sys2Proof.Machine.execTconjtcmmimfp16ps d s1 s2 s
  | .tconjtfp16 d a => Sys2Proof.Machine.execTconjtfp16 d a s
  | .tcvtrowd2psR d t r => Sys2Proof.Machine.execTcvtrowd2psR d t r s
  | .tcvtrowd2psI d t imm => Sys2Proof.Machine.execTcvtrowd2psI d t imm s
  | .tcvtrowps2pbf16hR d t r => Sys2Proof.Machine.execTcvtrowps2pbf16hR d t r s
  | .tcvtrowps2pbf16hI d t imm => Sys2Proof.Machine.execTcvtrowps2pbf16hI d t imm s
  | .tcvtrowps2pbf16lR d t r => Sys2Proof.Machine.execTcvtrowps2pbf16lR d t r s
  | .tcvtrowps2pbf16lI d t imm => Sys2Proof.Machine.execTcvtrowps2pbf16lI d t imm s
  | .tcvtrowps2phhR d t r => Sys2Proof.Machine.execTcvtrowps2phhR d t r s
  | .tcvtrowps2phhI d t imm => Sys2Proof.Machine.execTcvtrowps2phhI d t imm s
  | .tcvtrowps2phlR d t r => Sys2Proof.Machine.execTcvtrowps2phlR d t r s
  | .tcvtrowps2phlI d t imm => Sys2Proof.Machine.execTcvtrowps2phlI d t imm s
  | .tdpbf8ps d s1 s2 => Sys2Proof.Machine.execTdpbf8ps d s1 s2 s
  | .tdpbhf8ps d s1 s2 => Sys2Proof.Machine.execTdpbhf8ps d s1 s2 s
  | .tdphbf8ps d s1 s2 => Sys2Proof.Machine.execTdphbf8ps d s1 s2 s
  | .tdphf8ps d s1 s2 => Sys2Proof.Machine.execTdphf8ps d s1 s2 s
  | .tilemovrowI d t imm => Sys2Proof.Machine.execTilemovrowI d t imm s
  | .tilemovrowR d t r => Sys2Proof.Machine.execTilemovrowR d t r s
  | .tmmultf32ps d s1 s2 => Sys2Proof.Machine.execTmmultf32ps d s1 s2 s
  | .ttcmmimfp16ps d s1 s2 => Sys2Proof.Machine.execTtcmmimfp16ps d s1 s2 s
  | .ttcmmrlfp16ps d s1 s2 => Sys2Proof.Machine.execTtcmmrlfp16ps d s1 s2 s
  | .ttdpbf16ps d s1 s2 => Sys2Proof.Machine.execTtdpbf16ps d s1 s2 s
  | .ttdpfp16ps d s1 s2 => Sys2Proof.Machine.execTtdpfp16ps d s1 s2 s
  | .ttmmultf32ps d s1 s2 => Sys2Proof.Machine.execTtmmultf32ps d s1 s2 s
  | .ttransposed d a => Sys2Proof.Machine.execTtransposed d a s

end Sys2Proof.Machine
end

