-- ==== Sys2Proof/Machine/Accessed.lean ====
section
/-! DEFINITION. Which linear addresses an instruction accesses with loads or stores: the candidates for the Memory Access
Address of a PEBS record (61_platform_features.md R786). -/

namespace Sys2Proof.Machine

/-- The linear address of a memory operand (R122). -/
def State.opLinear (s : State) (m : MemOp) : W64 := s.linear (segOf m) (s.ea m)

/-- The linear addresses of the elements of a masked vector load that take part (R424). -/
def elemsLinear (s : State) (m : MemOp) (e vl : Nat) (k : KReg) : List W64 :=
  (activeElems s k (vl / e)).map (fun j => s.opLinear m + BitVec.ofNat 64 (j * (e / 8)))

/-- The linear addresses of the memory rows from `start_row` on, below row `n` (R580, R613). -/
def rowsLinear (s : State) (m : MemOp) (n : Nat) : List W64 :=
  ((List.range n).drop s.amx.startRow.toNat).map (fun i => s.linear (segOf m) (s.rowAddr m i))

/-- The rows of a pair load: `pad` is 1 for the Z1 forms, whose last row is not read (R604). -/
def pairLinear (s : State) (t : Tmm) (m : MemOp) (pad : Nat) : List W64 :=
  rowsLinear s m (2 * s.tileRows (pairBase t) - pad)

/-- The memory operand of an SM4 instruction, if it has one (R543). -/
def srcLinear (s : State) : VecSrc → List W64
  | .reg _ => []
  | .mem m => [s.opLinear m]

/-- The structures that PCONFIG reads: at RCX for leaf 2, at DS:RBX for leaves 0 and 1 (R473, R475, R477). -/
def pconfigLinear (s : State) : W64 :=
  if s.reg32 .rax = 2 then s.reg .rcx
  else s.linear .ds (if s.is64 then s.reg .rbx else (s.reg32 .rbx).setWidth 64)

/-- The structures that PBNDKB accessed: the output only where it succeeded, ZF = 0 after it (R452, R786). -/
def pbndkbLinear (s post : State) : List W64 := if bitAt post.rflags 6 then [s.reg .rbx] else [s.reg .rbx, s.reg .rcx]

/-- The linear addresses that the loads and stores of an instruction access: it began in `s` and left `post` (R786). The reads
of the user-MSR bitmap are supervisor-mode accesses of the processor (R139), not loads of the instruction. -/
def accessed (i : Instr) (s post : State) : List W64 :=
  match i with
  | .aadd _ m _ | .aand _ m _ | .aor _ m _ | .axor _ m _ | .movrsB _ m | .movrsV _ _ m | .ldtilecfg m | .sttilecfg m =>
    [s.opLinear m]
  | .vmovrsB128 _ k _ m => elemsLinear s m 8 128 k
  | .vmovrsB256 _ k _ m => elemsLinear s m 8 256 k
  | .vmovrsB512 _ k _ m => elemsLinear s m 8 512 k
  | .vmovrsW128 _ k _ m => elemsLinear s m 16 128 k
  | .vmovrsW256 _ k _ m => elemsLinear s m 16 256 k
  | .vmovrsW512 _ k _ m => elemsLinear s m 16 512 k
  | .vmovrsD128 _ k _ m => elemsLinear s m 32 128 k
  | .vmovrsD256 _ k _ m => elemsLinear s m 32 256 k
  | .vmovrsD512 _ k _ m => elemsLinear s m 32 512 k
  | .vmovrsQ128 _ k _ m => elemsLinear s m 64 128 k
  | .vmovrsQ256 _ k _ m => elemsLinear s m 64 256 k
  | .vmovrsQ512 _ k _ m => elemsLinear s m 64 512 k
  | .vsm4Key4Vex128 _ _ v | .vsm4Key4Vex256 _ _ v | .vsm4Key4Evex128 _ _ v | .vsm4Key4Evex256 _ _ v
    | .vsm4Key4Evex512 _ _ v | .vsm4Rnds4Vex128 _ _ v | .vsm4Rnds4Vex256 _ _ v | .vsm4Rnds4Evex128 _ _ v
    | .vsm4Rnds4Evex256 _ _ v | .vsm4Rnds4Evex512 _ _ v => srcLinear s v
  | .tileloadd t m | .tileloaddT1 t m | .tileloaddrs t m | .tileloaddrsT1 t m | .tilestored m t =>
    rowsLinear s m (s.tileRows t)
  | .t2rpntlvwZ0 t m | .t2rpntlvwZ0T1 t m | .t2rpntlvwZ0RS t m | .t2rpntlvwZ0RST1 t m => pairLinear s t m 0
  | .t2rpntlvwZ1 t m | .t2rpntlvwZ1T1 t m | .t2rpntlvwZ1RS t m | .t2rpntlvwZ1RST1 t m => pairLinear s t m 1
  | .pbndkb => pbndkbLinear s post
  | .pconfig => [pconfigLinear s]
  | .monitor seg asz => [s.linear (seg.getD .ds) (truncAddr asz (s.reg .rax))]
  | .cpuid | .prefetchrst2 _ | .rdmsr | .rdmsrImm _ _ | .rdmsrImmApx _ _ | .urdmsr _ _ | .urdmsrImm _ _ | .uwrmsr _ _
    | .uwrmsrImm _ _ | .wrmsrns | .wrmsrnsImm _ _ | .wrmsrnsImmApx _ _ | .mwait | .tilerelease | .tilezero _
    | .tcmmimfp16ps _ _ _ | .tcmmrlfp16ps _ _ _ | .tconjtcmmimfp16ps _ _ _ | .tconjtfp16 _ _ | .tcvtrowd2psR _ _ _
    | .tcvtrowd2psI _ _ _ | .tcvtrowps2pbf16hR _ _ _ | .tcvtrowps2pbf16hI _ _ _ | .tcvtrowps2pbf16lR _ _ _
    | .tcvtrowps2pbf16lI _ _ _ | .tcvtrowps2phhR _ _ _ | .tcvtrowps2phhI _ _ _ | .tcvtrowps2phlR _ _ _
    | .tcvtrowps2phlI _ _ _ | .tdpbf8ps _ _ _ | .tdpbhf8ps _ _ _ | .tdphbf8ps _ _ _ | .tdphf8ps _ _ _
    | .tilemovrowI _ _ _ | .tilemovrowR _ _ _ | .tmmultf32ps _ _ _ | .ttcmmimfp16ps _ _ _ | .ttcmmrlfp16ps _ _ _
    | .ttdpbf16ps _ _ _ | .ttdpfp16ps _ _ _ | .ttmmultf32ps _ _ _ | .ttransposed _ _ => []

end Sys2Proof.Machine
end

