-- ==== Sys2Proof/Machine/Base.lean ====
section
/-! DEFINITION. The base instructions whose encoding and meaning the spec states (95_test_vectors.md Part C, 92_eei_decisions.md
D12, 93_implementation_defined.md G24), and the reserved NOP of 0F 18 /4 (30_encoding.md R167). They are no rows of the opcode
table: an inductive, a decoder and a meaning of their own, which a step uses where the table's decoder finds no row. -/

namespace Sys2Proof.Machine

/-- A base instruction that the spec states. -/
inductive BaseInstr where
  /-- MOV r32, imm32. -/
  | movImm (d : Gpr) (imm : W32)
  /-- XOR r32, r32: destination and source. -/
  | xorReg (d s : Gpr)
  /-- MOVZX r32, m8. -/
  | movzx (d : Gpr) (m : MemOp)
  /-- INC r64. -/
  | inc (d : Gpr)
  /-- DEC r32. -/
  | dec (d : Gpr)
  /-- JNZ rel8. -/
  | jnz (rel : Byte)
  | sfence
  /-- 0F 18 /4 with a register operand. -/
  | reservedNop
  deriving DecidableEq, Repr

/-! ### Decoding -/

/-- `REX.W FF /0` and `FF /1`, of a register. -/
def decodeBaseFF (p : Pfx) (b : Byte) (r : List Byte) : Dec (BaseInstr × List Byte) :=
  let g := Gpr.ofCode ((modRm b).rm + ext (p.rexBit 0) 8)
  if (modRm b).md ≠ 3 then .error .outside
  else if (modRm b).reg = 0 ∧ p.rexBit 3 then .ok (.inc g, r)
  else if (modRm b).reg = 1 ∧ !p.rexBit 3 then .ok (.dec g, r)
  else .error .outside

/-- `0F 18 /4` of a register: the hint space takes any prefix but LOCK (R432). -/
def decodeBase18 (p : Pfx) (b : Byte) (r : List Byte) : Dec (BaseInstr × List Byte) :=
  if (modRm b).reg ≠ 4 ∨ (modRm b).md ≠ 3 then .error .outside
  else if p.lock then .error .ud
  else .ok (.reservedNop, r)

/-- `0F B6 /r` of memory. -/
def decodeBaseB6 (m : DecMode) (p : Pfx) (b : Byte) (r0 : List Byte) : Dec (BaseInstr × List Byte) :=
  if (modRm b).md = 3 then .error .outside
  else do
    let (mo, _, r) ← readMem m p ⟨p.rexBit 1, p.rexBit 0, 1⟩ (modRm b) r0
    .ok (.movzx (Gpr.ofCode ((modRm b).reg + ext (p.rexBit 2) 8)) mo, r)

/-- `0F AE F8`, which has no operand size and so decodes in every mode, as RAO does (R401, R415). -/
def decodeBaseAE (b : Byte) (r : List Byte) : Dec (BaseInstr × List Byte) :=
  if b.toNat = 0xF8 then .ok (.sfence, r) else .error .outside

/-- The forms of Part C have no prefix but REX, a segment override and 67H. -/
def Pfx.bare (p : Pfx) : Bool := !p.lock && !p.opsz && p.rep.isNone

/-- Those with an operand size have it by the 32-bit default of the code segment. -/
def Pfx.plain (m : DecMode) (p : Pfx) : Bool := Pfx.bare p && (m.is64 || m.big)

/-- The two-byte opcodes. -/
def decodeBase0F (m : DecMode) (p : Pfx) (bs : List Byte) : Dec (BaseInstr × List Byte) := do
  let (o, r) ← take8 bs
  if o.toNat = 0x18 then do
    let (b, r1) ← take8 r
    decodeBase18 p b r1
  else if !Pfx.bare p then .error .outside
  else if o.toNat = 0xAE then do
    let (b, r1) ← take8 r
    decodeBaseAE b r1
  else if !Pfx.plain m p then .error .outside
  else if o.toNat = 0xB6 ∧ !p.rexBit 3 then do
    let (b, r1) ← take8 r
    decodeBaseB6 m p b r1
  else .error .outside

/-- A base instruction after its prefixes. -/
def decodeBaseOpcode (m : DecMode) (p : Pfx) (bs : List Byte) : Dec (BaseInstr × List Byte) :=
  match bs with
  | [] => .error .more
  | o :: r =>
    let n := o.toNat
    if n = 0x0F then decodeBase0F m p r
    else if !Pfx.plain m p then .error .outside
    else if n / 8 = 0x17 ∧ !p.rexBit 3 then do
      let (i, r1) ← take32 r
      .ok (.movImm (Gpr.ofCode (n % 8 + ext (p.rexBit 0) 8)) i, r1)
    else if n = 0x75 then do
      let (b, r1) ← take8 r
      .ok (.jnz b, r1)
    else if n = 0x31 ∧ !p.rexBit 3 then do
      let (b, r1) ← take8 r
      if (modRm b).md = 3 then
        .ok (.xorReg (Gpr.ofCode ((modRm b).rm + ext (p.rexBit 0) 8)) (Gpr.ofCode ((modRm b).reg + ext (p.rexBit 2) 8)), r1)
      else .error .outside
    else if n = 0xFF then do
      let (b, r1) ← take8 r
      decodeBaseFF p b r1
    else .error .outside

/-- Decode the base instruction at the head of a byte list: the instruction and its length. -/
def decodeBase (m : DecMode) (bs : List Byte) : Dec (BaseInstr × Nat) :=
  match decodeBaseOpcode m (readPfx m {} bs).1 (readPfx m {} bs).2 with
  | .ok (i, r) => .ok (i, bs.length - r.length)
  | .error e => .error e

/-! ### Flags -/

/-- PF: an even number of ones in the low byte of a result. -/
def parityEven {w : Nat} (v : BitVec w) : Bool := ((List.range 8).filter (fun i => v.getLsbD i)).length % 2 == 0

/-- SF, ZF and PF from a result. -/
def resultFlags {w : Nat} (f : W64) (v : BitVec w) : W64 :=
  setBitTo (setBitTo (setBitTo f 7 v.msb) 6 (v == 0)) 2 (parityEven v)

/-- INC and DEC: SF, ZF and PF from the result, AF and OF as given, CF as before. -/
def stepFlags {w : Nat} (f : W64) (v : BitVec w) (af overflow : Bool) : W64 :=
  setBitTo (setBitTo (resultFlags f v) 4 af) 11 overflow

/-! ### Meanings -/

/-- MOV r32, imm32: the zero-extended immediate. -/
def baseMovImm (d : Gpr) (imm : W32) : Act Unit := modify (·.setReg32 d imm)

/-- XOR r32, r32: CF and OF become 0; AF is free, since the spec does not state it (notes/assumptions/44.md). -/
def State.xorReg (s : State) (d r : Gpr) : State :=
  let v := s.reg32 d ^^^ s.reg32 r
  let f := setBitTo (setBitTo (resultFlags s.rflags v) 0 false) 11 false
  { (s.setReg32 d v).drawn 1 with rflags := setBitTo f 4 (Config.xorAuxiliary s.draws) }

/-- MOVZX r32, m8: the byte, zero-extended. -/
def baseMovzx (d : Gpr) (m : MemOp) : Act Unit := do
  let b ← loadOp m 1 false
  modify (·.setReg d (leVal 64 b))

/-- INC r64. -/
def State.incReg (s : State) (d : Gpr) : State :=
  let v := s.reg d + 1
  { s.setReg d v with rflags := stepFlags s.rflags v (v.setWidth 4 == 0) (v == 0x8000000000000000) }

/-- DEC r32. -/
def State.decReg (s : State) (d : Gpr) : State :=
  let v := s.reg32 d - 1
  { s.setReg32 d v with rflags := stepFlags s.rflags v (v.setWidth 4 == 15) (v == 0x7FFFFFFF) }

/-- The target of a taken jump: the next RIP plus the sign-extended byte, 32 bits outside 64-bit mode. -/
def State.jumpTarget (s : State) (rel : Byte) : W64 :=
  let t := s.nextRip + rel.signExtend 64
  if s.is64 then t else (t.setWidth 32).setWidth 64

/-- A conditional branch, taken or not, sends a TNT bit, which is an IP indication, while packets are generated and
IA32_RTIT_CTL[55], DisTNT, is 0 (R284, R749). -/
def State.sendTnt (s : State) : State := if s.packetEn && !bitAt (s.msrVal 0x570) 55 then s.anchor else s

/-- JNZ rel8: taken where ZF = 0. A target outside the address space is #GP(0) (R123); `advance` adds the length, so it is taken off
first. -/
def baseJnz (rel : Byte) : Act Unit := do
  let s ← get
  if bitAt s.rflags 6 then set s.sendTnt
  else do
    let t := s.jumpTarget rel
    need (if s.is64 then canonical s.cfg t else decide (t.toNat ≤ (s.segReg .cs).limit.toNat)) (gpTrap s)
    set { s.sendTnt with rip := t - BitVec.ofNat 64 s.ilen }

/-- The meaning of a base instruction. SFENCE completes when every older update is performed (R131(c)). -/
def baseAct : BaseInstr → Act Unit
  | .movImm d imm => baseMovImm d imm
  | .xorReg d r => modify (·.xorReg d r)
  | .movzx d m => baseMovzx d m
  | .inc d => modify (·.incReg d)
  | .dec d => modify (·.decReg d)
  | .jnz rel => baseJnz rel
  | .sfence => modify State.raoDrain
  | .reservedNop => pure ()

/-- A base instruction on the machine. -/
def execBase (i : BaseInstr) (s : State) : Host.Outcome State Fault Refusal := settle (baseAct i) s

/-- The linear addresses that a base instruction accesses (R786). -/
def BaseInstr.accessed (i : BaseInstr) (s : State) : List W64 :=
  match i with
  | .movzx _ m => [s.linear (segOf m) (s.ea m)]
  | _ => []

end Sys2Proof.Machine
end

