-- ==== Sys2Proof/Machine/Counters.lean ====
section
/-! DEFINITION. Performance counters over one instruction (R60, R767, R796, R798, R800) and trace triggers
(61_platform_features.md R740 to R755). Increments and breakpoint matches are free values. -/

namespace Sys2Proof.Machine

/-! ### Counters -/

/-- A CPL filter (R767): OS for CPL 0, USR for the others (PRESUMED, notes/assumptions/37.md). -/
def cplFilter (s : State) (os usr : Bool) : Bool := if s.cpl = 0 then os else usr

/-- Counters stand still (R796, R798): a production enclave but for fixed counters 1 and 2; SMM with
IA32_DEBUGCTL.FREEZE_WHILE_SMM_EN, which is taken as bit 14 of 1D9H (PRESUMED, notes/assumptions/15.md). -/
def countersFrozen (s : State) (c : Nat) : Bool :=
  (s.ctx.enclave == .production && c != 33 && c != 34) || (s.ctx.smm && bitAt (s.msrVal 0x1D9) 14)

/-- Counter `c` counts: general-purpose counter `c` below 32, fixed-function counter `c - 32` from there (R745, R767). The OS and
USR bits of fixed counter m are taken as bits 4m and 4m + 1 of IA32_FIXED_CTR_CTRL (PRESUMED, N7, notes/assumptions/37.md). -/
def counting (s : State) (c : Nat) : Bool :=
  bitAt (s.msrVal 0x38F) c && !countersFrozen s c &&
    (if c < 32 then
      let e := s.msrVal (evtSelAddr c)
      gpExists s.cfg c && bitAt e 22 && cplFilter s (bitAt e 17) (bitAt e 16)
     else
      let f := s.msrVal 0x38D
      fxExists s.cfg (c - 32) && cplFilter s (bitAt f (4 * (c - 32))) (bitAt f (4 * (c - 32) + 1)))

/-- The MSR that holds counter `c`. -/
def counterAddr (c : Nat) : Nat := if c < 32 then pmcAddr c else fixedAddr (c - 32)

/-- The CFG_C register of counter `c`. -/
def counterCfgC (c : Nat) : Nat := if c < 32 then gpCfgC c else fxCfgC (c - 32)

/-- The width of counter `c`. -/
def counterWidth (cfg : Cfg) (c : Nat) : Nat := if c < 32 then gpWidth cfg else fxWidth cfg

/-- All counters, general-purpose ascending, then fixed ascending (D34). -/
def allCounters : List Nat := List.range 64

/-- What the counters did over one instruction. -/
structure CountReport where
  incremented : List Nat
  overflowed : List Nat
  deriving DecidableEq, Repr

/-- One counter over one instruction: it advances by a free amount, wrapping at its width (R60, R800). -/
def countOne (s : State) (r : CountReport) (c : Nat) : State × CountReport :=
  let inc := Config.pmcIncrement c s.draws
  let v := (s.msrVal (counterAddr c)).toNat + inc
  let w := counterWidth s.cfg c
  let t := (s.setMsr (counterAddr c) (BitVec.ofNat 64 (v % 2 ^ w))).drawn 1
  let wrapped := decide (2 ^ w ≤ v)
  let t := if wrapped then t.setMsr 0x38E (setBitTo (t.msrVal 0x38E) c true) else t
  let t := if wrapped && bitAt (t.msrVal (counterCfgC c)) 63 then
      { t with pebs := { t.pebs with pending := setBitTo t.pebs.pending c true } } else t
  (t, ⟨if inc = 0 then r.incremented else c :: r.incremented, if wrapped then c :: r.overflowed else r.overflowed⟩)

/-- The counters over one instruction that began in state `pre`. -/
def countAll (pre s : State) : State × CountReport :=
  if pre.msrVal 0x38F = 0 then (s, ⟨[], []⟩)
  else (allCounters.filter (counting pre)).foldl (fun p c => countOne p.1 p.2 c) (s, ⟨[], []⟩)

/-! ### Trace triggers -/

/-- The 16 bits of trigger unit `u` (R742, R751). -/
def triggerUnit (s : State) (u : Nat) : BitVec 16 := (s.msrVal (0x568 + u / 4)).extractLsb' (16 * (u % 4)) 16

/-- Breakpoint register `x` is set for I/O: its R/W field in DR7 is 10b (R743: such a match is no trigger input; the place of
the field is PRESUMED, notes/assumptions/37.md). -/
def ioBreakpoint (pre : State) (x : Nat) : Bool := bitAt pre.sys.dr7 (17 + 4 * x) && !bitAt pre.sys.dr7 (16 + 4 * x)

/-- A breakpoint register is enabled as a trigger and matches (R743, R745). It is enabled by bit 2x or 2x + 1 of DR7, its local and
global enable (PRESUMED, N4, notes/assumptions/37.md). -/
def breakpointFires (pre : State) (x draw : Nat) : Bool :=
  featC pre.cfg 0x14 1 15 && !ioBreakpoint pre x && (bitAt pre.sys.dr7 (2 * x) || bitAt pre.sys.dr7 (2 * x + 1))
    && bitAt pre.sys.dr7 (32 + x) && Config.breakpointMatches x draw

/-- The counter may be used as a trigger input (R745, R752). -/
def ptLog (pre : State) (n : Nat) : Bool := counting pre n && bitAt (pre.msrVal (evtSelAddr n)) 38

/-- Trigger unit `u` fires over one instruction (R743, R745). -/
def unitFires (pre : State) (r : CountReport) (draw u : Nat) : Bool :=
  let f := triggerUnit pre u
  let i := f.toNat % 128
  bitAt f 15 &&
    (if i < 8 then ptLog pre i && r.incremented.contains i
     else if 0x20 ≤ i ∧ i < 0x28 then ptLog pre (i - 0x20) && r.overflowed.contains (i - 0x20)
     else if 0x40 ≤ i ∧ i < 0x44 then breakpointFires pre (i - 0x40) draw
     else Config.reservedTriggerFires u draw)

/-- The units that fire, in ascending order (D33). -/
def firedUnits (pre : State) (r : CountReport) (draw : Nat) : List Nat :=
  (List.range (4 * nTriggerCfg pre.cfg)).filter (unitFires pre r draw)

/-- One unit's pause or resume action (R744, R745). -/
def triggerAction (s : State) (f : BitVec 16) : State :=
  let pause := bitAt f 13 && featC s.cfg 0x14 1 1
  let resume := bitAt f 12 && featC s.cfg 0x14 1 1
  if pause == resume then s else s.setMsr 0x571 (setBitTo (s.msrVal 0x571) 8 pause)

/-- The TRIG packet (R748 to R750): three bytes, or five with a valid ICNT. -/
def trigPacket (ip icntv : Bool) (trbv : Byte) (icnt : BitVec 16) : List Byte :=
  [0xD9, BitVec.ofNat 8 (ext ip 128 + ext icntv 64), trbv] ++ (if icntv then toBytes 2 icnt else [])

/-- The bit vector of the units that fired (R748): the bit of each of units 0 to 7. How units above 7 appear is not in the spec:
where one of them fired, further bits are free (notes/assumptions/38.md). -/
def trbv (fired : List Nat) (draw : Nat) : Byte :=
  (fired.foldl (fun b u => b ||| BitVec.ofNat 8 (2 ^ u)) 0)
    ||| (if fired.any (fun u => decide (8 ≤ u)) then Config.triggerVector draw else 0)

/-- The counter of trigger unit `u` (R69). -/
def Pt.counter (p : Pt) (u : Nat) : Icnt := p.icnt.toList.getD u ⟨0, false⟩

/-- An IP indication: every unit counts from it (R749). -/
def Pt.indicated (p : Pt) : Pt := { p with icnt := Vector.replicate 28 ⟨0, false⟩ }

/-- IP indications of packets other than TNT and TRIG over the instruction that began in `pre` (R749, R754): a change of PacketEn sends
TIP.PGE or TIP.PGD, at once, as R754 allows; what other packets of base Intel PT tell is a free value
(notes/assumptions/38.md). -/
def State.baseIndication (s pre : State) : State :=
  if s.packetEn != pre.packetEn || (s.packetEn && Config.ptIndication s.draws) then s.anchor else s

/-- The TIP.PGE or TIP.PGD of a pause or resume action that changed PacketEn (R754). -/
def State.pauseIndication (s before : State) : State :=
  if s.packetEn == before.packetEn then s else { s with pt := s.pt.indicated }

/-- Emit the packet of the units that fired (R747, R749). The count is that of the lowest unit that asks for it (R750).
For a trigger of a non-precise event, or of an overflow of a counter that is not PDIR, R749 lets the count indicate an instruction that
retires soon after: the model always takes the instruction over which the counter counted or overflowed, without skid (DESIGN CHOICE,
notes/assumptions/38.md). -/
def emitTrig (pre s : State) (fired : List Nat) : State :=
  if s.pt.triggerEn && s.pt.filterEn && !s.ptPaused then
    match fired.filter (fun u => s.pt.contextEn && featC s.cfg 0x14 1 0 && bitAt (triggerUnit pre u) 14) with
    | [] => { s with pt := { s.pt with packets := s.pt.packets ++ trigPacket false false (trbv fired s.draws) 0 } }
    | u :: _ =>
      let n := s.pt.counter u
      let ip := n.overflow || !s.pt.branchEn
      let p := trigPacket ip true (trbv fired s.draws) (if ip then 0 else n.count)
      { s with pt := { s.pt with packets := s.pt.packets ++ p }.indicated }
  else s

/-- One more retired instruction for a counter (R749). -/
def Icnt.next (n : Icnt) : Icnt := ⟨n.count + 1, n.overflow || n.count == 0xFFFF⟩

/-- One more retired instruction for every unit's counter (R749). -/
def Pt.count (p : Pt) : Pt := { p with icnt := p.icnt.map Icnt.next }

/-- The counters after an instruction retired (R749): it is counted, but for one that sent an IP indication itself, from which they
start. -/
def Pt.retired (p : Pt) : Pt := if p.anchored then { p.indicated with anchored := false } else p.count

/-- The trigger units over one instruction (R745, R747): the packet first, then the actions in ascending order. -/
def runTriggers (pre s : State) (r : CountReport) : State :=
  let t := { s with pt := s.pt.retired }
  if hasPttt s.cfg then
    match firedUnits pre r s.draws with
    | [] => t
    | l => ((l.map (triggerUnit pre)).foldl triggerAction (emitTrig pre t l)).drawn 1
  else t

end Sys2Proof.Machine
end

