-- ==== Sys2Proof/Machine/Sampling.lean ====
section
/-! DEFINITION. Architectural PEBS (61_platform_features.md R760 to R800): what a record holds and how it is written. A record
is a list of bytes, `none` where the processor allocates space and writes nothing. -/

namespace Sys2Proof.Machine

/-- The bytes of a record: `none` is allocated and not written. -/
abbrev Rec := List (Option Byte)

/-- A 64-bit field. -/
def field64 (v : W64) : Rec := (toBytes 8 v).map some

/-- Allocated and unwritten bytes. -/
def gap (n : Nat) : Rec := List.replicate n none

/-- Reserved field `i` of a record, of `n` bytes: V7 has it "written as 0 or left unwritten per rule", and no rule says which, so a
free value decides for each field (DESIGN CHOICE, R777, notes/assumptions/39.md). -/
def reservedField (s : State) (i n : Nat) : Rec :=
  List.replicate n (if Config.pebsReservedWritten i s.draws then some 0 else none)

/-- The CFG_C register of a counter as stored. -/
def cfgC (s : State) (c : Nat) : W64 := s.msrVal (counterCfgC c)

/-- PEBS is enabled for a counter (R767): PEBS_EN, the global and local enables, and the CPL filter. -/
def pebsEnabled (s : State) (c : Nat) : Bool := hasArchPebs s.cfg && bitAt (cfgC s c) 63 && counting s c

/-- Basic group (R779 to R784). `ip` is the EventingIP. -/
def basicGroup (s : State) (c : Nat) (ip : W64) : Rec :=
  field64 ip ++ field64 (BitVec.ofNat 64 (2 ^ c)) ++ field64 s.tscView
    ++ field64 (Config.pebsRetireLatency s.draws &&& 0x1FFFF)
    ++ reservedField s 1 8 ++ reservedField s 2 8

/-- The Memory Access Address of a record of counter `c` (R786): zero or one of the linear addresses that the eventing
instruction accessed; zero outside the counter's context and after a production enclave (R796). -/
def memoryAccessAddress (pre s : State) (c : Nat) (touched : List W64) : W64 :=
  if bitAt s.pebs.skidded c || !pebsEnabled pre c then 0 else (0 :: touched).getD (Config.pebsMemoryChoice s.draws) 0

/-- Memory Auxiliary group (R785): the Memory Access Address, and named reserved fields that are model-specific, so free. -/
def auxGroup (s : State) (maa : W64) : Rec :=
  field64 maa
    ++ reservedField s 3 8 ++ reservedField s 4 8 ++ reservedField s 5 8 ++ reservedField s 6 8
    ++ field64 (Config.pebsAuxField 0 s.draws) ++ field64 (Config.pebsAuxField 1 s.draws)
    ++ field64 (Config.pebsAuxField 2 s.draws)

/-- RAX to RDI in record order (R787). -/
def lowGprs : List Gpr := [.rax, .rcx, .rdx, .rbx, .rsp, .rbp, .rsi, .rdi]
/-- R8 to R15 (R787). -/
def highGprs : List Gpr := [.r8, .r9, .r10, .r11, .r12, .r13, .r14, .r15]

/-- SSP, zero without CET (R787). When CET is "not in use" the spec does not define: the model takes CR4 bit 23 as the only sign of
use and looks at no CET MSR (DESIGN CHOICE, notes/assumptions/39.md). -/
def sspField (s : State) : W64 :=
  if featC s.cfg 7 0 7 && bitAt s.sys.cr4 23 then s.sys.ssp else 0

/-- General-Purpose Register group (R787): outside 64-bit mode the upper halves and R8 to R15 are not written. -/
def gprGroup (s : State) : Rec :=
  field64 s.rflags ++ field64 s.rip
    ++ lowGprs.flatMap (fun g => if s.is64 then field64 (s.reg g) else (toBytes 4 (s.reg32 g)).map some ++ gap 4)
    ++ highGprs.flatMap (fun g => if s.is64 then field64 (s.reg g) else gap 8)
    ++ field64 (sspField s) ++ reservedField s 7 8

/-- An XER sub-group is allocated (R789): selected, enabled by CR4.OSXSAVE, CR0.TS and XCR0. -/
def xerAllocated (s : State) (c bit comp : Nat) : Bool :=
  bitAt (cfgC s c) bit && bitAt s.sys.cr4 18 && !bitAt s.sys.cr0 3 && bitAt s.sys.xcr0 comp

/-- An XER component's registers do not all hold their INIT value, which is zero (R788, R789). -/
def componentSet (s : State) (comp : Nat) : Bool :=
  let low := s.vec.zmm.toList.take 16
  if comp = 1 then low.any (fun v => v.extractLsb' 0 128 != 0)
  else if comp = 2 then low.any (fun v => v.extractLsb' 128 128 != 0)
  else if comp = 5 then s.vec.k.toList.any (· != 0)
  else if comp = 6 then low.any (fun v => v.extractLsb' 256 256 != 0)
  else (s.vec.zmm.toList.drop 16).any (· != 0)

/-- An XSAVE component is in use (R789, I12): with registers off their INIT values certainly, else as a free value decides. -/
def inUse (s : State) (comp : Nat) : Bool := componentSet s comp || Config.xinuse comp s.draws

/-- An XER sub-group is written (R789): in use and not disabled by XFD. -/
def xerWritten (s : State) (comp : Nat) : Bool := inUse s comp && !bitAt (s.msrVal 0x1C4) comp

/-- The mask of XSTATE_BV/TS (R788): 06H on an E-core and E6H on a P-core, by the core type 20H of leaf 1AH (PRESUMED,
notes/assumptions/39.md). -/
def xstateMask (c : Cfg) : W64 := if fieldOf (cpuidCfg c 0x1A 0).eax 31 24 = 0x20 then 0x06 else 0xE6

/-- XSTATE_BV/TS (R788): XINUSE within the mask. How IA32_XFD and CR0.TS are folded in is not defined, so with one of them
set the value is free within the mask. -/
def xstateBv (s : State) : W64 :=
  xstateMask s.cfg &&&
    (if bitAt s.sys.cr0 3 || s.msrVal 0x1C4 &&& 0xE6 != 0 then
      Config.pebsXstateBv s.sys.xcr0 (s.msrVal 0x1C4) (bitAt s.sys.cr0 3) s.draws
    else BitVec.ofNat 64 ((([1, 2, 5, 6, 7].filter (inUse s)).map (2 ^ ·)).sum))

/-- Bytes `lo` to `lo + n - 1` of the vector registers `r0` to `r1 - 1`; beyond register 7 only in 64-bit mode. -/
def vectorBytes (s : State) (written : Bool) (r0 r1 lo n : Nat) : Rec :=
  ((List.range r1).drop r0).flatMap (fun r =>
    if written && (s.is64 || decide (r < 8)) then
      (toBytes n ((s.zmm (vregOf r)).extractLsb' (8 * lo) (8 * n))).map some
    else gap n)

/-- One XER sub-group: (selecting bit of CFG_C, XCR0 component, what is recorded). -/
def xerParts (s : State) : List (Nat × Nat × (Bool → Rec)) :=
  [(49, 1, fun w => vectorBytes s w 0 16 0 16), (50, 2, fun w => vectorBytes s w 0 16 16 16),
   (53, 5, fun w => if w then (List.range 8).flatMap (fun k => field64 (s.kreg (kregOf k))) else gap 64),
   (54, 6, fun w => vectorBytes s w 0 16 32 32), (55, 7, fun w => vectorBytes s w 16 32 0 64)]

/-- XSAVE-Enabled Registers group (R788, R789). -/
def xerGroup (s : State) (c : Nat) : Rec :=
  let parts := (xerParts s).filter (fun p => xerAllocated s c p.1 p.2.1)
  if parts.isEmpty then []
  else field64 (xstateBv s) ++ reservedField s 8 8
    ++ parts.flatMap (fun p => p.2.2 (xerWritten s p.2.1))

/-- Number of LBR entries recorded (R774, R790). -/
def lbrCount (s : State) (c : Nat) : Nat :=
  match fieldOf (cfgC s c) 41 40 with
  | 0 => 0
  | 1 => 8
  | 2 => 16
  | _ => (s.msrVal 0x14CF).toNat % 128

/-- Last Branch Record group (R790): entries beyond IA32_LBR_DEPTH are not written. -/
def lbrGroup (s : State) (c : Nat) : Rec :=
  if fieldOf (cfgC s c) 41 40 = 0 then []
  else reservedField s 9 8 ++ field64 (s.msrVal 0x14CE) ++ field64 (s.msrVal 0x14CF)
    ++ field64 (s.msrVal 0x1DD) ++ field64 (s.msrVal 0x1DE) ++ field64 (s.msrVal 0x1E0)
    ++ (List.range (lbrCount s c)).flatMap (fun x =>
      if x < (s.msrVal 0x14CF).toNat % 128 then
        field64 (s.msrVal (0x1500 + x)) ++ field64 (s.msrVal (0x1600 + x)) ++ field64 (s.msrVal (0x1200 + x))
      else gap 24)

/-- The counters that opt into a record (R791, R792). -/
def optedIn (s : State) (l : List Nat) : List Nat := l.filter (fun c => bitAt (cfgC s c) 35)

/-- Performance Counters group (R791, R792, D34). Which bit of the METRICS vector stands for IA32_PERF_METRICS is not in the spec: the
model sets bit 0 (DESIGN CHOICE, notes/assumptions/39.md). -/
def cntrGroup (s : State) (c : Nat) : Rec :=
  let f := cfgC s c
  let gp := if bitAt f 36 then optedIn s ((List.range 32).filter (gpExists s.cfg)) else []
  let fx := if bitAt f 37 then optedIn s (((List.range 32).filter (fxExists s.cfg)).map (· + 32)) else []
  let mt := bitAt f 38
  if fieldOf f 38 36 = 0 then []
  else
    let vals := (gp ++ fx).map (fun n => s.msrVal (counterAddr n)) ++ (if mt then [s.msrVal 0x329] else [])
    (toBytes 4 (BitVec.ofNat 32 ((gp.map (2 ^ ·)).sum))).map some
      ++ (toBytes 4 (BitVec.ofNat 32 ((fx.map (fun n => 2 ^ (n - 32))).sum))).map some
      ++ (toBytes 4 (BitVec.ofNat 32 (ext mt 1))).map some ++ reservedField s 10 4
      ++ vals.flatMap field64 ++ gap (vals.length % 2 * 8)

/-- The group bits of the format word (R765, R777): what is in the record. -/
def recordFormat (s : State) (c : Nat) : W64 :=
  (cfgC s c &&& 0x6000037000000000) ||| 0x8000000000000000
    ||| BitVec.ofNat 64 ((((xerParts s).filter (fun p => xerAllocated s c p.1 p.2.1)).map (fun p => 2 ^ p.1)).sum)

/-- The groups of a record in their order (R778). -/
def recordGroups (s : State) (c : Nat) (ip maa : W64) : Rec :=
  basicGroup s c ip ++ (if bitAt (cfgC s c) 62 then auxGroup s maa else [])
    ++ (if bitAt (cfgC s c) 61 then gprGroup s else []) ++ xerGroup s c ++ lbrGroup s c ++ cntrGroup s c

/-- A whole record (R777): the header's format word carries the size in its bits 15:0, and its other eight bytes are reserved.
Whether reserved fields are written is `reservedField`'s free value. -/
def pebsRecord (s : State) (c : Nat) (ip maa : W64) : Rec :=
  let g := recordGroups s c ip maa
  field64 (recordFormat s c ||| BitVec.ofNat 64 ((16 + g.length) % 65536)) ++ reservedField s 0 8 ++ g

/-- The buffer's addresses are guest-physical: PEBS2GPA in VMX non-root operation (R795), and a trust domain that profiles
itself (R797). -/
def State.pebsGuest (s : State) : Bool := (s.nonRoot && s.tertiary s.cfg.pebs2gpaBit) || s.ctx.td == .perfmon

/-- The physical address of a byte of the buffer, within the address space (R120): guest-physical under PEBS2GPA (R795). What
an EPT violation during a record does is not stated (N50): in the model every guest frame is present and writable, one that
`Cfg.ept` does not list is itself, so that none occurs (DESIGN CHOICE, notes/assumptions/39.md). -/
def pebsPhys (s : State) (a : Nat) : Nat :=
  if s.pebsGuest then
    match s.cfg.ept.find? (fun e => e.1 == a / 4096) with
    | some e => (e.2 * 4096 + a % 4096) % 2 ^ s.physBits
    | none => a % 2 ^ s.physBits
  else a % 2 ^ s.physBits

/-- A physical byte lies in Processor Reserved Memory: nothing is written there (R796). -/
def reservedMemory (c : Cfg) (a : Nat) : Bool := c.prmrr.any (fun r => decide (r.1 ≤ a) && decide (a < r.1 + r.2))

/-- Write one byte of a record (R781, R796). -/
def writeRecordByte (s : State) (a : Nat) (b : Byte) : State :=
  if reservedMemory s.cfg (pebsPhys s a) then s else (s.raoForce [pebsPhys s a]).store [pebsPhys s a] [b]

/-- Write the bytes of a record at a physical address; gaps keep the old bytes. -/
def writeRecord (s : State) (a : Nat) : Rec → State
  | [] => s
  | none :: r => writeRecord s (a + 1) r
  | some b :: r => writeRecord (writeRecordByte s a b) (a + 1) r

/-- The buffer's base (R772). -/
def pebsBase (s : State) : Nat := (s.msrVal 0x3F4).toNat / 4096 * 4096 % 2 ^ s.physBits
/-- The buffer's size (R772). -/
def pebsLimit (s : State) : Nat := 4096 * 2 ^ ((s.msrVal 0x3F4).toNat % 16)
/-- The write offset (R773). -/
def pebsOffset (s : State) : Nat := (s.msrVal 0x3F5 &&& 0x7FFFFF0).toNat
/-- The threshold offset (R773). -/
def pebsThreshold (s : State) : Nat := ((s.msrVal 0x3F5 >>> 32) &&& 0x7FFFFF0).toNat

/-- `ones_ext_W(RELOAD_VALUE)` (R766). -/
def reloadValue (w : Nat) (f : W64) : W64 := BitVec.ofNat 64 ((2 ^ w - 2 ^ 32) + f.toNat % 2 ^ 32)

/-- IA32_PEBS_INDEX with another write offset and FULL bit (R773). -/
def indexWith (i : W64) (off : Nat) (full : Bool) : W64 :=
  setBitTo ((i &&& ~~~(0x7FFFFF0 : W64)) ||| (BitVec.ofNat 64 off &&& 0x7FFFFF0)) 31 full

/-- After a record was written: offset, FULL, threshold and PMI, reload, metrics reset (R781, R774, D34).
The value to which the performance metrics are reset is not in the spec: the model takes 0 (DESIGN CHOICE, R791,
notes/assumptions/39.md). -/
def afterRecord (s : State) (c size : Nat) : State :=
  let off := pebsOffset s + size
  let t := s.setMsr 0x3F5 (indexWith (s.msrVal 0x3F5) off (off == pebsLimit s))
  let t := if bitAt (s.msrVal 0x3F5) 32 && decide (pebsThreshold s ≤ off) then
      { t.setMsr 0x38E (setBitTo (t.msrVal 0x38E) 54 true) with pebs := { t.pebs with pmi := true } } else t
  let t := if bitAt (cfgC s c) 38 then t.setMsr 0x329 0 else t
  t.setMsr (counterAddr c) (reloadValue (counterWidth s.cfg c) (cfgC s c))

/-- EventingIP of a record of counter `c` (R779, R796): the address of the instruction that began in `pre`; the enclave's entry
for a deferred overflow; all ones where the counter was not enabled when the instruction began. Of an overflow that was pended in
SMM it is not stated: the model takes the instruction at whose boundary the record is written, and does not mark it as skidded
(DESIGN CHOICE, R798, notes/assumptions/39.md). -/
def eventingIp (pre s : State) (c : Nat) : W64 :=
  if bitAt s.pebs.skidded c then s.pebs.enclaveEntry
  else if pebsEnabled pre c then pre.rip else 0xFFFFFFFFFFFFFFFF

/-- The transition of R781 for one counter with a pending overflow; `touched` are the linear addresses that the instruction
which began in `pre` accessed. With FULL set no record is generated; whether the overflow then stays pending until software clears
FULL or is discarded the spec does not say, and a free value decides (DESIGN CHOICE, R781, notes/assumptions/39.md). -/
def sampleOne (pre : State) (touched : List W64) (s : State) (c : Nat) : State :=
  let q := { s.pebs with pending := setBitTo s.pebs.pending c false, skidded := setBitTo s.pebs.skidded c false }
  let t := { s with pebs := q }
  if bitAt (s.msrVal 0x3F5) 31 then (if Config.pebsFullKeeps c s.draws then s else t).drawn 1
  else
    let ip := eventingIp pre s c
    let r := pebsRecord s c ip (memoryAccessAddress pre s c touched)
    if pebsLimit s < pebsOffset s + r.length then t.setMsr 0x3F5 (setBitTo (t.msrVal 0x3F5) 31 true)
    else ((afterRecord (writeRecord t (pebsBase s + pebsOffset s) r) c r.length).drawn 1)

/-- The SMM-transfer monitor runs: SMM in VMX root operation (PRESUMED, notes/assumptions/39.md). -/
def State.inStm (s : State) : Bool := s.ctx.smm && s.ctx.vmx == .root

/-- Record generation at the boundary after the instruction that began in `pre` (R764, R781); inhibited in SMM (R798), but for an STM,
which "is free to use PEBS itself" (R799), and deferred in a production enclave (R796). The spec does not define the "opt-out #SMI" of
R798: the model takes it as every entry of SMM but that into an STM (DESIGN CHOICE, notes/assumptions/39.md). R797 names System
Profiling for debuggable trust domains only: the model has no such attribute, and in a trust domain without performance monitoring
the VMM's counters sample too, to platform physical addresses (DESIGN CHOICE, notes/assumptions/39.md). -/
def runPebs (pre : State) (touched : List W64) (s : State) : State :=
  if s.pebs.pending = 0 then s
  else if s.ctx.smm && !s.inStm then s
  else if s.ctx.enclave = .production then { s with pebs := { s.pebs with skidded := s.pebs.skidded ||| s.pebs.pending } }
  else (allCounters.filter (fun c => bitAt s.pebs.pending c && pebsEnabled s c)).foldl (sampleOne pre touched) s

end Sys2Proof.Machine
end

