-- ==== Sys2Proof/Machine/Timers.lean ====
section
/-! DEFINITION. The two timer events (60_exceptions.md R831, R832, R840 to R858): when they are pending, when they are
processed, and what processing does. -/

namespace Sys2Proof.Machine

/-- Out of enclave mode. -/
def State.outside (s : State) : State := { s with ctx := { s.ctx with enclave := .none } }

/-- Leaving an enclave before an event is processed (R843, R857): the exit's own effects are SGX's. At the end of the exit from
a production enclave the deferred records are written (R796). -/
def State.aex (s : State) : State :=
  if s.ctx.enclave = .production then runPebs s.outside [] s.outside else s.outside

/-- Waking from a state entered by MWAIT, TPAUSE or UMWAIT (R843, R857); HLT stays. -/
def State.wake (s : State) : State :=
  { s with ctx := { s.ctx with activity := if s.ctx.activity = .waiting then .active else s.ctx.activity } }

/-! ### User-timer events -/

/-- The user-timer vector V (R47, R841). -/
def State.userVector (s : State) : Nat := (s.msrVal 0x1B00).toNat % 64

/-- The user deadline D (R47, R841). -/
def State.userDeadline (s : State) : W64 := s.msrVal 0x1B00 &&& 0xFFFFFFFFFFFFFFC0

/-- A user-timer event is pending (R842). -/
def State.userTimerPending (s : State) : Bool := s.userDeadline != 0 && decide (s.userDeadline.toNat ≤ s.tsc.toNat)

/-- A pending user-timer event is processed at this boundary (R843), on a processor with UTMR (R353, R840).
Footnote 1 of R843 says that MOV SS, POP SS or STI "may block" it for one instruction: a free value decides (DESIGN CHOICE,
notes/assumptions/40.md). -/
def State.userTimerDue (s : State) : Bool :=
  hasUtmr s.cfg && s.userTimerPending && bitAt s.sys.cr4 25 && s.is64 && s.cpl == 3 && s.uif
    && !(s.ctx.shadow && Config.shadowBlocks s.draws)
    && s.ctx.activity != .shutdown && s.ctx.activity != .waitSipi

/-- The three lines of R844, and in VMX non-root operation R847. The pseudocode of R844 clears the vector with the deadline, where
R47 says "D (not V)" (DEDUCED, notes/assumptions/40.md). -/
def State.userTimerEffect (s : State) : State :=
  let t := { s.setMsr 0x1B00 0 with uirr := s.uirr ||| BitVec.ofNat 64 (2 ^ s.userVector), userInterrupt := true }
  if s.nonRoot then { t with vmcs := { t.vmcs with virtUserTimer := 0 } } else t

/-- Processing of a user-timer event (R843, R844, R847). -/
def State.processUserTimer (s : State) : State :=
  let t := s.wake.aex.userTimerEffect
  if s.ctx.tsx then t.tsxAbort else t

/-! ### Guest-timer events -/

/-- A guest-timer event is pending and not inhibited (R851, R852). -/
def State.guestTimerDue (s : State) : Bool :=
  s.guestDeadline != 0 && decide (s.guestDeadline.toNat ≤ s.tsc.toNat)
    && s.ctx.activity != .shutdown && s.ctx.activity != .waitSipi

/-- The vector of virtual timer interrupts: the low 8 bits of the field (R853, R856). -/
def State.timerVector (s : State) : Nat := s.vmcs.virtTimerVector.toNat % 256

/-- The byte of VIRR that holds a vector's bit: 32 bits in each 16-byte register from offset 200H (R856). -/
def State.virrByte (s : State) (v : Nat) : Nat :=
  (s.vmcs.virtApic.toNat / 4096 * 4096 + 0x200 + v / 32 * 16 + v % 32 / 8) % 2 ^ s.physBits

/-- The steps of R856. -/
def State.guestTimerEffect (s : State) : State :=
  let v := s.timerVector
  let f := s.raoForce [s.virrByte v]
  let t := f.store [s.virrByte v] [setBitTo (readByte f.mem (s.virrByte v)) (v % 8) true]
  { t with
    vmcs := { t.vmcs with
      guestIntStatus := (t.vmcs.guestIntStatus &&& 0xFF00) ||| BitVec.ofNat 16 (max (t.vmcs.guestIntStatus.toNat % 256) v)
      guestDeadlineShadow := 0 }
    virtualInterrupt := true
    guestDeadline := 0 }

/-- Processing of a guest-timer event (R856, R857); whether it aborts a transaction is a free value (I14). -/
def State.processGuestTimer (s : State) : State :=
  let t := s.wake.aex.guestTimerEffect
  if s.ctx.tsx && Config.guestTimerAborts s.draws then (t.drawn 1).tsxAbort
  else if s.ctx.tsx then t.drawn 1
  else t

end Sys2Proof.Machine
end

