-- ==== Sys2Proof/Machine/Fetch.lean ====
section
/-! DEFINITION. Fetching an instruction's bytes (10_state.md R32, 30_encoding.md R160, R170), and what happens after an
instruction retires (60_exceptions.md R831). -/

namespace Sys2Proof.Machine

/-- The physical address of the byte `k` places after CS:RIP (R32, R123, R124). -/
def fetchAddr (s : State) (k : Nat) : Except Trap Nat := do
  translate s (← checkLinear s .cs (s.rip + BitVec.ofNat 64 k) 1 false) .fetch false

/-- Up to `n` bytes from place `k` on, and the trap that ended the bytes. -/
def fetchBytes (s : State) : Nat → Nat → List Byte × Option Trap
  | 0, _ => ([], none)
  | n + 1, k =>
    match fetchAddr s k with
    | .ok a => (readByte s.mem a :: (fetchBytes s n (k + 1)).1, (fetchBytes s n (k + 1)).2)
    | .error t => ([], some t)

/-- What a fetch finds: an instruction of the table or a base instruction that the spec states, with its length; an exception;
or other bytes of the base architecture. -/
inductive Fetched where
  | instr (i : Instr) (n : Nat)
  | base (i : BaseInstr) (n : Nat)
  | trap (t : Trap)
  | outside
  deriving DecidableEq, Repr

/-- What follows from bytes that are no instruction of one decoder: a sequence that is still incomplete after 15 bytes is #GP(0)
(R170), a reserved one #UD (R175). -/
def fetchedErr (s : State) (t : Option Trap) : DecErr → Fetched
  | .ud => .trap udTrap
  | .outside => .outside
  | .more => .trap (t.getD (gpTrap s))

/-- Decode fetched bytes: an instruction of the table, else a base instruction that the spec states (D12). -/
def decodeFetched (s : State) (bs : List Byte) (t : Option Trap) : Fetched :=
  match decode s.decMode bs with
  | .ok (i, n) => .instr i n
  | .error .outside =>
    match decodeBase s.decMode bs with
    | .ok (i, n) => .base i n
    | .error e => fetchedErr s t e
  | .error e => fetchedErr s t e

/-- Fetch and decode the instruction at CS:RIP. -/
def fetch (s : State) : Fetched := decodeFetched s (fetchBytes s 15 0).1 (fetchBytes s 15 0).2

/-- The time-stamp counter advances by a free positive amount (R61, D17); at its largest value it stays, so that it never falls
(DESIGN CHOICE, notes/assumptions/13.md). -/
def State.tick (s : State) : State :=
  { s with tsc := BitVec.ofNat 64 (min (2 ^ 64 - 1) (s.tsc.toNat + 1 + Config.tscStep s.draws)), draws := s.draws + 1 }

/-- The boundary after an instruction that began in `pre` and accessed the addresses `touched`: counters, trace triggers with the IP
indications before and after them, samples (R745, R749, R764, R831). -/
def retire (touched : List W64) (pre s : State) : State :=
  let c := (countAll pre s).1.baseIndication pre
  runPebs pre touched ((runTriggers pre c (countAll pre s).2).pauseIndication c)

/-- What follows an instruction that began in `pre` and accessed the addresses `touched`: a retired one is counted and sampled; an
exception, VM exit or abort is not; the event shadow ends and time passes. So PEBS records are written before any timer event of
the boundary: their place among the events is not in the spec (R832; DESIGN CHOICE, notes/assumptions/39.md). -/
def finish (touched : List W64) (pre s : State) : State :=
  let t := if s.delivered.isNone then retire touched pre s else s
  State.tick { t with ctx := { t.ctx with shadow := false } }

/-- Store bytes where the next instruction is fetched from. -/
def placeCode (s : State) : Nat → List Byte → State
  | _, [] => s
  | k, b :: r =>
    match fetchAddr s k with
    | .ok a => placeCode { s with mem := writeByte s.mem a b } (k + 1) r
    | .error _ => placeCode s (k + 1) r

end Sys2Proof.Machine
end

