-- ==== Sys2Proof/Machine/Step.lean ====
section
/-! DEFINITION. One step: process at most one pending event of highest priority, else execute one instruction
(60_exceptions.md R831, R832, D19). -/

namespace Sys2Proof.Machine

/-- What follows an instruction that began in `s`; `touched` says what it accessed, from the state it left. -/
def stepBoundary (s : State) (touched : State → List W64) :
    Host.Outcome State Fault Refusal → Host.Outcome State Fault Refusal
  | .next t => .next (finish (touched t) s t)
  | .fault f => .fault f
  | .refused r => .refused r

/-- Execute the instruction that was fetched. -/
def stepInstr (s : State) (i : Instr) (n : Nat) : Host.Outcome State Fault Refusal :=
  stepBoundary s (accessed i { s with ilen := n }) (exec i { s with ilen := n })

/-- Execute the base instruction that was fetched (D12). -/
def stepBase (s : State) (i : BaseInstr) (n : Nat) : Host.Outcome State Fault Refusal :=
  stepBoundary s (fun _ => i.accessed { s with ilen := n }) (execBase i { s with ilen := n })

/-- Fetch and execute one instruction. -/
def stepFetch (s : State) : Host.Outcome State Fault Refusal :=
  match fetch s with
  | .instr i n => stepInstr s i n
  | .base i n => stepBase s i n
  | .trap t => .next (s.takeTrap t).tick
  | .outside => .refused .baseArchitecture

/-- One pending event, else one instruction: guest-timer events come before user-timer events (R832). A processor that does not
execute waits, and time passes (R61, R783). -/
def stepActive (s : State) : Host.Outcome State Fault Refusal :=
  if s.guestTimerDue then .next s.processGuestTimer.tick
  else if s.userTimerDue then .next s.processUserTimer.tick
  else if s.ctx.activity = .active then stepFetch s
  else .next s.tick

/-- One step of the machine. -/
def step (s : State) : Host.Outcome State Fault Refusal :=
  match s.delivered with
  | some _ => .fault .delivered
  | none => stepActive s.raoStep

/-- The state with the instruction `w` placed where the next step fetches (notes/assumptions/4.md). -/
def State.withFetchWord (s : State) (nbits w : Nat) : State :=
  placeCode s 0 (leBytes (if nbits / 8 < 15 then 15 else nbits / 8) (w % 2 ^ nbits))

end Sys2Proof.Machine
end

