-- ==== Sys2Proof/Safety.lean ====
section
/-! DEFINITION. The terms that claims are stated in: the invariant that every step keeps, memory as this processor sees it,
and which instructions may change which kind of state. -/

namespace Sys2Proof.Machine

/-- The canonical forms of memory, the MSR space and the key tables hold. -/
def State.storesWf (s : State) : Bool :=
  Memory.wf s.mem && Store.wf 0 s.msr && Store.wf KeySlot.unprogrammed s.tmemk && Store.wf KeySlot.unprogrammed s.tse

/-- Memory as this processor's own loads see it, every posted update performed, is the same byte for byte (R131). -/
def sameMemory (s t : State) : Prop := ∀ a, readByte t.seen a = readByte s.seen a

/-- An instruction that only loads: memory as seen is the same, and with nothing posted nothing of memory changes at all. -/
def loadsOnly (s t : State) : Prop :=
  sameMemory s t ∧ (s.rao = [] → t.mem = s.mem ∧ t.rao = [] ∧ t.monitor = s.monitor)

/-- The instructions of Intel AMX (R560). -/
def isAmx : Instr → Bool
  | .ldtilecfg _ | .sttilecfg _ | .tilerelease | .tilezero _ | .tileloadd _ _ | .tileloaddT1 _ _ | .tilestored _ _
    | .t2rpntlvwZ0 _ _ | .t2rpntlvwZ0T1 _ _ | .t2rpntlvwZ1 _ _ | .t2rpntlvwZ1T1 _ _ | .t2rpntlvwZ0RS _ _
    | .t2rpntlvwZ0RST1 _ _ | .t2rpntlvwZ1RS _ _ | .t2rpntlvwZ1RST1 _ _ | .tileloaddrs _ _ | .tileloaddrsT1 _ _
    | .tcmmimfp16ps _ _ _ | .tcmmrlfp16ps _ _ _ | .tconjtcmmimfp16ps _ _ _ | .tconjtfp16 _ _ | .tcvtrowd2psR _ _ _
    | .tcvtrowd2psI _ _ _ | .tcvtrowps2pbf16hR _ _ _ | .tcvtrowps2pbf16hI _ _ _ | .tcvtrowps2pbf16lR _ _ _
    | .tcvtrowps2pbf16lI _ _ _ | .tcvtrowps2phhR _ _ _ | .tcvtrowps2phhI _ _ _ | .tcvtrowps2phlR _ _ _
    | .tcvtrowps2phlI _ _ _ | .tdpbf8ps _ _ _ | .tdpbhf8ps _ _ _ | .tdphbf8ps _ _ _ | .tdphf8ps _ _ _
    | .tilemovrowI _ _ _ | .tilemovrowR _ _ _ | .tmmultf32ps _ _ _ | .ttcmmimfp16ps _ _ _ | .ttcmmrlfp16ps _ _ _
    | .ttdpbf16ps _ _ _ | .ttdpfp16ps _ _ _ | .ttmmultf32ps _ _ _ | .ttransposed _ _ => true
  | _ => false

/-- The AMX instructions that IA32_XFD[18] disables: all that touch tile data (R561), but for the three of R584 and R589. -/
def touchesTileData (i : Instr) : Bool :=
  isAmx i && match i with
    | .ldtilecfg _ | .sttilecfg _ | .tilerelease => false
    | _ => true

/-- The instructions that exist in 64-bit mode only (R821). -/
def longModeOnly (i : Instr) : Bool :=
  isAmx i || match i with
    | .movrsB _ _ | .movrsV _ _ _ | .vmovrsB128 _ _ _ _ | .vmovrsB256 _ _ _ _ | .vmovrsB512 _ _ _ _
      | .vmovrsW128 _ _ _ _ | .vmovrsW256 _ _ _ _ | .vmovrsW512 _ _ _ _ | .vmovrsD128 _ _ _ _
      | .vmovrsD256 _ _ _ _ | .vmovrsD512 _ _ _ _ | .vmovrsQ128 _ _ _ _ | .vmovrsQ256 _ _ _ _
      | .vmovrsQ512 _ _ _ _ | .pbndkb | .rdmsrImm _ _ | .rdmsrImmApx _ _ | .urdmsr _ _ | .urdmsrImm _ _
      | .uwrmsr _ _ | .uwrmsrImm _ _ | .wrmsrnsImm _ _ | .wrmsrnsImmApx _ _ => true
    | _ => false

/-- The instructions that may store to memory, now or by posting an update. -/
def storesMemory : Instr → Bool
  | .aadd _ _ _ | .aand _ _ _ | .aor _ _ _ | .axor _ _ _ | .pbndkb | .sttilecfg _ | .tilestored _ _ => true
  | _ => false

/-- The full register that holds a byte register. -/
def byteRegFull : Reg8 → Gpr
  | .low g => g
  | .ah => .rax
  | .ch => .rcx
  | .dh => .rdx
  | .bh => .rbx

/-- The general registers an instruction may change. -/
def gprDest : Instr → List Gpr
  | .cpuid => [.rax, .rbx, .rcx, .rdx]
  | .movrsB d _ => [byteRegFull d]
  | .movrsV _ d _ => [d]
  | .pbndkb | .pconfig => [.rax]
  | .rdmsr => [.rax, .rdx]
  | .rdmsrImm d _ | .rdmsrImmApx d _ | .urdmsr d _ | .urdmsrImm d _ => [d]
  | _ => []

/-- The vector register an instruction may change. -/
def zmmDest : Instr → Option VReg
  | .vmovrsB128 d _ _ _ | .vmovrsB256 d _ _ _ | .vmovrsB512 d _ _ _ | .vmovrsW128 d _ _ _ | .vmovrsW256 d _ _ _
    | .vmovrsW512 d _ _ _ | .vmovrsD128 d _ _ _ | .vmovrsD256 d _ _ _ | .vmovrsD512 d _ _ _ | .vmovrsQ128 d _ _ _
    | .vmovrsQ256 d _ _ _ | .vmovrsQ512 d _ _ _ => some d
  | .vsm4Key4Vex128 d _ _ | .vsm4Key4Vex256 d _ _ | .vsm4Key4Evex128 d _ _ | .vsm4Key4Evex256 d _ _
    | .vsm4Key4Evex512 d _ _ | .vsm4Rnds4Vex128 d _ _ | .vsm4Rnds4Vex256 d _ _ | .vsm4Rnds4Evex128 d _ _
    | .vsm4Rnds4Evex256 d _ _ | .vsm4Rnds4Evex512 d _ _ => some d
  | .tcvtrowd2psR d _ _ | .tcvtrowd2psI d _ _ | .tcvtrowps2pbf16hR d _ _ | .tcvtrowps2pbf16hI d _ _
    | .tcvtrowps2pbf16lR d _ _ | .tcvtrowps2pbf16lI d _ _ | .tcvtrowps2phhR d _ _ | .tcvtrowps2phhI d _ _
    | .tcvtrowps2phlR d _ _ | .tcvtrowps2phlI d _ _ | .tilemovrowI d _ _ | .tilemovrowR d _ _ => some d
  | _ => none

/-- The instructions that may change a model-specific register (R223, R510, R520). -/
def writesMsr : Instr → Bool
  | .cpuid | .uwrmsr _ _ | .uwrmsrImm _ _ | .wrmsrns | .wrmsrnsImm _ _ | .wrmsrnsImmApx _ _ => true
  | _ => false

end Sys2Proof.Machine
end

