-- ==== Sys2Proof/Certificates/Slice0/Obligations.lean ====
section
/-! DEFINITION. The statements for the provers. Each docstring names the rules of spec/ that its statement rests on. -/

namespace Sys2Proof.Claims

open Sys2Proof Sys2Proof.Machine

/-! ### Terms of the statements -/

/-- The encoding of an instruction decodes to it, whatever bytes follow. -/
def roundTrips (i : Instr) : Prop := ∀ rest, decode mode64 (encode i ++ rest) = .ok (i, (encode i).length)

/-- These bytes are one instruction: they decode to it, all of them used. -/
def decodesTo (bs : List Nat) (i : Instr) : Prop := decode mode64 (bytesOf bs) = .ok (i, bs.length)

/-- The three-tile instructions of class AMX-E4 (R587), each with its feature test and its element operation. -/
def mulForms : List ((Tmm → Tmm → Tmm → Instr) × (Cfg → Bool) × ElemOp) :=
  [(.tcmmimfp16ps, hasAmxComplex, pairElem imagTerm), (.tcmmrlfp16ps, hasAmxComplex, pairElem realTerm),
   (.tdpbf8ps, hasAmxFp8, fp8Elem .bf8 .bf8), (.tdpbhf8ps, hasAmxFp8, fp8Elem .bf8 .hf8),
   (.tdphbf8ps, hasAmxFp8, fp8Elem .hf8 .bf8), (.tdphf8ps, hasAmxFp8, fp8Elem .hf8 .hf8),
   (.tmmultf32ps, hasAmxTf32, tf32Elem)]

/-- The three-tile instructions of class AMX-E10 (R593). -/
def transposedForms : List ((Tmm → Tmm → Tmm → Instr) × (Cfg → Bool) × ElemOp) :=
  [(.tconjtcmmimfp16ps, transposeComplex, pairElem conjImagTerm),
   (.ttcmmimfp16ps, transposeComplex, pairElem imagTerm), (.ttcmmrlfp16ps, transposeComplex, pairElem realTerm),
   (.ttdpbf16ps, transposeBf16, pairElem bf16Term), (.ttdpfp16ps, transposeFp16, pairElem fp16Term),
   (.ttmmultf32ps, transposeTf32, tf32Elem)]

/-- The two-tile instructions of class AMX-E9 (R592), with what each does to a dword. -/
def transposeForms : List ((Tmm → Tmm → Instr) × (Cfg → Bool) × (W32 → W32)) :=
  [(.tconjtfp16, transposeComplex, fun w => w ^^^ 0x80000000), (.ttransposed, hasAmxTranspose, fun w => w)]

/-- The row instructions with a register selector (R591), with what each does to a dword. -/
def rowRegForms : List ((VReg → Tmm → Gpr → Instr) × (W32 → W32)) :=
  [(.tcvtrowd2psR, intToSingle), (.tcvtrowps2pbf16hR, fun w => inHigh (singleToBf16 w)),
   (.tcvtrowps2pbf16lR, fun w => inLow (singleToBf16 w)), (.tcvtrowps2phhR, fun w => inHigh (singleToHalf w)),
   (.tcvtrowps2phlR, fun w => inLow (singleToHalf w)), (.tilemovrowR, fun w => w)]

/-- The row instructions with an immediate selector (R590). -/
def rowImmForms : List ((VReg → Tmm → Byte → Instr) × (W32 → W32)) :=
  [(.tcvtrowd2psI, intToSingle), (.tcvtrowps2pbf16hI, fun w => inHigh (singleToBf16 w)),
   (.tcvtrowps2pbf16lI, fun w => inLow (singleToBf16 w)), (.tcvtrowps2phhI, fun w => inHigh (singleToHalf w)),
   (.tcvtrowps2phlI, fun w => inLow (singleToHalf w)), (.tilemovrowI, fun w => w)]

/-- The plain tile loads (R601, R613, R614) with their feature tests. -/
def tileLoadForms : List ((Tmm → MemOp → Instr) × (Cfg → Bool)) :=
  [(.tileloadd, fun _ => true), (.tileloaddT1, fun _ => true), (.tileloaddrs, tileRsOk), (.tileloaddrsT1, tileRsOk)]

/-- The pair loads (R605 to R611) with their feature tests and padding. -/
def pairLoadForms : List ((Tmm → MemOp → Instr) × (Cfg → Bool) × Nat) :=
  [(.t2rpntlvwZ0, hasAmxTranspose, 0), (.t2rpntlvwZ0T1, hasAmxTranspose, 0), (.t2rpntlvwZ1, hasAmxTranspose, 1),
   (.t2rpntlvwZ1T1, hasAmxTranspose, 1), (.t2rpntlvwZ0RS, pairRsOk, 0), (.t2rpntlvwZ0RST1, pairRsOk, 0),
   (.t2rpntlvwZ1RS, pairRsOk, 1), (.t2rpntlvwZ1RST1, pairRsOk, 1)]

/-- The VMOVRS rows (R425 to R428): element bits, vector bits. -/
def vmovrsForms : List (Nat × Nat × (VReg → KReg → Bool → MemOp → Instr)) :=
  [(8, 128, .vmovrsB128), (8, 256, .vmovrsB256), (8, 512, .vmovrsB512),
   (16, 128, .vmovrsW128), (16, 256, .vmovrsW256), (16, 512, .vmovrsW512),
   (32, 128, .vmovrsD128), (32, 256, .vmovrsD256), (32, 512, .vmovrsD512),
   (64, 128, .vmovrsQ128), (64, 256, .vmovrsQ256), (64, 512, .vmovrsQ512)]

/-- The SM4 rows (R543, R544): vector bits, whether EVEX, the linear function. -/
def sm4Forms : List (Nat × Bool × (W32 → W32) × (VReg → VReg → VecSrc → Instr)) :=
  [(128, false, lKey, .vsm4Key4Vex128), (256, false, lKey, .vsm4Key4Vex256), (128, true, lKey, .vsm4Key4Evex128),
   (256, true, lKey, .vsm4Key4Evex256), (512, true, lKey, .vsm4Key4Evex512),
   (128, false, lRnd, .vsm4Rnds4Vex128), (256, false, lRnd, .vsm4Rnds4Vex256), (128, true, lRnd, .vsm4Rnds4Evex128),
   (256, true, lRnd, .vsm4Rnds4Evex256), (512, true, lRnd, .vsm4Rnds4Evex512)]

/-- The RAO row of an operation (R408 to R411). -/
def raoInstr (op : RaoOp) (sz : RaoSize) (m : MemOp) (r : Gpr) : Instr :=
  match op with
  | .add => .aadd sz m r
  | .and => .aand sz m r
  | .or => .aor sz m r
  | .xor => .axor sz m r

/-- A vector source holds `v`: a register's value, or the bytes of an accessible memory operand. -/
def sourceIs (s : State) (vl : Nat) (src : VecSrc) (v : W512) : Prop :=
  match src with
  | .reg r => v = s.zmm r
  | .mem m => ∃ as, accessBytes s (segOf m) (s.ea m) (vl / 8) .read true = .ok as ∧ v = ofBytes (readBytes s.seen as)

/-- An AMX instruction gets past the checks that do not depend on TILECFG: R583, its features, no transaction. -/
abbrev amxReady (ok : Cfg → Bool) (s : State) : Prop := amxEnabled s = true ∧ ok s.cfg = true ∧ s.ctx.tsx = false

/-- Tile data is enabled (R585). -/
abbrev tileDataOn (s : State) : Prop := bitAt (s.msrVal 0x1C4) 18 = false

/-- The instruction ended and changed nothing but AMX state, RIP, and what its loads perform of the posted updates. -/
def amxOnly (s t : State) : Prop :=
  t = { s with rip := s.nextRip, amx := t.amx, mem := t.mem, rao := t.rao, monitor := t.monitor }

/-- Every tile but one, and all of TILECFG but start_row, are unchanged; start_row is 0. -/
def oneTileOnly (s t : State) (c : Tmm) : Prop :=
  t.amx.palette = s.amx.palette ∧ t.amx.rows = s.amx.rows ∧ t.amx.colsb = s.amx.colsb ∧ t.amx.startRow = 0 ∧
    ∀ q : Tmm, tileIx q ≠ tileIx c → t.tile q = s.tile q

/-- The AMX instructions that a fault may leave half done (R568, R604). -/
def restartable : Instr → Bool
  | .tileloadd _ _ | .tileloaddT1 _ _ | .tileloaddrs _ _ | .tileloaddrsT1 _ _ | .tilestored _ _ | .t2rpntlvwZ0 _ _
    | .t2rpntlvwZ0T1 _ _ | .t2rpntlvwZ1 _ _ | .t2rpntlvwZ1T1 _ _ | .t2rpntlvwZ0RS _ _ | .t2rpntlvwZ0RST1 _ _
    | .t2rpntlvwZ1RS _ _ | .t2rpntlvwZ1RST1 _ _ => true
  | _ => false

/-- The tiles that a restartable load writes: its destination, or both of a pair (R604). -/
def loadDest : Instr → List Tmm
  | .tileloadd t _ | .tileloaddT1 t _ | .tileloaddrs t _ | .tileloaddrsT1 t _ => [t]
  | .t2rpntlvwZ0 t _ | .t2rpntlvwZ0T1 t _ | .t2rpntlvwZ1 t _ | .t2rpntlvwZ1T1 t _ | .t2rpntlvwZ0RS t _
    | .t2rpntlvwZ0RST1 t _ | .t2rpntlvwZ1RS t _ | .t2rpntlvwZ1RST1 t _ => [pairBase t, pairNext t]
  | _ => []

/-- Everything but CR2, IA32_XFD_ERR (in `msr`), AMX state, memory with its posted updates and monitor, the draw counter and the
delivery is unchanged. -/
def trapFrame (s t : State) : Prop :=
  t = { s with sys := { s.sys with cr2 := t.sys.cr2 }, msr := t.msr, amx := t.amx, mem := t.mem, rao := t.rao,
               monitor := t.monitor, draws := t.draws, delivered := t.delivered }

/-- The AMX state that an exception in a restartable instruction leaves: the configuration, every tile that is no destination,
and every row that was done before. -/
def restartFrame (i : Instr) (s t : State) : Prop :=
  t.amx.palette = s.amx.palette ∧ t.amx.rows = s.amx.rows ∧ t.amx.colsb = s.amx.colsb ∧
    (∀ q : Tmm, (∀ u ∈ loadDest i, tileIx q ≠ tileIx u) → t.tile q = s.tile q) ∧
    (∀ u r, loadDest i = [u] → r < s.amx.startRow.toNat → t.tileRow u r = s.tileRow u r) ∧
    (∀ u r, u ∈ loadDest i → 2 * r + 2 ≤ s.amx.startRow.toNat → t.tileRow u r = s.tileRow u r)

/-- What the plain tile load of `u` from `m` has done where it stops: nothing, or the rows from the old start_row up to the new
one are loaded and the rows from there on are zero (R568, R571, R613). -/
def loadProgress (s t : State) (u : Tmm) (m : MemOp) : Prop :=
  t.amx = s.amx ∨
    (s.amx.startRow.toNat ≤ t.amx.startRow.toNat ∧ t.amx.startRow.toNat < s.tileRows u ∧
      ∀ r, r < 16 → s.amx.startRow.toNat ≤ r →
        (t.amx.startRow.toNat ≤ r → t.tileRow u r = 0) ∧
        (r < t.amx.startRow.toNat → ∃ as, accessBytes s (segOf m) (s.rowAddr m r) (s.tileColsb u) .read false = .ok as ∧
          t.tileRow u r = lowBits (8 * s.tileColsb u) (ofBytes (readBytes s.seen as))))

/-- The physical byte of the user-MSR bitmap for an address, and the bit it holds (R45, R46). -/
def bitmapBit (s : State) (write : Bool) (a : Nat) (b : Bool) : Prop :=
  ∃ as, translateBytes s .read true 1
      ((s.msrVal 0x1C &&& 0xFFFFFFFFFFFFF000) + BitVec.ofNat 64 ((if write then 2048 else 0) + a / 8)) = .ok as ∧
    bitAt ((readBytes s.seen as).headD 0) (a % 8) = b

/-- ZF. -/
def zf (s : State) : Bool := bitAt s.rflags 6

/-- The flags of PBNDKB and PCONFIG (R452, R470): CF, PF, AF, SF and OF are cleared, no bit but those and ZF changes. -/
def keyFlagsOnly (s t : State) : Prop := t.rflags &&& 0x895 = 0 ∧ t.rflags &&& ~~~0x8D5 = s.rflags &&& ~~~0x8D5

/-- RAX, RBX, RCX and RDX hold a CPUID answer, zero-extended (R220). -/
def holdsAnswer (t : State) (r : CpuidRow) : Prop :=
  t.reg .rax = r.eax.setWidth 64 ∧ t.reg .rbx = r.ebx.setWidth 64 ∧ t.reg .rcx = r.ecx.setWidth 64 ∧
    t.reg .rdx = r.edx.setWidth 64

/-- What a command of PCONFIG leaf 0 leaves in its key slot (R473). -/
def slotProgrammed (t : List Byte) (v : KeySlot) : Prop :=
  match keyCommand t with
  | 0 => v = ⟨.encrypt, keyAlg t, keyField1 t, keyField2 t⟩
  | 1 => v.mode = .encrypt ∧ v.alg = keyAlg t
  | 2 => v = ⟨.default, 0, 0, 0⟩
  | _ => v = ⟨.noEncrypt, 0, 0, 0⟩

/-- A row without information. -/
def emptyRow (r : CpuidRow) : Prop := r.eax = 0 ∧ r.ebx = 0 ∧ r.ecx = 0 ∧ r.edx = 0

/-- MSRs whose stored value is all of their state: a write stores it, a read answers it (R44). The others are the time-stamp
counter, the constants of the implementation, the write ports of the global status, and the registers that share their state
with other fields. -/
def ordinaryMsr (a : Nat) : Prop :=
  a ∉ [0x10, 0x10A, 0x1A0, 0x345, 0x390, 0x391, 0x492, 0x570, 0x571, 0x6E0, 0x981, 0x982, 0x985, 0x9F1, 0x1B00, 0xC0000080,
    0xC0000100, 0xC0000101]

/-- What the number of a format's magnitude pattern stands for, in units: `p` fraction bits, least denormal `2^qmin` (R182). -/
def magValue (p qmin m : Nat) : Nat :=
  if m / 2 ^ p = 0 then m * 2 ^ qmin else (2 ^ p + m % 2 ^ p) * 2 ^ (m / 2 ^ p - 1 + qmin)

/-- Breakpoint register `x` is a trigger input (R743, R745): the processor supports it, the register is enabled, by bit 2x or 2x + 1 of
DR7, and not set for I/O (the places of these bits: PRESUMED, notes/assumptions/37.md), and DR7.DRx_PT_LOG is 1. -/
def breakpointInput (pre : State) (x : Nat) : Prop :=
  featC pre.cfg 0x14 1 15 = true ∧ ioBreakpoint pre x = false ∧
    (bitAt pre.sys.dr7 (2 * x) = true ∨ bitAt pre.sys.dr7 (2 * x + 1) = true) ∧ bitAt pre.sys.dr7 (32 + x) = true

/-- A trigger unit that asks for exactly one of pause and resume, where the processor supports them (R744, R745). -/
def singleAction (pre : State) (u : Nat) : Prop :=
  featC pre.cfg 0x14 1 1 = true ∧ bitAt (triggerUnit pre u) 13 ≠ bitAt (triggerUnit pre u) 12

/-- A trigger unit that asks for the instruction count, where the processor supports it and the trace is in context (R744, R749,
R750). -/
def asksCount (pre s : State) (u : Nat) : Prop :=
  s.pt.contextEn = true ∧ featC pre.cfg 0x14 1 0 = true ∧ bitAt (triggerUnit pre u) 14 = true

/-- `t` is the exit of an MSR instruction at `s` with a reason and an address: VMX root operation, the exit information, and
nothing else of the program's state changed (R507, R860). -/
def msrExited (s t : State) (reason : W32) (a : Nat) : Prop :=
  t.delivered = some (.vmExit s.rip) ∧ t.ctx.vmx = .root ∧ t.vmcs.exitReason = reason ∧
    t.vmcs.exitQualification = BitVec.ofNat 64 a ∧ t.vmcs.exitLength = BitVec.ofNat 32 s.ilen ∧
    t.gpr = s.gpr ∧ t.rflags = s.rflags ∧ t.rip = s.rip ∧ t.msr = s.msr ∧ t.sys = s.sys ∧ sameMemory s t

/-- RDMSR (bitmaps at 0 and 1024) and WRMSRNS (at 2048 and 3072) of MSR `a` exit: without MSR bitmaps, outside both ranges, or by the
bit of the low or the high bitmap. -/
def exitsByBitmap (s : State) (a low high : Nat) : Prop :=
  s.vmcs.useMsrBitmaps = false ∨ (0x1FFF < a ∧ a < 0xC0000000) ∨ 0xC0001FFF < a ∨
    (a ≤ 0x1FFF ∧ s.msrBitmapBit low a = true) ∨
    (0xC0000000 ≤ a ∧ a ≤ 0xC0001FFF ∧ s.msrBitmapBit high (a - 0xC0000000) = true)

/-- A user-timer event is pending (R842) and not held back by a condition of R843 but footnote 1: a deadline that is not 0 and at most
the TSC, CR4.UINTR, 64-bit mode, privilege level 3, UIF, and neither shutdown nor wait-for-SIPI, on a processor with UTMR (R840). -/
def userTimerReady (s : State) : Prop :=
  hasUtmr s.cfg = true ∧ s.msrVal 0x1B00 &&& 0xFFFFFFFFFFFFFFC0 ≠ 0 ∧
    (s.msrVal 0x1B00 &&& 0xFFFFFFFFFFFFFFC0).toNat ≤ s.tsc.toNat ∧ bitAt s.sys.cr4 25 = true ∧ s.is64 = true ∧ s.cpl = 3 ∧
    s.uif = true ∧ s.ctx.activity ≠ .shutdown ∧ s.ctx.activity ≠ .waitSipi

/-- Element `j` of a vector takes part in a masked load (R424). -/
abbrev takesPart (s : State) (k : KReg) (n j : Nat) : Prop := j < n ∧ s.maskBit k j = true

end Sys2Proof.Claims

open Sys2Proof Sys2Proof.Machine Sys2Proof.Claims

/-! ## Encoding -/

/-- Words of the spec's own examples decode to the instructions they stand for (R220, R408, R424, R502, R543, R605, R629). -/
def Obligations.DecodeWords : Prop :=
  decodesTo [0x0F, 0xA2] .cpuid ∧
  decodesTo [0x48, 0x0F, 0x38, 0xFC, 0x08] (.aadd .o64 ⟨none, .a64, .reg .rax, none, 0, 0⟩ .rcx) ∧
  decodesTo [0x62, 0xF5, 0x7F, 0x89, 0x6F, 0x50, 0x01] (.vmovrsB128 2 1 true ⟨none, .a64, .reg .rax, none, 0, 16⟩) ∧
  decodesTo [0xC4, 0xE7, 0x7B, 0xF6, 0xC0, 0x00, 0x1B, 0x00, 0x00] (.rdmsrImm .rax 0x1B00) ∧
  decodesTo [0xC4, 0xE2, 0x6A, 0xDA, 0xCB] (.vsm4Key4Vex128 1 2 (.reg 3)) ∧
  decodesTo [0xC4, 0xE2, 0x78, 0x6E, 0x04, 0x08] (.t2rpntlvwZ0 0 ⟨none, .a64, .reg .rax, some .rcx, 0, 0⟩) ∧
  decodesTo [0x62, 0xF2, 0x6E, 0x48, 0x4A, 0xC1] (.tcvtrowd2psR 0 1 .rdx)

/-- Decode and encode agree on every AMX instruction whose operands are registers or an immediate (R164, R165, R185). -/
def Obligations.RoundTripTileRegisters : Prop :=
  roundTrips .tilerelease ∧ (∀ t, (Instr.tilezero t).wf = true → roundTrips (.tilezero t)) ∧
  (∀ f ∈ mulForms ++ transposedForms, ∀ c a b, (f.1 c a b).wf = true → roundTrips (f.1 c a b)) ∧
  (∀ f ∈ transposeForms, ∀ d a, (f.1 d a).wf = true → roundTrips (f.1 d a)) ∧
  (∀ f ∈ rowRegForms, ∀ d t r, (f.1 d t r).wf = true → roundTrips (f.1 d t r)) ∧
  (∀ f ∈ rowImmForms, ∀ d t n, (f.1 d t n).wf = true → roundTrips (f.1 d t n))

/-- Decode and encode agree on every instruction with a ModRM memory operand: RAO, MOVRS, PREFETCHRST2, VMOVRS, SM4, the tile
configuration, loads and stores (R160 to R171, R185). -/
def Obligations.RoundTripMemory : Prop :=
  (∀ op sz m r, m.wf = true → roundTrips (raoInstr op sz m r)) ∧
  (∀ d m, (Instr.movrsB d m).wf = true → roundTrips (.movrsB d m)) ∧
  (∀ sz d m, (Instr.movrsV sz d m).wf = true → roundTrips (.movrsV sz d m)) ∧
  (∀ m, (Instr.prefetchrst2 m).wf = true → roundTrips (.prefetchrst2 m)) ∧
  (∀ f ∈ vmovrsForms, ∀ d k z m, (f.2.2 d k z m).wf = true → roundTrips (f.2.2 d k z m)) ∧
  (∀ f ∈ sm4Forms, ∀ d a b, (f.2.2.2 d a b).wf = true → roundTrips (f.2.2.2 d a b)) ∧
  (∀ m, m.wf = true → roundTrips (.ldtilecfg m) ∧ roundTrips (.sttilecfg m)) ∧
  (∀ m t, (Instr.tilestored m t).wf = true → roundTrips (.tilestored m t)) ∧
  (∀ f ∈ tileLoadForms, ∀ t m, (f.1 t m).wf = true → roundTrips (f.1 t m)) ∧
  (∀ f ∈ pairLoadForms, ∀ t m, (f.1 t m).wf = true → roundTrips (f.1 t m))

/-- Decode and encode agree on the MSR instructions and on those without explicit operands (R185). -/
def Obligations.RoundTripSystem : Prop :=
  roundTrips .cpuid ∧ roundTrips .pbndkb ∧ roundTrips .pconfig ∧ roundTrips .rdmsr ∧ roundTrips .wrmsrns ∧
  roundTrips .mwait ∧ (∀ g z, (Instr.monitor g z).wf = true → roundTrips (.monitor g z)) ∧
  (∀ d n, roundTrips (.rdmsrImm d n) ∧ roundTrips (.rdmsrImmApx d n) ∧ roundTrips (.urdmsrImm d n) ∧
    roundTrips (.uwrmsrImm n d) ∧ roundTrips (.wrmsrnsImm n d) ∧ roundTrips (.wrmsrnsImmApx n d)) ∧
  (∀ a b, roundTrips (.urdmsr a b) ∧ roundTrips (.uwrmsr a b))

/-- Decoding an instruction reads its own bytes and no others, in every mode (R160, R170). -/
def Obligations.DecodeReadsOnlyItsBytes : Prop :=
  ∀ m bs i n rest, decode m bs = .ok (i, n) →
    0 < n ∧ n ≤ bs.length ∧ decode m (bs.take n ++ rest) = .ok (i, n)

/-! ## Steps -/

/-- A step runs the decoded instruction: with no event to process, the bytes at RIP are decoded and `exec` runs on the state in
which the posted updates of this boundary are performed (R130) and `ilen` is the instruction's length. What follows it touches
no general register, RIP, flag, vector register, tile, system register or VMCS field, and no byte of memory while every
counter is disabled. -/
def Obligations.StepRunsDecoded : Prop :=
  (∀ s i n, s.delivered = none → s.raoStep.guestTimerDue = false → s.raoStep.userTimerDue = false →
    s.ctx.activity = .active → decode s.decMode (fetchBytes s.raoStep 15 0).1 = .ok (i, n) →
    step s = match exec i { s.raoStep with ilen := n } with
      | .next t => .next (finish (accessed i { s.raoStep with ilen := n } t) s.raoStep t)
      | .fault f => .fault f
      | .refused r => .refused r) ∧
  (∀ l u t, (finish l u t).gpr = t.gpr ∧ (finish l u t).rip = t.rip ∧ (finish l u t).rflags = t.rflags ∧
    (finish l u t).vec = t.vec ∧ (finish l u t).amx = t.amx ∧ (finish l u t).sys = t.sys ∧ (finish l u t).vmcs = t.vmcs ∧
    (finish l u t).delivered = t.delivered) ∧
  (∀ l u t, u.msrVal 0x38F = 0 → t.pebs.pending = 0 → (finish l u t).mem = t.mem) ∧
  (∀ l u t, t.tsc.toNat ≤ (finish l u t).tsc.toNat)

/-- What a step does where it runs no instruction of the table. Reserved encodings take #UD (R175, R821). Bytes that end before the
instruction does take the exception of the fetch that ended them, and #GP(0) where there are fifteen (R124, R170; that fetch raises
these is PRESUMED, notes/assumptions/25.md). Of the base architecture, the instructions that the spec states run (D12, R167; their
encodings are PRESUMED, notes/assumptions/44.md), the others are refused (R8; that the model refuses them is its own choice, DESIGN
CHOICE, notes/assumptions/24.md). A processor that does not execute waits while time passes: R61 says that the counter runs, and that
nothing else changes but what is performed of the posted updates is the model's reading (DEDUCED, notes/assumptions/42.md). After
an exception, VM exit or abort was delivered the machine stops (R829, D3: the model's choice, DESIGN CHOICE,
notes/assumptions/8.md). -/
def Obligations.StepStops : Prop :=
  (∀ s, s.delivered = none → s.raoStep.guestTimerDue = false → s.raoStep.userTimerDue = false →
    (s.ctx.activity = .active →
      (decode s.decMode (fetchBytes s.raoStep 15 0).1 = .error .ud → step s = .next (s.raoStep.takeTrap udTrap).tick) ∧
      (decode s.decMode (fetchBytes s.raoStep 15 0).1 = .error .more →
        ((fetchBytes s.raoStep 15 0).1.length = 15 → step s = .next (s.raoStep.takeTrap (gpTrap s)).tick) ∧
        ((fetchBytes s.raoStep 15 0).1.length < 15 → ∃ e,
          fetchAddr s.raoStep (fetchBytes s.raoStep 15 0).1.length = .error e ∧
          step s = .next (s.raoStep.takeTrap e).tick)) ∧
      (decode s.decMode (fetchBytes s.raoStep 15 0).1 = .error .outside →
        (decodeBase s.decMode (fetchBytes s.raoStep 15 0).1 = .error .outside → step s = .refused .baseArchitecture) ∧
        (decodeBase s.decMode (fetchBytes s.raoStep 15 0).1 = .error .ud →
          step s = .next (s.raoStep.takeTrap udTrap).tick) ∧
        (decodeBase s.decMode (fetchBytes s.raoStep 15 0).1 = .error .more →
          ((fetchBytes s.raoStep 15 0).1.length = 15 → step s = .next (s.raoStep.takeTrap (gpTrap s)).tick) ∧
          ((fetchBytes s.raoStep 15 0).1.length < 15 → ∃ e,
            fetchAddr s.raoStep (fetchBytes s.raoStep 15 0).1.length = .error e ∧
            step s = .next (s.raoStep.takeTrap e).tick)) ∧
        (∀ i n, decodeBase s.decMode (fetchBytes s.raoStep 15 0).1 = .ok (i, n) →
          ∃ t, execBase i { s.raoStep with ilen := n } = .next t ∧
            step s = .next (finish (i.accessed { s.raoStep with ilen := n }) s.raoStep t)))) ∧
    (s.ctx.activity ≠ .active → step s = .next s.raoStep.tick)) ∧
  (∀ s d, s.delivered = some d → step s = .fault .delivered)

/-! ## Invariants -/

/-- Memory, the MSR space and the key tables have their canonical form at reset (the form is the model's, R120, R44). -/
def Obligations.ResetStores : Prop := State.reset.storesWf = true

/-- Every step keeps the canonical form of memory, of the MSR space and of the key tables (the form is the model's). -/
def Obligations.StepKeepsStores : Prop := ∀ s t, s.storesWf = true → step s = .next t → t.storesWf = true

/-- No step changes the configuration (R10): it is fixed for a run. -/
def Obligations.StepKeepsConfiguration : Prop := ∀ s t, step s = .next t → t.cfg = s.cfg

/-- What the spec states of reset (R900): TILECFG and TILEDATA zero, the PEBS MSRs zero, no throttling, the Input fields of the
trigger units zero, the time-stamp counter zero, no key programmed. The last clause is the model's choice: R900 gives the Action
fields of the trigger units no value, and D5 takes zero (notes/assumptions/1.md). -/
def Obligations.ResetValues : Prop :=
  State.reset.amx.palette = 0 ∧ State.reset.amx.startRow = 0 ∧ State.reset.tilesConfigured = false ∧
  (∀ t, State.reset.tileRows t = 0 ∧ State.reset.tileColsb t = 0) ∧ (∀ t r, State.reset.tileRow t r = 0) ∧
  State.reset.msrVal 0x3F4 = 0 ∧ State.reset.msrVal 0x3F5 = 0 ∧
  (∀ n, n < 32 → State.reset.msrVal (gpCfgC n) = 0 ∧ State.reset.msrVal (fxCfgC n) = 0) ∧
  (∀ n, n < cbaCount State.reset.cfg → State.reset.msrVal (0xE00 + n) = 0) ∧
  (∀ u, u < 28 → (triggerUnit State.reset u).toNat % 128 = 0) ∧
  State.reset.tsc = 0 ∧ State.reset.tmemk = [] ∧ State.reset.tse = [] ∧
  (∀ u, u < 28 → (triggerUnit State.reset u).toNat / 4096 = 0)

/-! ## Whole-machine frames -/

/-- No instruction but PBNDKB and PCONFIG changes a flag (R33), and those two change only CF, PF, AF, ZF, SF and OF. -/
def Obligations.FlagsFrame : Prop :=
  (∀ i s t, i ≠ .pbndkb → i ≠ .pconfig → exec i s = .next t → t.rflags = s.rflags) ∧
  (∀ i s t, exec i s = .next t → t.rflags &&& ~~~0x8D5 = s.rflags &&& ~~~0x8D5)

/-- Outside a transaction an instruction changes no general register but its destinations (`gprDest`, R31). -/
def Obligations.GeneralRegisterFrame : Prop :=
  ∀ i s t g, s.ctx.tsx = false → exec i s = .next t → g ∉ gprDest i → t.reg g = s.reg g

/-- An instruction that stores nothing (`storesMemory`) leaves every byte of memory as this processor sees it (R121, R131). -/
def Obligations.MemoryFrame : Prop :=
  ∀ i s t, storesMemory i = false → exec i s = .next t → sameMemory s t

/-- No instruction changes an opmask register or MXCSR, nor a vector register but its destination (R38 to R40, R569), and only
AMX instructions change TILECFG or TILEDATA (R41, R42, R562). -/
def Obligations.VectorAndTileFrame : Prop :=
  (∀ i s t, exec i s = .next t →
    t.vec.k = s.vec.k ∧ t.vec.mxcsr = s.vec.mxcsr ∧ ∀ r, zmmDest i ≠ some r → t.zmm r = s.zmm r) ∧
  (∀ i s t, isAmx i = false → exec i s = .next t → t.amx = s.amx)

/-- An instruction that writes no MSR leaves every MSR but IA32_XFD_ERR, the system registers but CR2, and UIRR; none but
PCONFIG and the MSR writes changes a key table (R44, R54, R64, R66). -/
def Obligations.SystemFrame : Prop :=
  ∀ i s t, writesMsr i = false → exec i s = .next t →
    (∀ a, a ≠ 0x1C5 → t.msrVal a = s.msrVal a) ∧ t.sys = { s.sys with cr2 := t.sys.cr2 } ∧ t.uirr = s.uirr ∧
    (i ≠ .pconfig → t.tmemk = s.tmemk ∧ t.tse = s.tse)

/-- An exception saves the address of its instruction, and no change of the instruction is visible (R829, R830): all of the state
but CR2, IA32_XFD_ERR and the free draws stays, memory reads the same, and so does AMX state, but for the progress of a tile
load or store (R568): of that the configuration, every other tile, the rows done before, and every byte of memory outside the
rows that TILESTORED has done stay, and a plain load has loaded exactly the rows before its new start_row.
That delivery ends the run, and that an exception leaves a transaction open, are the model's choices (DESIGN CHOICE,
notes/assumptions/8.md and 19.md); what a load or store that stops half-way leaves is DEDUCED (notes/assumptions/33.md). -/
def Obligations.ExceptionsArePrecise : Prop :=
  ∀ i s t v c r, s.delivered = none → exec i s = .next t → t.delivered = some (.exception v c r) →
    r = s.rip ∧ trapFrame s t ∧ (v ≠ 14 → t.sys.cr2 = s.sys.cr2) ∧ (∀ a, a ≠ 0x1C5 → t.msrVal a = s.msrVal a) ∧
    (restartable i = false → t.amx = s.amx) ∧ restartFrame i s t ∧
    (∀ u m, i = .tileloadd u m ∨ i = .tileloaddT1 u m ∨ i = .tileloaddrs u m ∨ i = .tileloaddrsT1 u m →
      loadProgress s t u m) ∧
    ((∀ m u, i ≠ .tilestored m u) → sameMemory s t) ∧
    (∀ m u, i = .tilestored m u → ∀ a,
      (∀ k, s.amx.startRow.toNat ≤ k → k < t.amx.startRow.toNat → ∀ as,
        accessBytes s (segOf m) (s.rowAddr m k) (s.tileColsb u) .write false = .ok as → a ∉ as) →
      readByte t.seen a = readByte s.seen a)

/-- Outside 64-bit mode every instruction that exists in 64-bit mode only takes #UD and does nothing else (R821, R560). -/
def Obligations.OutsideLongMode : Prop :=
  ∀ i s, longModeOnly i = true → s.is64 = false → exec i s = .next (s.takeTrap udTrap)

/-- Without its CPUID feature an instruction only takes #UD (R174, R821): RAO, PBNDKB (also where VMX non-root operation does not
enable it), PCONFIG, RDMSR, WRMSRNS and the immediate forms, MWAIT and MONITOR (also where IA32_MISC_ENABLE[18] is 0, R530), and
the AMX instructions, which need AMX-TILE too and, with no feature missing, CR4.OSXSAVE and XCR0[18:17] = 11b (R583); the row
instructions need XCR0's vector components and AVX10.2 as well (R590, R591).
For MONITOR this is R173's, marked as general knowledge there (PRESUMED, notes/assumptions/43.md). -/
def Obligations.FeatureTraps : Prop :=
  ∀ s, let ud := fun i => exec i s = .next (s.takeTrap udTrap)
    (hasRaoInt s.cfg = false → ∀ op sz m r, ud (raoInstr op sz m r)) ∧
    (hasPbndkb s.cfg = false ∨ (s.nonRoot = true ∧ s.tertiary 9 = false) → ud .pbndkb) ∧
    (hasPconfig s.cfg = false → ud .pconfig) ∧ (hasMsr s.cfg = false → ud .rdmsr) ∧
    (hasWrmsrns s.cfg = false → ud .wrmsrns) ∧
    (∀ d n, (hasMsrImm s.cfg = false → ud (.rdmsrImm d n) ∧ ud (.wrmsrnsImm n d)) ∧
      (hasMsrImm s.cfg = false ∨ hasApx s.cfg = false → ud (.rdmsrImmApx d n) ∧ ud (.wrmsrnsImmApx n d))) ∧
    (monitorEnabled s = false ∨ (monitorFlag s = false ∧ mwaitFlag s = false) → ud .mwait) ∧
    (monitorEnabled s = false ∨ monitorFlag s = false → ∀ g z, ud (.monitor g z)) ∧
    (∀ i, isAmx i = true →
      hasAmxTile s.cfg = false ∨ bitAt s.sys.cr4 18 = false ∨ s.sys.xcr0 &&& 0x60000 ≠ 0x60000 → ud i) ∧
    (∀ f ∈ mulForms ++ transposedForms, f.2.1 s.cfg = false → ∀ c a b, ud (f.1 c a b)) ∧
    (∀ f ∈ transposeForms, f.2.1 s.cfg = false → ∀ d a, ud (f.1 d a)) ∧
    (∀ f ∈ tileLoadForms, f.2 s.cfg = false → ∀ t m, ud (f.1 t m)) ∧
    (∀ f ∈ pairLoadForms, f.2.1 s.cfg = false → ∀ t m, ud (f.1 t m)) ∧
    (hasAmxAvx512 s.cfg = false ∨ hasAvx102 s.cfg = false ∨ s.sys.xcr0 &&& 0xE6 ≠ 0xE6 →
      (∀ f ∈ rowRegForms, ∀ d t r, ud (f.1 d t r)) ∧ ∀ f ∈ rowImmForms, ∀ d t n, ud (f.1 d t n))

/-- Outside privilege level 0: #GP(0) for RDMSR and WRMSRNS (R501 to R503, R520, R521), #UD for PBNDKB, PCONFIG and MWAIT (R452,
R470, R530). The last clause, #UD for MONITOR too, is R173's, marked there as general knowledge (notes/assumptions/43.md). -/
def Obligations.PrivilegeTraps : Prop :=
  ∀ s, s.cpl ≠ 0 →
    (hasMsr s.cfg = true → exec .rdmsr s = .next (s.takeTrap (gpTrap s))) ∧
    (hasWrmsrns s.cfg = true → exec .wrmsrns s = .next (s.takeTrap (gpTrap s))) ∧
    (∀ d n, s.is64 = true → hasMsrImm s.cfg = true →
      exec (.rdmsrImm d n) s = .next (s.takeTrap (gpTrap s)) ∧ exec (.wrmsrnsImm n d) s = .next (s.takeTrap (gpTrap s)) ∧
      (hasApx s.cfg = true → exec (.rdmsrImmApx d n) s = .next (s.takeTrap (gpTrap s)) ∧
        exec (.wrmsrnsImmApx n d) s = .next (s.takeTrap (gpTrap s)))) ∧
    exec .pbndkb s = .next (s.takeTrap udTrap) ∧ exec .pconfig s = .next (s.takeTrap udTrap) ∧
    exec .mwait s = .next (s.takeTrap udTrap) ∧ ∀ g z, exec (.monitor g z) s = .next (s.takeTrap udTrap)

/-- Taking a page fault writes the faulting linear address to CR2 and delivers vector 14 with its code (R823), and a translation
fails at the lowest byte whose page does not allow the access, with a code that says whether the page was present, whether it
was a write, whether it was a user-mode access, and whether it was a fetch (R121, R124). Model's choices: the code's bits stand at
the family's places 0, 1, 2 and 4 with the rest 0, since the spec gives no places (PRESUMED, notes/assumptions/9.md), and the pages
are the list `s.cfg.pages`, which stands for the page tables (DESIGN CHOICE D2, notes/assumptions/7.md). -/
def Obligations.PageFaults : Prop :=
  (∀ (s : State) la code, (s.takeTrap (.page la code)).delivered = some (.exception 14 (some code) s.rip) ∧
    (s.takeTrap (.page la code)).sys = { s.sys with cr2 := la } ∧ (s.takeTrap (.page la code)).rip = s.rip) ∧
  (∀ s k sup n la e, translateBytes s k sup n la = .error e →
    ∃ j p code, j < n ∧ e = .page (la + BitVec.ofNat 64 j) code ∧ bitAt s.sys.cr0 31 = true ∧ p ∈ s.cfg.pages ∧
      p.page = (la + BitVec.ofNat 64 j).toNat / 4096 ∧
      (p.present = false ∨ pageAllows p k (!sup && s.cpl == 3) = false) ∧
      bitAt code 0 = p.present ∧ bitAt code 1 = (k == .write) ∧ bitAt code 2 = (!sup && s.cpl == 3) ∧
      bitAt code 3 = false ∧ bitAt code 4 = (k == .fetch) ∧ code >>> 5 = 0 ∧
      ∀ i, i < j → ∃ a, translate s (la + BitVec.ofNat 64 i) k sup = .ok a)

/-- In a transaction no AMX instruction completes, and none ever raises #AC (R582); an RAO instruction that passes its checks aborts
the transaction (R407), and one that fails them takes the exception of the check that failed, inside a transaction as outside. That is
#GP or #SS of the segment or canonical check (R406, R822, R824), then, misaligned, #GP also where the translation fails (R404), the
page fault of the translation (R823), and #GP where a byte is not write-back (R405; RaoTraps says the rest of R404 and R405).
That the abort of an RAO instruction follows its operand checks, and where the abort of an AMX instruction stands among its #UD
conditions, is the model's choice (DESIGN CHOICE, notes/assumptions/19.md); that alignment is checked before translation is R402's
order, which R406 marks as the decision D10 (DEDUCED, notes/assumptions/27.md). -/
def Obligations.TransactionsAndAlignment : Prop :=
  (∀ i s t, isAmx i = true → s.ctx.tsx = true → exec i s = .next t → t = s.tsxAbort ∨ t = s.takeTrap udTrap) ∧
  (∀ op sz m r s as, hasRaoInt s.cfg = true → s.ctx.tsx = true → raoCheck s m (raoWidth sz) = .ok as →
    exec (raoInstr op sz m r) s = .next s.tsxAbort) ∧
  (∀ i s t c r, isAmx i = true → s.delivered = none → exec i s = .next t → t.delivered ≠ some (.exception 17 c r)) ∧
  (∀ op sz m r s e, hasRaoInt s.cfg = true → raoCheck s m (raoWidth sz) = .error e →
    exec (raoInstr op sz m r) s = .next (s.takeTrap e)) ∧
  (∀ op sz m r s e, hasRaoInt s.cfg = true → checkLinear s (segOf m) (s.ea m) (raoWidth sz) true = .error e →
    exec (raoInstr op sz m r) s = .next (s.takeTrap e) ∧ (e = gpTrap s ∨ segOf m = .ss ∧ e = ssTrap s)) ∧
  (∀ op sz m r s la, hasRaoInt s.cfg = true → checkLinear s (segOf m) (s.ea m) (raoWidth sz) true = .ok la →
    (la.toNat % raoWidth sz = 0 → ∀ e, translateBytes s .write false (raoWidth sz) la = .error e →
      exec (raoInstr op sz m r) s = .next (s.takeTrap e) ∧ ∃ a code, e = .page a code) ∧
    (la.toNat % raoWidth sz ≠ 0 →
      (s.ctx.tsx = true ∨ ∃ e, translateBytes s .write false (raoWidth sz) la = .error e) →
      exec (raoInstr op sz m r) s = .next (s.takeTrap (gpTrap s))) ∧
    (la.toNat % raoWidth sz = 0 → s.ctx.tsx = true → ∀ as, translateBytes s .write false (raoWidth sz) la = .ok as →
      (∃ a ∈ as, memType s.cfg a ≠ .wb) → exec (raoInstr op sz m r) s = .next (s.takeTrap (gpTrap s))))

/-- With IA32_XFD[18] set no instruction that touches tile data completes, and #NM records the component (R561, R585, R825). That the
record is bit 18 of IA32_XFD_ERR is marked as general knowledge in R825 and is the model's (PRESUMED, notes/assumptions/9.md). -/
def Obligations.TileDataDisabled : Prop :=
  (∀ i s t, touchesTileData i = true → s.ctx.tsx = false → bitAt (s.msrVal 0x1C4) 18 = true → exec i s = .next t →
    t = s.takeTrap udTrap ∨ t = s.takeTrap nmTrap ∨ t = s.takeTrap .xfd) ∧
  (∀ s : State, (s.takeTrap .xfd).delivered = some (.exception 7 none s.rip) ∧ bitAt ((s.takeTrap .xfd).msrVal 0x1C5) 18 = true)

/-! ## Remote atomic operations -/

/-- AADD, AAND, AOR and AXOR with a legal destination post exactly one update, in program order, and change nothing else: no
flag, no register, and memory not yet (R130, R402, R408 to R411). -/
def Obligations.RaoPosts : Prop :=
  ∀ op sz m r s la as, hasRaoInt s.cfg = true → s.ctx.tsx = false →
    checkLinear s (segOf m) (s.ea m) (raoWidth sz) true = .ok la → la.toNat % raoWidth sz = 0 →
    translateBytes s .write false (raoWidth sz) la = .ok as → (∀ a ∈ as, memType s.cfg a = .wb) →
    exec (raoInstr op sz m r) s = .next { s with rip := s.nextRip, rao := s.rao ++ [⟨op, as, raoSrc sz (s.reg r)⟩] }

/-- Outside a transaction, and at an address that the segment and the translation allow, a misaligned RAO destination is #GP(0), #GP
in real-address mode, whatever CR0.AM, RFLAGS.AC, CPL and the memory types (R404), and an aligned one with a byte that is not in
write-back memory is #GP (R405). No other condition of R406 holds there, so no order of the checks is assumed; what happens inside a
transaction or where the translation fails is in TransactionsAndAlignment. -/
def Obligations.RaoTraps : Prop :=
  ∀ op sz m r s la as, hasRaoInt s.cfg = true → s.ctx.tsx = false →
    checkLinear s (segOf m) (s.ea m) (raoWidth sz) true = .ok la →
    translateBytes s .write false (raoWidth sz) la = .ok as →
    (la.toNat % raoWidth sz ≠ 0 →
      exec (raoInstr op sz m r) s = .next (s.takeTrap (.exn .gp (if s.mode = .real then none else some 0)))) ∧
    (la.toNat % raoWidth sz = 0 → (∃ a ∈ as, memType s.cfg a ≠ .wb) →
      exec (raoInstr op sz m r) s = .next (s.takeTrap (gpTrap s)))

/-- Performing a posted update replaces the little-endian value of its location by `old op source`, cut to the location's
width, and leaves every other byte (R130). A load first forces the posted updates it must follow: it then reads what performing all
of them in program order gives, and memory as seen does not change (R131 (a)).
The program order among the updates that a load forces is the model's reading (DESIGN CHOICE, notes/assumptions/12.md). -/
def Obligations.PostedUpdates : Prop :=
  (∀ m e, e.bytes.Nodup →
    leNat (readBytes (raoPerform m e) e.bytes) =
      (e.op.apply (leVal 64 (readBytes m e.bytes)) e.src).toNat % 256 ^ e.bytes.length ∧
    ∀ a, a ∉ e.bytes → readByte (raoPerform m e) a = readByte m a) ∧
  (∀ s as, readBytes (s.raoForce as).mem as = readBytes s.seen as ∧ sameMemory s (s.raoForce as))

/-! ## Read-shared loads -/

/-- MOVRS with an accessible operand loads it: a byte register takes the byte; a 16-bit destination keeps its upper bits, a
32-bit one is zero-extended, a 64-bit one is replaced (R421, R422). PREFETCHRST2 changes nothing but RIP, whatever its operand
(R432). -/
def Obligations.MovrsLoads : Prop :=
  (∀ d m s as, s.is64 = true → hasMovrs s.cfg = true → accessBytes s (segOf m) (s.ea m) 1 .read true = .ok as →
    ∃ t, exec (.movrsB d m) s = .next t ∧ loadsOnly s t ∧
      t = { s with rip := s.nextRip, gpr := t.gpr, mem := t.mem, rao := t.rao, monitor := t.monitor } ∧
      t.reg8 d = (readBytes s.seen as).headD 0 ∧ t.gpr = (s.setReg8 d ((readBytes s.seen as).headD 0)).gpr) ∧
  (∀ sz d m s as, s.is64 = true → hasMovrs s.cfg = true →
    accessBytes s (segOf m) (s.ea m) (opWidth sz) .read true = .ok as →
    ∃ t, exec (.movrsV sz d m) s = .next t ∧ loadsOnly s t ∧
      t = { s with rip := s.nextRip, gpr := t.gpr, mem := t.mem, rao := t.rao, monitor := t.monitor } ∧
      (∀ g, g ≠ d → t.reg g = s.reg g) ∧
      t.reg d = (match sz with
        | .o16 => (s.reg d &&& 0xFFFFFFFFFFFF0000) ||| leVal 64 (readBytes s.seen as)
        | _ => leVal 64 (readBytes s.seen as))) ∧
  (∀ m s, exec (.prefetchrst2 m) s = .next { s with rip := s.nextRip })

/-- Where MOVRS and VMOVRS trap: #UD without the feature or the enabled state (R423, R429); #NM with CR0.TS set, of VMOVRS (R825);
an operand or a participating element with a byte at a non-canonical address is #SS(0) through SS and #GP(0) otherwise (R123, R822,
R824); a misaligned address under alignment checking is #AC(0) (R826); else the first failing translation is its #PF (R124).
Not the source's words: the conditions of class E4, and #NM with CR0.TS set, are general knowledge in R429 and R825 (PRESUMED,
notes/assumptions/28.md and 9.md), and the order canonical form, alignment, translation, and #AC(0) of VMOVRS on a vector that is
not aligned to its whole size, are the model's reading of R424, R429, R826, R828, D7 and D10 (DEDUCED and DESIGN CHOICE,
notes/assumptions/28.md). -/
def Obligations.MovrsTraps : Prop :=
  (∀ s i m n, s.is64 = true → ((∃ d, i = .movrsB d m) ∧ n = 1 ∨ ∃ sz d, i = .movrsV sz d m ∧ n = opWidth sz) →
    (hasMovrs s.cfg = false → exec i s = .next (s.takeTrap udTrap)) ∧
    (hasMovrs s.cfg = true →
      let la := s.linear (segOf m) (s.ea m)
      (canonical s.cfg la = false ∨ canonical s.cfg (la + BitVec.ofNat 64 (n - 1)) = false → exec i s =
        .next (s.takeTrap (.exn (if segOf m = .ss then .ss else .gp) (some 0)))) ∧
      (canonical s.cfg la = true → canonical s.cfg (la + BitVec.ofNat 64 (n - 1)) = true →
        (s.acEnabled = true → la.toNat % n ≠ 0 → exec i s = .next (s.takeTrap (.exn .ac (some 0)))) ∧
        (s.acEnabled = false ∨ la.toNat % n = 0 → ∀ e, translateBytes s .read false n la = .error e →
          exec i s = .next (s.takeTrap e))))) ∧
  (∀ f ∈ vmovrsForms, ∀ d k z m s,
    (s.is64 = false ∨ bitAt s.sys.cr4 18 = false ∨ s.sys.xcr0 &&& 0xE6 ≠ 0xE6 ∨ hasMovrs s.cfg = false ∨
        hasAvx102 s.cfg = false ∨ vlSupported s.cfg f.2.1 = false →
      exec (f.2.2 d k z m) s = .next (s.takeTrap udTrap)) ∧
    (vmovrsOk s f.2.1 = true →
      let la := fun j => s.linear (segOf m) (s.ea m) + BitVec.ofNat 64 (j * (f.1 / 8))
      let isIn := fun a => canonical s.cfg a = true ∧ canonical s.cfg (a + BitVec.ofNat 64 (f.1 / 8 - 1)) = true
      (bitAt s.sys.cr0 3 = true → exec (f.2.2 d k z m) s = .next (s.takeTrap nmTrap)) ∧
      (bitAt s.sys.cr0 3 = false →
        (∀ j, takesPart s k (f.2.1 / f.1) j → ¬ isIn (la j) → exec (f.2.2 d k z m) s =
          .next (s.takeTrap (.exn (if segOf m = .ss then .ss else .gp) (some 0)))) ∧
        ((∀ j, takesPart s k (f.2.1 / f.1) j → isIn (la j)) →
          (∀ j, takesPart s k (f.2.1 / f.1) j → s.acEnabled = true → (la 0).toNat % (f.2.1 / 8) ≠ 0 →
            exec (f.2.2 d k z m) s = .next (s.takeTrap (.exn .ac (some 0)))) ∧
          (s.acEnabled = false ∨ (la 0).toNat % (f.2.1 / 8) = 0 → ∀ j e, takesPart s k (f.2.1 / f.1) j →
            (∀ q, q < j → takesPart s k (f.2.1 / f.1) q → ∃ as, translateBytes s .read false (f.1 / 8) (la q) = .ok as) →
            translateBytes s .read false (f.1 / 8) (la j) = .error e →
            exec (f.2.2 d k z m) s = .next (s.takeTrap e))))))

/-- VMOVRSB, VMOVRSW, VMOVRSD and VMOVRSQ of every length: an element whose mask bit is set is loaded, another is zeroed or
kept, the bits above the vector are zero; only elements that take part must be accessible (R424 to R429).
The conditions of class E4, here premises, are general knowledge in R429 (PRESUMED, notes/assumptions/28.md). -/
def Obligations.VmovrsLoads : Prop :=
  ∀ f ∈ vmovrsForms, ∀ d k z m s (phys : Nat → List Nat), vmovrsOk s f.2.1 = true → bitAt s.sys.cr0 3 = false →
    (∀ j, takesPart s k (f.2.1 / f.1) j →
      (∃ la, checkLinear s (segOf m) (s.ea m + BitVec.ofNat 64 (j * (f.1 / 8))) (f.1 / 8) false = .ok la) ∧
      translateBytes s .read false (f.1 / 8) (s.linear (segOf m) (s.ea m) + BitVec.ofNat 64 (j * (f.1 / 8))) =
        .ok (phys j)) →
    (s.acEnabled = false ∨ (s.linear (segOf m) (s.ea m)).toNat % (f.2.1 / 8) = 0 ∨
      ∀ j, ¬ takesPart s k (f.2.1 / f.1) j) →
    ∃ t, exec (f.2.2 d k z m) s = .next t ∧ loadsOnly s t ∧
      t = { s with rip := s.nextRip, vec := t.vec, mem := t.mem, rao := t.rao, monitor := t.monitor } ∧
      t.vec.k = s.vec.k ∧ t.vec.mxcsr = s.vec.mxcsr ∧ (∀ q, q ≠ d → t.zmm q = s.zmm q) ∧
      (∀ j, j < f.2.1 / f.1 → (t.zmm d).extractLsb' (f.1 * j) f.1 =
        if s.maskBit k j then leVal f.1 (readBytes s.seen (phys j))
        else if z then 0 else (s.zmm d).extractLsb' (f.1 * j) f.1) ∧
      t.zmm d >>> f.2.1 = 0

/-! ## CPUID -/

/-- CPUID writes the answer for the old EAX and ECX, zero-extended, into RAX, RBX, RCX and RDX, performs every posted update
(R134), loads the microcode revision (R223), and changes nothing else (R220). A leaf outside both ranges answers as the highest
basic leaf, and an invalid sub-leaf of leaf 7 with zeros (R221); leaf 1 mirrors CR4.OSXSAVE in ECX[27] and leaf 7 CR4.PKE in
ECX[4] (R229, R262). Flags imply what they need: UTMR comes with UINTR (R353), and MONITOR and MWAIT with a leaf 05H that is no row of
zeros (R528), and SGX, RDT-A, Hybrid, PCONFIG, ArchPerfmonExt, HRESET and AVX10 with leaf 12H, 10H, 1AH, 1BH, 23H, 20H and 24H (R261,
R263, R264, R266, R281, R283, R291, R292); the brand string ends with NUL (R345). That the dependent flag gives way in a configuration that says otherwise, and
what makes leaf 05H supported, are the model's (DEDUCED and DESIGN CHOICE, notes/assumptions/45.md). -/
def Obligations.CpuidAnswers : Prop :=
  (∀ s, ∃ t, exec .cpuid s = .next t ∧
    t = { s with rip := s.nextRip, gpr := t.gpr, msr := t.msr, mem := s.seen, rao := [], monitor := t.monitor } ∧
    holdsAnswer t (cpuidAnswer s (s.reg32 .rax).toNat (s.reg32 .rcx).toNat) ∧
    (∀ g, g ∉ [Gpr.rax, Gpr.rbx, Gpr.rcx, Gpr.rdx] → t.reg g = s.reg g) ∧
    (∀ a, a ≠ 0x8B → t.msrVal a = s.msrVal a) ∧
    t.msrVal 0x8B = s.cfg.microcodeRev ++ (s.msrVal 0x8B).setWidth 32) ∧
  (∀ s leaf sub, maxBasic s < leaf → ¬ (0x80000000 ≤ leaf ∧ leaf ≤ (cpuidCfg s.cfg 0x80000000 0).eax.toNat) →
    cpuidAnswer s leaf sub = cpuidAnswer s (maxBasic s) sub) ∧
  (∀ s sub, 7 ≤ maxBasic s → (cpuidAnswer s 7 0).eax.toNat < sub → emptyRow (cpuidAnswer s 7 sub)) ∧
  (∀ s sub, 1 ≤ maxBasic s → bitAt (cpuidAnswer s 1 sub).ecx 27 = bitAt s.sys.cr4 18) ∧
  (∀ s, 7 ≤ maxBasic s → bitAt (cpuidAnswer s 7 0).ecx 4 = bitAt s.sys.cr4 22) ∧
  (∀ s, bitAt (cpuidLeaf s 7 1).edx 13 = true → bitAt (cpuidLeaf s 7 0).edx 5 = true) ∧
  (∀ s, monitorFlag s = true ∨ mwaitFlag s = true → ¬ emptyRow (cpuidLeaf s 5 0)) ∧
  (∀ s, fieldOf (cpuidLeaf s 0x80000004 0).edx 31 24 = 0) ∧
  (∀ s, let last := (cpuidCfg s.cfg 0 0).eax.toNat
    (bitAt (cpuidLeaf s 7 0).ebx 2 = true → 0x12 ≤ last) ∧ (bitAt (cpuidLeaf s 7 0).ebx 15 = true → 0x10 ≤ last) ∧
    (bitAt (cpuidLeaf s 7 0).edx 15 = true → 0x1A ≤ last ∧ (cpuidLeaf s 0x1A 0).eax ≠ 0) ∧
    (bitAt (cpuidLeaf s 7 0).edx 18 = true → 0x1B ≤ last) ∧ (bitAt (cpuidLeaf s 7 1).eax 8 = true → 0x23 ≤ last) ∧
    (bitAt (cpuidLeaf s 7 1).eax 22 = true → 0x20 ≤ last) ∧ (bitAt (cpuidLeaf s 7 1).edx 19 = true → 0x24 ≤ last))

/-! ## Keys -/

/-- PBNDKB with legal structures binds the keys, unless entropy or the platform fails it: ZF set, memory unchanged, and RAX 1 for a
lack of entropy or the platform's reason. Bound: RAX is 0, ZF clear, and the output structure is a bind structure under the
challenge's wrapping key, holding the given keys if random mixing was not asked for; no byte outside it changes (R451, R452). R452
gives a platform-specific failure no place among the steps: that it comes before the entropy, so that both a lack of entropy and
success need none, is the model's choice, and so is which failure occurs (DESIGN CHOICE, notes/assumptions/30.md). -/
def Obligations.PbndkbBinds : Prop :=
  ∀ s ins outs, hasPbndkb s.cfg = true → s.cpl = 0 → s.is64 = true → (s.nonRoot = false ∨ s.tertiary 9 = true) →
    (s.reg .rbx).toNat % 256 = 0 → (s.reg .rcx).toNat % 256 = 0 → s.reg .rbx ≠ s.reg .rcx →
    accessBytes s .ds (s.reg .rbx) 256 .read false = .ok ins → canonical s.cfg (s.reg .rbx) = true →
    accessBytes s .ds (s.reg .rcx) 256 .write false = .ok outs → canonical s.cfg (s.reg .rcx) = true → outs.Nodup →
    bindOk (readBytes s.seen ins) = true →
    ∃ t, exec .pbndkb s = .next t ∧
      t = { s with rip := s.nextRip, gpr := t.gpr, rflags := t.rflags, mem := t.mem, rao := t.rao, monitor := t.monitor,
                   draws := t.draws } ∧
      (∀ g, g ≠ .rax → t.reg g = s.reg g) ∧ keyFlagsOnly s t ∧
      (∀ a, a ∉ outs → readByte t.seen a = readByte s.seen a) ∧
      ((zf t = true ∧ sameMemory s t ∧
          ((∃ w, platformFailure s = some w ∧ t.reg .rax = w.setWidth 64) ∨
            (platformFailure s = none ∧ t.reg .rax = 1 ∧ ∃ n, Config.rngOk n = false))) ∨
        (zf t = false ∧ t.reg .rax = 0 ∧ platformFailure s = none ∧ ∃ iv plain,
          readBytes t.seen outs = bindOutput (wrappingKey (sliceVal (readBytes s.seen ins) 128 32)) iv plain
            (slice (readBytes s.seen ins) 128 128) ((readBytes s.seen ins).getD 160 0) ∧
          ((sliceVal (readBytes s.seen ins) 160 1).toNat = 0 → plain = sliceVal (readBytes s.seen ins) 64 64)))

/-- PCONFIG programs keys, or fails with no slot changed. Leaves 1 and 2 with legal operands: with the lock of the table free the
slot is programmed, RAX is 0 and ZF clear; with it held RAX is 5, ZF set and no slot changed; leaf 2 with a wrong MAC answers 7
(R475, R477, R479). Leaf 0 with a legal structure: the lock free, RAX 0, ZF clear and the slot of the KeyID as the command says, no
other slot changed; only command 1 can fail, for lack of entropy, with error 2; the lock held, error 5, ZF set and no slot changed
(R473, R478, R479). A leaf above 2 is #GP(0) (R470). Model's choices (DESIGN CHOICE, notes/assumptions/31.md): whether the lock is
free is a free value; a slot with the TME default or without encryption holds zeros as its algorithm and keys, where R473 and R475
give only the mode; and every algorithm takes the whole 64-byte key fields, since the source gives no key size. -/
def Obligations.PconfigPrograms : Prop :=
  (∀ s as, hasPconfig s.cfg = true → s.cpl = 0 → s.is64 = true → pconfigTarget s.cfg 2 = true →
    (s.reg32 .rax = 1 → (s.reg .rbx).toNat % 256 = 0 → accessBytes s .ds (s.reg .rbx) 192 .read false = .ok as →
      tseOk s (readBytes s.seen as) = true →
      ∃ t, exec .pconfig s = .next t ∧ loadsOnly s t ∧ keyFlagsOnly s t ∧ (∀ g, g ≠ .rax → t.reg g = s.reg g) ∧
        t = { s with rip := s.nextRip, gpr := t.gpr, rflags := t.rflags, mem := t.mem, rao := t.rao,
                     monitor := t.monitor, draws := t.draws, tse := t.tse } ∧
        if Config.tryLock s.draws then t.reg .rax = 0 ∧ zf t = false ∧
          t.tse = Store.put KeySlot.unprogrammed s.tse (keyId (readBytes s.seen as)) (tseSlot (readBytes s.seen as))
        else t.reg .rax = 5 ∧ zf t = true ∧ t.tse = s.tse) ∧
    (s.reg32 .rax = 2 → wrappedArgsOk s = true → accessBytes s .ds (s.reg .rcx) 256 .read false = .ok as →
      bindOk (readBytes s.seen as) = true →
      ∃ t, exec .pconfig s = .next t ∧ loadsOnly s t ∧ keyFlagsOnly s t ∧ (∀ g, g ≠ .rax → t.reg g = s.reg g) ∧
        t = { s with rip := s.nextRip, gpr := t.gpr, rflags := t.rflags, mem := t.mem, rao := t.rao,
                     monitor := t.monitor, draws := t.draws, tse := t.tse } ∧
        if unwrapMac (readBytes s.seen as) = leVal 128 (slice (readBytes s.seen as) 0 16) then
          if Config.tryLock s.draws then t.reg .rax = 0 ∧ zf t = false ∧ t.tse =
            Store.put KeySlot.unprogrammed s.tse (fieldOf (s.reg .rbx) 15 0) (wrappedSlot s (readBytes s.seen as))
          else t.reg .rax = 5 ∧ zf t = true ∧ t.tse = s.tse
        else t.reg .rax = 7 ∧ zf t = true ∧ t.tse = s.tse)) ∧
  (∀ s as, hasPconfig s.cfg = true → s.cpl = 0 → s.mode ≠ .v86 → s.reg32 .rax = 0 → pconfigTarget s.cfg 1 = true →
    tmeReady s = true → (s.linear .ds (s.pconfigOff .rbx)).toNat % 256 = 0 →
    accessBytes s .ds (s.pconfigOff .rbx) 192 .read false = .ok as → mktmeOk s (readBytes s.seen as) = true →
    ∃ t, exec .pconfig s = .next t ∧ loadsOnly s t ∧ keyFlagsOnly s t ∧ (∀ g, g ≠ .rax → t.reg g = s.reg g) ∧
      t = { s with rip := s.nextRip, gpr := t.gpr, rflags := t.rflags, mem := t.mem, rao := t.rao,
                   monitor := t.monitor, draws := t.draws, tmemk := t.tmemk } ∧
      if Config.tryLock s.draws then
        (zf t = true ∧ t.tmemk = s.tmemk ∧ t.reg32 .rax = 2 ∧ keyCommand (readBytes s.seen as) = 1 ∧
          ∃ n, Config.rngOk n = false) ∨
        (zf t = false ∧ t.reg32 .rax = 0 ∧
          (∀ k, k ≠ keyId (readBytes s.seen as) →
            Store.get KeySlot.unprogrammed t.tmemk k = Store.get KeySlot.unprogrammed s.tmemk k) ∧
          slotProgrammed (readBytes s.seen as) (Store.get KeySlot.unprogrammed t.tmemk (keyId (readBytes s.seen as))))
      else zf t = true ∧ t.tmemk = s.tmemk ∧ t.reg32 .rax = 5) ∧
  (∀ s, hasPconfig s.cfg = true → s.cpl = 0 → s.mode ≠ .v86 → 2 < (s.reg32 .rax).toNat →
    exec .pconfig s = .next (s.takeTrap (gpTrap s)))

/-! ## Model-specific registers and MWAIT -/

/-- RDMSR of an existing MSR that causes no VM exit: EDX:EAX, zero-extended, or the named register takes its value (R501 to
R503). An MSR that does not exist is #GP(0) in every form (R500). -/
def Obligations.RdmsrReads : Prop :=
  (∀ s, hasMsr s.cfg = true → implicitOk s = true → s.msrExits (s.reg32 .rcx).toNat false = false →
    (msrExists s (s.reg32 .rcx).toNat = true → ∃ t, exec .rdmsr s = .next t ∧
      t = { s with rip := s.nextRip, gpr := t.gpr, draws := t.draws } ∧
      t.reg .rax = ((msrValue s (s.reg32 .rcx).toNat).setWidth 32).setWidth 64 ∧
      t.reg .rdx = ((msrValue s (s.reg32 .rcx).toNat).extractLsb' 32 32).setWidth 64 ∧
      ∀ g, g ≠ .rax → g ≠ .rdx → t.reg g = s.reg g) ∧
    (msrExists s (s.reg32 .rcx).toNat = false → exec .rdmsr s = .next (s.takeTrap (gpTrap s)))) ∧
  (∀ s d n, s.is64 = true → hasMsrImm s.cfg = true → s.cpl = 0 → s.msrExits n.toNat false = false →
    (msrExists s n.toNat = true → ∃ t, exec (.rdmsrImm d n) s = .next t ∧
      t = { s with rip := s.nextRip, gpr := t.gpr, draws := t.draws } ∧
      t.reg d = msrValue s n.toNat ∧ (∀ g, g ≠ d → t.reg g = s.reg g) ∧
      (hasApx s.cfg = true → exec (.rdmsrImmApx d n) s = .next t)) ∧
    (msrExists s n.toNat = false → exec (.rdmsrImm d n) s = .next (s.takeTrap (gpTrap s)) ∧
      (hasApx s.cfg = true → exec (.rdmsrImmApx d n) s = .next (s.takeTrap (gpTrap s)))))

/-- WRMSRNS of a permitted value that causes no VM exit: the MSR is written at once, nothing posted is performed and no general
register changes (R133, R520 to R522). A value or an address that is not permitted is #GP(0) in every form and writes nothing (R500,
R523). An ordinary MSR
then reads as what was written, and every other MSR as before (R44, R500). A throttle register takes a value exactly if each of its
eight levels is in range and zero for a class that does not exist (R723, D32). -/
def Obligations.WrmsrnsWrites : Prop :=
  (∀ s, hasWrmsrns s.cfg = true → implicitOk s = true → s.msrExits (s.reg32 .rcx).toNat true = false →
    (msrWriteOk s (s.reg32 .rcx).toNat s.edxEax = true →
      exec .wrmsrns s = .next { s.msrWritten (s.reg32 .rcx).toNat s.edxEax with rip := s.nextRip }) ∧
    (msrWriteOk s (s.reg32 .rcx).toNat s.edxEax = false → exec .wrmsrns s = .next (s.takeTrap (gpTrap s)))) ∧
  (∀ s n v, s.is64 = true → hasMsrImm s.cfg = true → s.cpl = 0 → s.msrExits n.toNat true = false →
    (msrWriteOk s n.toNat (s.reg v) = true →
      exec (.wrmsrnsImm n v) s = .next { s.msrWritten n.toNat (s.reg v) with rip := s.nextRip } ∧
      (hasApx s.cfg = true →
        exec (.wrmsrnsImmApx n v) s = .next { s.msrWritten n.toNat (s.reg v) with rip := s.nextRip })) ∧
    (msrWriteOk s n.toNat (s.reg v) = false →
      exec (.wrmsrnsImm n v) s = .next (s.takeTrap (gpTrap s)) ∧
      (hasApx s.cfg = true → exec (.wrmsrnsImmApx n v) s = .next (s.takeTrap (gpTrap s))))) ∧
  (∀ (s : State) (a : Nat) (v : W64), (s.msrWritten a v).mem = s.mem ∧ (s.msrWritten a v).rao = s.rao ∧ (s.msrWritten a v).gpr = s.gpr ∧
    (s.msrWritten a v).rflags = s.rflags ∧ (s.msrWritten a v).vec = s.vec ∧ (s.msrWritten a v).amx = s.amx ∧
    ∀ b, b ≠ msrHome a → b ≠ 0x38E → (s.msrWritten a v).msrVal b = s.msrVal b) ∧
  (∀ (s : State) a v, ordinaryMsr (msrHome a) → msrDesc s.cfg (msrHome a) = none →
    msrValue (s.msrWritten a v) a = v ∧
    s.msrWritten a v = { s with msr := (s.msrWritten a v).msr } ∧
    ∀ b, ordinaryMsr (msrHome b) → msrHome b ≠ msrHome a → msrValue (s.msrWritten a v) b = msrValue s b) ∧
  (∀ s a v, cbaMsr s.cfg a = true →
    (msrWriteOk s a v = true ↔ ∀ j, j < 8 → fieldOf v (8 * j + 7) (8 * j) ≤ cbaMaxLevel s.cfg ∧
      (cbaMaxCos s.cfg < 8 * (a - 0xE00) + j → fieldOf v (8 * j + 7) (8 * j) = 0)))

/-- URDMSR at any privilege level, the bitmap's read bit set and no VM exit: the destination takes the MSR's value (R505, R506).
UWRMSR at any privilege level, the bitmap's write bit set, an MSR of Table 2-7 and no VM exit: the MSR is written (R510, R511). -/
def Obligations.UserMsrAccess : Prop :=
  (∀ s d a, userMsrOk s = true → a < 0x4000 → bitmapBit s false a true → msrExists s a = true →
    s.userMsrExits a false = false →
    (∀ g, s.reg g = BitVec.ofNat 64 a → ∃ t, exec (.urdmsr d g) s = .next t ∧ loadsOnly s t ∧
      t = { s with rip := s.nextRip, gpr := t.gpr, mem := t.mem, rao := t.rao, monitor := t.monitor, draws := t.draws } ∧
      t.reg d = msrValue s a ∧ ∀ q, q ≠ d → t.reg q = s.reg q) ∧
    (∃ t, exec (.urdmsrImm d (BitVec.ofNat 32 a)) s = .next t ∧ loadsOnly s t ∧
      t = { s with rip := s.nextRip, gpr := t.gpr, mem := t.mem, rao := t.rao, monitor := t.monitor, draws := t.draws } ∧
      t.reg d = msrValue s a ∧ ∀ q, q ≠ d → t.reg q = s.reg q)) ∧
  (∀ s v a, userMsrOk s = true → (a = 0x1B00 ∨ a = 0x1B01) → bitmapBit s true a true →
    msrWriteOk s a (s.reg v) = true → s.userMsrExits a true = false →
    (∀ g, s.reg g = BitVec.ofNat 64 a → ∃ t, exec (.uwrmsr g v) s = .next t ∧ loadsOnly s t ∧
      t = { s.msrWritten a (s.reg v) with rip := s.nextRip, mem := t.mem, rao := t.rao, monitor := t.monitor }) ∧
    (∃ t, exec (.uwrmsrImm (BitVec.ofNat 32 a) v) s = .next t ∧ loadsOnly s t ∧
      t = { s.msrWritten a (s.reg v) with rip := s.nextRip, mem := t.mem, rao := t.rao, monitor := t.monitor }))

/-- Where URDMSR and UWRMSR trap, in their register and immediate forms: #UD when disabled; #GP(0) for an address above 3FFFH, the
bitmap not read; the page fault of the bitmap read (D25); #GP(0) where the bitmap bit is 0; #GP(0) for URDMSR of an MSR that does
not exist; #GP(0) for UWRMSR of an MSR that Table 2-7 does not list or of a value that is not permitted (R500, R505, R506, R510,
R511, R821, R822). -/
def Obligations.UserMsrTraps : Prop :=
  ∀ s d i j w, (∃ a, i = .urdmsr d a ∧ j = .uwrmsr a d ∧ w = s.reg a) ∨
      (∃ n : W32, i = .urdmsrImm d n ∧ j = .uwrmsrImm n d ∧ w = n.setWidth 64) →
    (userMsrOk s = false → exec i s = .next (s.takeTrap udTrap) ∧ exec j s = .next (s.takeTrap udTrap)) ∧
    (userMsrOk s = true → 0x4000 ≤ w.toNat →
      exec i s = .next (s.takeTrap (gpTrap s)) ∧ exec j s = .next (s.takeTrap (gpTrap s))) ∧
    (userMsrOk s = true → w.toNat < 0x4000 →
      let map := fun b => (s.msrVal 0x1C &&& 0xFFFFFFFFFFFFF000) + BitVec.ofNat 64 (b + w.toNat / 8)
      (∀ e, translateBytes s .read true 1 (map 0) = .error e → exec i s = .next (s.takeTrap e)) ∧
      (∀ e, translateBytes s .read true 1 (map 2048) = .error e → exec j s = .next (s.takeTrap e)) ∧
      (bitmapBit s false w.toNat false ∨ (bitmapBit s false w.toNat true ∧ msrExists s w.toNat = false) →
        ∃ t, exec i s = .next t ∧
          t.delivered = some (.exception 13 (some 0) s.rip) ∧ t.gpr = s.gpr ∧ sameMemory s t) ∧
      (bitmapBit s true w.toNat false ∨ (bitmapBit s true w.toNat true ∧ w.toNat ≠ 0x1B00 ∧ w.toNat ≠ 0x1B01) ∨
          (bitmapBit s true w.toNat true ∧ msrWriteOk s w.toNat (s.reg d) = false) →
        ∃ t, exec j s = .next t ∧ t.delivered = some (.exception 13 (some 0) s.rip) ∧ t.gpr = s.gpr ∧
          sameMemory s t ∧ t.msr = s.msr))

/-- VM exits of the MSR instructions in VMX non-root operation. URDMSR and UWRMSR, the user bitmap and the MSR permitting, exit
without MSR bitmaps, above 1FFFH, or where the bitmap's bit is 1: reason 80 or 81, the address as the qualification, the data
register in bits 6:3 of the instruction information; in an enclave they are #GP(0) instead (R507). That RDMSR and WRMSRNS exit
likewise, without bitmaps, outside both ranges or by the bitmap's bit, with reasons 31 and 32 and the immediate of the immediate forms
as the qualification, is the base architecture's (PRESUMED,
notes/assumptions/17.md); their instruction information, which the spec does not give, is a free value, of which nothing is said. -/
def Obligations.MsrExits : Prop :=
  (∀ s d i j w a, (∃ g, i = .urdmsr d g ∧ j = .uwrmsr g d ∧ w = s.reg g) ∨
      (∃ n : W32, i = .urdmsrImm d n ∧ j = .uwrmsrImm n d ∧ w = n.setWidth 64) →
    w = BitVec.ofNat 64 a → a < 0x4000 → userMsrOk s = true → s.nonRoot = true →
    (bitmapBit s false a true → msrExists s a = true →
      (s.vmcs.useMsrBitmaps = false ∨ 0x1FFF < a ∨ s.msrBitmapBit 0 a = true) →
      (s.ctx.enclave = .none → ∃ t, exec i s = .next t ∧ msrExited s t 80 a ∧ fieldOf t.vmcs.exitInfo 6 3 = d.code) ∧
      (s.ctx.enclave ≠ .none → ∃ t, exec i s = .next t ∧ t.delivered = some (.exception 13 (some 0) s.rip) ∧ t.gpr = s.gpr)) ∧
    (bitmapBit s true a true → (a = 0x1B00 ∨ a = 0x1B01) → msrWriteOk s a (s.reg d) = true →
      (s.vmcs.useMsrBitmaps = false ∨ s.msrBitmapBit 2048 a = true) →
      (s.ctx.enclave = .none → ∃ t, exec j s = .next t ∧ msrExited s t 81 a ∧ fieldOf t.vmcs.exitInfo 6 3 = d.code) ∧
      (s.ctx.enclave ≠ .none → ∃ t, exec j s = .next t ∧ t.delivered = some (.exception 13 (some 0) s.rip) ∧ t.msr = s.msr))) ∧
  (∀ s a, s.nonRoot = true → s.cpl = 0 → s.mode ≠ .v86 →
    (exitsByBitmap s a 0 1024 →
      ((s.reg32 .rcx).toNat = a → hasMsr s.cfg = true → ∃ t, exec .rdmsr s = .next t ∧ msrExited s t 31 0) ∧
      (∀ d (n : W32), n.toNat = a → s.is64 = true → hasMsrImm s.cfg = true →
        ∃ t, exec (.rdmsrImm d n) s = .next t ∧ msrExited s t 31 a ∧
          (hasApx s.cfg = true → exec (.rdmsrImmApx d n) s = .next t))) ∧
    (exitsByBitmap s a 2048 3072 →
      ((s.reg32 .rcx).toNat = a → hasWrmsrns s.cfg = true → ∃ t, exec .wrmsrns s = .next t ∧ msrExited s t 32 0) ∧
      (∀ d (n : W32), n.toNat = a → s.is64 = true → hasMsrImm s.cfg = true →
        ∃ t, exec (.wrmsrnsImm n d) s = .next t ∧ msrExited s t 32 a ∧
          (hasApx s.cfg = true → exec (.wrmsrnsImmApx n d) s = .next t))))

/-- IA32_UINTR_TIMER holds the deadline and the vector (R841): any value may be written, a read gives it back, bits 5:0 are the
vector and bits 63:6 the deadline; without UTMR the register does not exist. VMX non-root operation is R846's. -/
def Obligations.UserTimerMsr : Prop :=
  (∀ s v, hasUtmr s.cfg = true → s.nonRoot = false →
    msrWriteOk s 0x1B00 v = true ∧ msrValue (s.msrWritten 0x1B00 v) 0x1B00 = v ∧
    (s.msrWritten 0x1B00 v).userVector = v.toNat % 64 ∧
    (s.msrWritten 0x1B00 v).userDeadline = v &&& 0xFFFFFFFFFFFFFFC0) ∧
  (∀ s, hasUtmr s.cfg = false → msrExists s 0x1B00 = false)

/-- MWAIT with legal arguments ends, changing only the monitor, which a monitored wait leaves triggered; illegal arguments are
#GP(0) (R530; that the wait ends at once is the model's choice, DESIGN CHOICE, notes/assumptions/21.md). MONITOR with an accessible
address in write-back memory arms the monitor on the line that contains it, of a size between the two limits of CPUID leaf 05H (R65,
R536); in other memory it completes too, and a range that it arms is that line. R536 is marked as general knowledge there: that MONITOR
completes whatever ECX and EDX hold and arms the aligned line of the physical address is the model's choice (DEDUCED,
notes/assumptions/43.md), and so is that it may leave no range armed in memory that is not write-back (DESIGN CHOICE,
notes/assumptions/43.md). -/
def Obligations.MwaitAndMonitor : Prop :=
  (∀ s, mwaitOk s = true →
    (mwaitArgsOk s = true → ∃ t, exec .mwait s = .next t ∧
      t = { s with rip := s.nextRip, monitor := t.monitor, draws := t.draws } ∧
      (t.monitor = s.monitor ∨ t.monitor = { s.monitor with armed := false }) ∧
      (bitAt s.mwaitExt 2 = false → t.monitor.armed = false)) ∧
    (mwaitArgsOk s = false → exec .mwait s = .next (s.takeTrap (gpTrap s)))) ∧
  (∀ g z s as, s.mode ≠ .v86 → monitorEnabled s = true → monitorFlag s = true → s.cpl = 0 →
    accessBytes s (g.getD .ds) (truncAddr z (s.reg .rax)) 1 .read false = .ok as →
    ∃ t, exec (.monitor g z) s = .next t ∧ sameMemory s t ∧
      t = { s with rip := s.nextRip, mem := t.mem, rao := t.rao, monitor := t.monitor, draws := t.draws } ∧
      (memType s.cfg (as.headD 0) = .wb → t.monitor.armed = true ∧ t.draws = s.draws) ∧
      (t.monitor.armed = true →
        (0 < t.monitor.size → t.monitor.base ≤ as.headD 0 ∧ as.headD 0 < t.monitor.base + t.monitor.size) ∧
        (fieldOf (cpuidLeaf s 5 0).eax 15 0 ≤ fieldOf (cpuidLeaf s 5 0).ebx 15 0 →
          fieldOf (cpuidLeaf s 5 0).eax 15 0 ≤ t.monitor.size ∧ t.monitor.size ≤ fieldOf (cpuidLeaf s 5 0).ebx 15 0)))

/-! ## SM4 -/

/-- VSM4KEY4 and VSM4RNDS4 of every length and encoding: each lane of the destination holds the four rounds computed from the
lanes of the two sources, each round feeding the next; the bits above the vector are zero (R542 to R544). Without the features or the
enabled state, and in real-address and virtual-8086 mode, they are #UD (R545, R546); with CR0.TS set #NM (R825). The source only
names the classes 6 and E6: their conditions, and #NM with CR0.TS set, are general knowledge in R546 and R825 and PRESUMED by the
model (notes/assumptions/29.md and 9.md). The whole cipher that R547 builds out of the two operations on one lane is the standard's:
round key i comes from the four words before it and CK[i], state word i + 4 from the four before it and round key i, and the
ciphertext is the last four state words in reverse. R547 marks its constants FK and CK as general knowledge (PRESUMED,
notes/assumptions/29.md). -/
def Obligations.Sm4Rounds : Prop :=
  (∀ f ∈ sm4Forms, ∀ d a b s v, (if f.2.1 then sm4EvexOk s f.1 else sm4VexOk s) = true → bitAt s.sys.cr0 3 = false →
    sourceIs s f.1 b v →
    ∃ t, exec (f.2.2.2 d a b) s = .next t ∧ loadsOnly s t ∧
      t = { s with rip := s.nextRip, vec := t.vec, mem := t.mem, rao := t.rao, monitor := t.monitor } ∧
      t.vec.k = s.vec.k ∧ t.vec.mxcsr = s.vec.mxcsr ∧ (∀ q, q ≠ d → t.zmm q = s.zmm q) ∧ t.zmm d >>> f.1 = 0 ∧
      ∀ i, i < f.1 / 128 →
        let p := fun j => dwordAt (s.zmm a) (4 * i + j)
        let rk := fun j => dwordAt v (4 * i + j)
        let c := fun j => dwordAt (t.zmm d) (4 * i + j)
        c 0 = sm4F f.2.2.1 (p 0) (p 1) (p 2) (p 3) (rk 0) ∧ c 1 = sm4F f.2.2.1 (p 1) (p 2) (p 3) (c 0) (rk 1) ∧
        c 2 = sm4F f.2.2.1 (p 2) (p 3) (c 0) (c 1) (rk 2) ∧ c 3 = sm4F f.2.2.1 (p 3) (c 0) (c 1) (c 2) (rk 3)) ∧
  (∀ f ∈ sm4Forms, ∀ d a b s,
    (s.mode = .real ∨ s.mode = .v86 ∨ bitAt s.sys.cr4 18 = false ∨ hasSm4 s.cfg = false ∨
        (f.2.1 = false ∧ (s.sys.xcr0 &&& 6 ≠ 6 ∨ hasAvx s.cfg = false)) ∨
        (f.2.1 = true ∧ (s.sys.xcr0 &&& 0xE6 ≠ 0xE6 ∨ hasAvx102 s.cfg = false ∨ vlSupported s.cfg f.1 = false)) →
      exec (f.2.2.2 d a b) s = .next (s.takeTrap udTrap)) ∧
    ((if f.2.1 then sm4EvexOk s f.1 else sm4VexOk s) = true → bitAt s.sys.cr0 3 = true →
      exec (f.2.2.2 d a b) s = .next (s.takeTrap nmTrap))) ∧
  (∀ mk x y : Nat → W32,
    let k := fun i => if i < 4 then mk i ^^^ sm4Fk i else sm4RoundKey mk (i - 4)
    (∀ i, sm4RoundKey mk i = sm4F lKey (k i) (k (i + 1)) (k (i + 2)) (k (i + 3)) (sm4Ck i)) ∧
    ((∀ i, i < 4 → y i = x i) →
      (∀ i, y (i + 4) = sm4F lRnd (y i) (y (i + 1)) (y (i + 2)) (y (i + 3)) (sm4RoundKey mk i)) →
      ∀ j, j < 4 → sm4Encrypt mk x j = y (35 - j)))

/-! ## AMX configuration, loads and stores -/

/-- LDTILECFG: a legal image becomes TILECFG, palette 0 its INIT state, and TILEDATA becomes zero; an illegal one is #GP(0) and
changes neither (R573, R596, R597).
R597 is marked as general knowledge there (D30; DEDUCED, notes/assumptions/32.md). -/
def Obligations.TileConfigLoads : Prop :=
  ∀ m s as, amxReady (fun _ => true) s → accessBytes s (segOf m) (s.ea m) 64 .read false = .ok as →
    (cfgOk s (readBytes s.seen as) = true → ∃ t, exec (.ldtilecfg m) s = .next t ∧ loadsOnly s t ∧ amxOnly s t ∧
      t.amx.palette = (readBytes s.seen as).getD 0 0 ∧
      t.amx.startRow = (if t.amx.palette = 0 then 0 else (readBytes s.seen as).getD 1 0) ∧
      (∀ q : Tmm, q.val < 16 → t.tileRows q = (if t.amx.palette = 0 then 0 else (cfgRows (readBytes s.seen as) q.val).toNat) ∧
        t.tileColsb q = (if t.amx.palette = 0 then 0 else (cfgColsb (readBytes s.seen as) q.val).toNat)) ∧
      ∀ q r, t.tileRow q r = 0) ∧
    (cfgOk s (readBytes s.seen as) = false → ∃ t, exec (.ldtilecfg m) s = .next t ∧
      t.delivered = some (.exception 13 (some 0) s.rip) ∧ t.amx = s.amx ∧ sameMemory s t)

/-- STTILECFG writes the 64-byte image of TILECFG and no other byte (R598), and LDTILECFG accepts the image of a legal
configuration and restores it (R562, R597, R598).
R597 and R598 are marked as general knowledge there (D30; DEDUCED, notes/assumptions/32.md). -/
def Obligations.TileConfigStores : Prop :=
  (∀ m s as, amxReady (fun _ => true) s → accessBytes s (segOf m) (s.ea m) 64 .write false = .ok as → as.Nodup →
    ∃ t, exec (.sttilecfg m) s = .next t ∧ amxOnly s t ∧ t.amx = s.amx ∧
      readBytes t.seen as = configImage s.amx ∧ ∀ a, a ∉ as → readByte t.seen a = readByte s.seen a) ∧
  (∀ s, s.amx.palette ≠ 0 → s.amx.palette.toNat ≤ maxPalette s.cfg → xcr0SupportsPalette s s.amx.palette = true →
    (∀ q : Tmm, q.val < 16 →
      if q.val < maxNames s.cfg s.amx.palette then
        s.tileRows q ≤ maxRows s.cfg s.amx.palette ∧ s.tileColsb q ≤ bytesPerRow s.cfg s.amx.palette ∧
          (s.tileRows q = 0 ↔ s.tileColsb q = 0)
      else s.tileRows q = 0 ∧ s.tileColsb q = 0) →
    cfgOk s (configImage s.amx) = true ∧
    (s.loadConfig (configImage s.amx)).amx = { s.amx with tiles := Vector.replicate 16 (Vector.replicate 16 0) })

/-- TILERELEASE puts TILECFG and TILEDATA into their INIT state (R596, R599); TILEZERO zeroes one tile (R600).
R599 and R600 are marked as general knowledge there (D30; DEDUCED, notes/assumptions/32.md). That TILERELEASE completes also with
IA32_XFD[18] set rests on the model's choice that class AMX-E6 is the common preamble alone, where the source breaks off (R589, N36;
DESIGN CHOICE, notes/assumptions/33.md). -/
def Obligations.TileReleaseAndZero : Prop :=
  (∀ s, amxReady (fun _ => true) s → exec .tilerelease s = .next { s with rip := s.nextRip, amx := State.reset.amx }) ∧
  (∀ c s, amxReady (fun _ => true) s → tileDataOn s → s.tilesConfigured = true → s.tileValid c = true →
    ∃ t, exec (.tilezero c) s = .next t ∧ t = { s with rip := s.nextRip, amx := t.amx } ∧ oneTileOnly s t c ∧
      ∀ r, t.tileRow c r = 0)

/-- TILELOADD, TILELOADDT1, TILELOADDRS and TILELOADDRST1: from start_row on, row i of the tile takes the bytes at base +
displacement + i * stride, zero-extended; the rows before start_row stay, the rows past the configured ones are zero (R567,
R601, R613). `phys i` are the physical bytes of memory row i.
For TILELOADD and TILELOADDT1 R601 is marked as general knowledge there (D30; DEDUCED, notes/assumptions/32.md).
That start_row is 0 after completion, and what a load that starts later keeps, is DEDUCED (notes/assumptions/33.md). -/
def Obligations.TileLoads : Prop :=
  ∀ f ∈ tileLoadForms, ∀ c m s (phys : Nat → List Nat), amxReady f.2 s → tileDataOn s → tileMemOk s c = true →
    (∀ i, s.amx.startRow.toNat ≤ i → i < s.tileRows c →
      accessBytes s (segOf m) (s.rowAddr m i) (s.tileColsb c) .read false = .ok (phys i)) →
    ∃ t, exec (f.1 c m) s = .next t ∧ loadsOnly s t ∧ amxOnly s t ∧ oneTileOnly s t c ∧
      ∀ r, r < 16 → t.tileRow c r =
        if r < s.amx.startRow.toNat then s.tileRow c r
        else if r < s.tileRows c then lowBits (8 * s.tileColsb c) (ofBytes (readBytes s.seen (phys r)))
        else 0

/-- TILESTORED: from start_row on, the configured bytes of row i go to base + displacement + i * stride, in ascending rows; no
other byte changes and the tile stays (R602).
R602 is marked as general knowledge there (D30; DEDUCED, notes/assumptions/32.md).
That start_row is 0 after completion is DEDUCED (notes/assumptions/33.md). -/
def Obligations.TileStores : Prop :=
  ∀ c m s (phys : Nat → List Nat), amxReady (fun _ => true) s → tileDataOn s → tileMemOk s c = true →
    (∀ i, s.amx.startRow.toNat ≤ i → i < s.tileRows c →
      accessBytes s (segOf m) (s.rowAddr m i) (s.tileColsb c) .write false = .ok (phys i)) →
    ∃ t, exec (.tilestored m c) s = .next t ∧ amxOnly s t ∧ t.amx = { s.amx with startRow := 0 } ∧
      (∀ a, readByte t.seen a = readByte
        ((List.range' s.amx.startRow.toNat (s.tileRows c - s.amx.startRow.toNat)).foldl
          (fun u i => writeBytes u (phys i) (toBytes (s.tileColsb c) (s.tileRow c i))) s.seen) a) ∧
      ∀ a, (∀ i, s.amx.startRow.toNat ≤ i → i < s.tileRows c → a ∉ phys i) → readByte t.seen a = readByte s.seen a

/-- The eight T2RPNTLVW loads: word w of dword d of tile row r is word d of memory row 2r + w, the second tile continuing where
the first ends; the last row of a Z1 form is zeros; what was read before start_row stays; bytes past the configured width and
rows past the configured ones are zero (R603 to R611).
What a half-read row keeps, with an odd start_row, is the model's reading of the damaged pseudocode (DEDUCED,
notes/assumptions/33.md). -/
def Obligations.PairLoads : Prop :=
  ∀ f ∈ pairLoadForms, ∀ c m s (phys : Nat → List Nat), amxReady f.2.1 s → tileDataOn s → pairOk s c = true →
    (∀ i, s.amx.startRow.toNat ≤ i → i < 2 * s.tileRows (pairBase c) - f.2.2 →
      accessBytes s (segOf m) (s.rowAddr m i) ((s.tileColsb (pairBase c) + s.tileColsb (pairNext c)) / 2) .read false =
        .ok (phys i)) →
    ∃ t, exec (f.1 c m) s = .next t ∧ loadsOnly s t ∧ amxOnly s t ∧
      t.amx.palette = s.amx.palette ∧ t.amx.rows = s.amx.rows ∧ t.amx.colsb = s.amx.colsb ∧ t.amx.startRow = 0 ∧
      (∀ q : Tmm, tileIx q ≠ tileIx (pairBase c) → tileIx q ≠ tileIx (pairNext c) → t.tile q = s.tile q) ∧
      ∀ u base, (u = pairBase c ∧ base = 0) ∨ (u = pairNext c ∧ base = s.tileColsb (pairBase c) / 4) →
        ∀ r, r < 16 →
          (2 * r + 2 ≤ s.amx.startRow.toNat → t.tileRow u r = s.tileRow u r) ∧
          (s.amx.startRow.toNat < 2 * r + 2 → s.tileRows (pairBase c) ≤ r → t.tileRow u r = 0) ∧
          (s.amx.startRow.toNat < 2 * r + 2 → r < s.tileRows (pairBase c) → ∀ d w, d < 16 → w < 2 →
            wordAt (t.tileRow u r) (2 * d + w) =
              if s.tileColsb u / 4 ≤ d then 0
              else if 2 * r + w < s.amx.startRow.toNat then wordAt (s.tileRow u r) (2 * d + w)
              else if 2 * r + w < 2 * s.tileRows (pairBase c) - f.2.2 then
                wordAt (ofBytes (readBytes s.seen (phys (2 * r + w)))) (base + d)
              else 0)

/-! ## AMX computation -/

/-- The multiplies of class AMX-E4: with matching dimensions, element (r, n) of the destination is the operation on row r of the
first source, column n of the second and the old element; everything past the configured area is zero and nothing else changes
(R567, R587, R621 to R623, R640 to R645, R650). -/
def Obligations.TileMultiplies : Prop :=
  ∀ f ∈ mulForms, ∀ c a b s, amxReady f.2.1 s → tileDataOn s → tmulOk s c a b = true →
    ∃ t, exec (f.1 c a b) s = .next t ∧ t = { s with rip := s.nextRip, amx := t.amx } ∧ oneTileOnly s t c ∧
      ∀ r n, r < 16 → n < 16 → dwordAt (t.tileRow c r) n =
        if r < s.tileRows c ∧ n < s.tileColsb c / 4 then
          f.2.2 (s.tileColsb a / 4) (fun k => dwordAt (s.tileRow a r) k) (fun k => dwordAt (s.tileRow b k) n)
            (dwordAt (s.tileRow c r) n)
        else 0

/-- The multiplies of class AMX-E10: as above with the first source transposed (R593, R625, R660 to R665). -/
def Obligations.TransposedMultiplies : Prop :=
  ∀ f ∈ transposedForms, ∀ c a b s, amxReady f.2.1 s → tileDataOn s → tmulTransposedOk s c a b = true →
    ∃ t, exec (f.1 c a b) s = .next t ∧ t = { s with rip := s.nextRip, amx := t.amx } ∧ oneTileOnly s t c ∧
      ∀ r n, r < 16 → n < 16 → dwordAt (t.tileRow c r) n =
        if r < s.tileRows c ∧ n < s.tileColsb c / 4 then
          f.2.2 (s.tileRows a) (fun k => dwordAt (s.tileRow a k) r) (fun k => dwordAt (s.tileRow b k) n)
            (dwordAt (s.tileRow c r) n)
        else 0

/-- TTRANSPOSED and TCONJTFP16: dword (i, j) of the destination is dword (j, i) of the source before the instruction, bit 31
flipped by TCONJTFP16; the rest of the tile is zero (R592, R626, R690, D31).
That all of the source is read before the destination is written is D31's (DEDUCED, notes/assumptions/36.md). -/
def Obligations.TileTransposes : Prop :=
  ∀ f ∈ transposeForms, ∀ d a s, amxReady f.2.1 s → tileDataOn s → transposeOk s d a = true →
    ∃ t, exec (f.1 d a) s = .next t ∧ t = { s with rip := s.nextRip, amx := t.amx } ∧ oneTileOnly s t d ∧
      ∀ i j, i < 16 → j < 16 → dwordAt (t.tileRow d i) j =
        if i < s.tileRows d ∧ j < s.tileColsb d / 4 then f.2.2 (dwordAt (s.tileRow a j) i) else 0

/-- The row instructions, by register and by immediate: the selected dwords, each converted, the rest of the vector register
zero, the tile unchanged; a selector out of range is #GP(0) (R590, R591, R628 to R638, R647, R648).
That start_row becomes 0 is DEDUCED (notes/assumptions/33.md); the conversions of integers and FP16 are R579's general knowledge
(DEDUCED, notes/assumptions/35.md). -/
def Obligations.RowMoves : Prop :=
  (∀ f ∈ rowRegForms, ∀ d c r s, amxReady hasAmxAvx512 s → rowMoveEnabled s = true → bitAt s.sys.cr0 3 = false →
    tileDataOn s → s.tilesConfigured = true → s.tileDwords c = true →
    let row := fieldOf (s.reg32 r) 15 0
    let chunk := fieldOf (s.reg32 r) 31 16 * 64
    (row < s.tileRows c → chunk < s.tileColsb c → ∃ t, exec (f.1 d c r) s = .next t ∧
      t = { s with rip := s.nextRip, vec := t.vec, amx := { s.amx with startRow := 0 } } ∧
      t.vec.k = s.vec.k ∧ t.vec.mxcsr = s.vec.mxcsr ∧ (∀ q, q ≠ d → t.zmm q = s.zmm q) ∧
      ∀ j, j < 16 → dwordAt (t.zmm d) j =
        if chunk / 4 + j < s.tileColsb c / 4 then f.2 (dwordAt (s.tileRow c row) (chunk / 4 + j)) else 0) ∧
    (s.tileRows c ≤ row ∨ s.tileColsb c ≤ chunk → exec (f.1 d c r) s = .next (s.takeTrap (gpTrap s)))) ∧
  (∀ f ∈ rowImmForms, ∀ d c n s, amxReady hasAmxAvx512 s → rowMoveEnabled s = true → bitAt s.sys.cr0 3 = false →
    tileDataOn s → s.tilesConfigured = true → s.tileDwords c = true →
    let row := fieldOf n 5 0
    let chunk := fieldOf n 7 6 * 64
    (row < s.tileRows c → chunk < s.tileColsb c → ∃ t, exec (f.1 d c n) s = .next t ∧
      t = { s with rip := s.nextRip, vec := t.vec, amx := { s.amx with startRow := 0 } } ∧
      t.vec.k = s.vec.k ∧ t.vec.mxcsr = s.vec.mxcsr ∧ (∀ q, q ≠ d → t.zmm q = s.zmm q) ∧
      ∀ j, j < 16 → dwordAt (t.zmm d) j =
        if chunk / 4 + j < s.tileColsb c / 4 then f.2 (dwordAt (s.tileRow c row) (chunk / 4 + j)) else 0) ∧
    (s.tileRows c ≤ row ∨ s.tileColsb c ≤ chunk → exec (f.1 d c n) s = .next (s.takeTrap (gpTrap s))))

/-- Where the AMX classes take #UD on their TILECFG conditions, past the checks that need none: AMX-E3 (R585), E4 (R587), E5 (R588),
E7 and E8 (R590, R591), E9 (R592), E10 (R593) and E11 (R594). The clause of E11 is not the source's: R594 is the spec's own
reconstruction (decision D27), followed here as DEDUCED (notes/assumptions/33.md). -/
def Obligations.AmxClassChecks : Prop :=
  (∀ s c m, amxEnabled s = true → s.ctx.tsx = false → tileDataOn s →
    (s.tilesConfigured = false ∨ s.tileValid c = false ∨ s.tileColsb c % 4 ≠ 0 ∨ s.tileRows c ≤ s.amx.startRow.toNat →
      (∀ f ∈ tileLoadForms, f.2 s.cfg = true → exec (f.1 c m) s = .next (s.takeTrap udTrap)) ∧
      exec (.tilestored m c) s = .next (s.takeTrap udTrap)) ∧
    (s.tilesConfigured = false ∨ s.tileValid c = false → exec (.tilezero c) s = .next (s.takeTrap udTrap))) ∧
  (∀ f ∈ mulForms, ∀ c a b s, amxReady f.2.1 s → tileDataOn s →
    s.tilesConfigured = false ∨ c = a ∨ a = b ∨ c = b ∨ s.tileValid c = false ∨ s.tileValid a = false ∨ s.tileValid b = false ∨
      s.tileColsb c % 4 ≠ 0 ∨ s.tileColsb a % 4 ≠ 0 ∨ s.tileColsb b % 4 ≠ 0 ∨ s.tileColsb c ≠ s.tileColsb b ∨
      s.tileColsb a / 4 ≠ s.tileRows b ∨ s.tileRows c ≠ s.tileRows a ∨ tmulMaxN s.cfg < s.tileColsb c ∨
      tmulMaxK s.cfg < s.tileRows b ∨ tmulMaxK s.cfg < s.tileColsb a / 4 →
    exec (f.1 c a b) s = .next (s.takeTrap udTrap)) ∧
  (∀ f ∈ transposedForms, ∀ c a b s, amxReady f.2.1 s → tileDataOn s →
    xcr0SupportsPalette s s.amx.palette = false ∨ s.tilesConfigured = false ∨ c = a ∨ a = b ∨ c = b ∨ s.tileValid c = false ∨
      s.tileValid a = false ∨ s.tileValid b = false ∨ s.tileColsb c % 4 ≠ 0 ∨ s.tileColsb a % 4 ≠ 0 ∨ s.tileColsb b % 4 ≠ 0 ∨
      s.tileColsb c ≠ s.tileColsb b ∨ s.tileRows c ≠ s.tileColsb a / 4 ∨ s.tileRows a ≠ s.tileRows b ∨
      tmulMaxN s.cfg < s.tileColsb c ∨ tmulMaxK s.cfg < s.tileRows b →
    exec (f.1 c a b) s = .next (s.takeTrap udTrap)) ∧
  (∀ f ∈ transposeForms, ∀ d a s, amxReady f.2.1 s → tileDataOn s →
    xcr0SupportsPalette s s.amx.palette = false ∨ s.tilesConfigured = false ∨ s.tileValid d = false ∨ s.tileValid a = false ∨
      s.tileColsb d % 4 ≠ 0 ∨ s.tileColsb a % 4 ≠ 0 ∨ s.tileRows a ≠ s.tileColsb d / 4 ∨ s.tileColsb a / 4 ≠ s.tileRows d →
    exec (f.1 d a) s = .next (s.takeTrap udTrap)) ∧
  (∀ f ∈ pairLoadForms, ∀ c m s, amxReady f.2.1 s → tileDataOn s →
    let a := pairBase c
    let b := pairNext c
    s.tilesConfigured = false ∨ s.tileName b = false ∨ s.tileValid a = false ∨ s.tileColsb a % 8 ≠ 0 ∨
      s.tileColsb b % 8 ≠ 0 ∨ (s.tileRows b = 0 ∧ s.tileColsb b ≠ 0) ∨ (s.tileRows b ≠ 0 ∧ s.tileColsb b = 0) ∨
      (s.tileRows b ≠ 0 ∧ (s.tileRows b ≠ s.tileRows a ∨ s.tileColsb a ≠ bytesPerRow s.cfg s.amx.palette)) ∨
      2 * s.tileRows a ≤ s.amx.startRow.toNat →
    exec (f.1 c m) s = .next (s.takeTrap udTrap)) ∧
  (∀ d c s, amxReady hasAmxAvx512 s → rowMoveEnabled s = true → bitAt s.sys.cr0 3 = false → tileDataOn s →
    s.tilesConfigured = false ∨ s.tileValid c = false ∨ s.tileColsb c % 4 ≠ 0 →
    (∀ f ∈ rowRegForms, ∀ r, exec (f.1 d c r) s = .next (s.takeTrap udTrap)) ∧
    (∀ f ∈ rowImmForms, ∀ n, exec (f.1 d c n) s = .next (s.takeTrap udTrap)))

/-- Every rounding is to nearest, ties to even (R569, R579): the result is within half a unit of the exact quotient, and even
at the midpoint. A packed magnitude below the pattern of infinity stands for the rounded number. The conversions: to BF16 (R578)
zeros and denormals give a signed zero, an infinity stays, a NaN is quieted, and another number is its pattern rounded at bit 16; to
FP16 a number from 65520 on is infinity and a smaller one is rounded, FP32 denormals giving a signed zero; from FP16 exactly; from an
integer rounded (R579). With FTZ no fused multiply-add answers a denormal (R575).
R579, on which the clauses of FP16 and of the integers rest, is general knowledge there and not in the source (G17, N38; DEDUCED,
notes/assumptions/35.md), and that flushing looks at the rounded result is R575's general knowledge (DEDUCED,
notes/assumptions/34.md). -/
def Obligations.RoundsToNearestEven : Prop :=
  (∀ n q, 2 * (n - roundRne n q * 2 ^ q) ≤ 2 ^ q ∧ 2 * (roundRne n q * 2 ^ q - n) ≤ 2 ^ q ∧
    ((2 * (n - roundRne n q * 2 ^ q) = 2 ^ q ∨ 2 * (roundRne n q * 2 ^ q - n) = 2 ^ q) → roundRne n q % 2 = 0)) ∧
  (∀ p qmin top n, packMag p qmin top n < top →
    magValue p qmin (packMag p qmin top n) =
      roundRne n (max (Nat.log2 n - p) qmin) * 2 ^ max (Nat.log2 n - p) qmin) ∧
  (∀ x, (fZero x = true ∨ fDenormal x = true → singleToBf16 x = signed 16 (fNeg x) 0) ∧
    (fInf x = true → singleToBf16 x = signed 16 (fNeg x) 0x7F80) ∧
    (fNan x = true → singleToBf16 x = signed 16 (fNeg x) (0x7F80 + (fFrac x / 2 ^ 16 ||| 0x40))) ∧
    (fExp x ≠ 0 → fExp x ≠ 255 → (singleToBf16 x).toNat = roundRne x.toNat 16)) ∧
  (∀ x, (fNan x = true → singleToHalf x = signed 16 (fNeg x) (0x7C00 + (fFrac x / 2 ^ 13 ||| 0x200))) ∧
    (fNan x = false → 65520 * 2 ^ 149 ≤ fMag x → singleToHalf x = signed 16 (fNeg x) 0x7C00) ∧
    (fDenormal x = true → singleToHalf x = signed 16 (fNeg x) 0) ∧
    (fDenormal x = false → fMag x < 65520 * 2 ^ 149 → bitAt (singleToHalf x) 15 = fNeg x ∧
      fieldOf (singleToHalf x) 14 10 < 31 ∧ hMag (singleToHalf x) * 2 ^ 125 =
        roundRne (fMag x) (max (Nat.log2 (fMag x) - 10) 125) * 2 ^ max (Nat.log2 (fMag x) - 10) 125)) ∧
  (∀ h, fieldOf h 14 10 ≠ 31 → fNeg (halfToSingle h) = bitAt h 15 ∧ fExp (halfToSingle h) < 255 ∧
    fDenormal (halfToSingle h) = false ∧ fMag (halfToSingle h) = hMag h * 2 ^ 125) ∧
  (∀ d, fNeg (intToSingle d) = decide (d.toInt < 0) ∧ fExp (intToSingle d) < 255 ∧
    fMag (intToSingle d) = roundRne (d.toInt.natAbs * 2 ^ 149) (Nat.log2 (d.toInt.natAbs * 2 ^ 149) - 23) *
      2 ^ (Nat.log2 (d.toInt.natAbs * 2 ^ 149) - 23)) ∧
  (∀ acc x y daz, fDenormal (fma32 acc x y daz true) = false)

/-- The arithmetic of the multiplies. `fma32` of finite numbers is their exact sum in units of 2^-298 rounded once, an exact zero
being negative only as a sum of negative zeros, and past the largest finite number infinity; DAZ and FTZ replace denormals by zeros
of their sign; a NaN, infinity by zero and opposite infinities give a quiet NaN, whose sign and payload are free
(notes/assumptions/14.md), other infinities follow IEEE 754 (R569, R575). The sign of an exact zero, and that flushing looks at the rounded result, are the
model's reading (DEDUCED, notes/assumptions/34.md). -/
def Obligations.FusedMultiplyAdd : Prop :=
  (∀ acc x y, fExp acc ≠ 255 → fExp x ≠ 255 → fExp y ≠ 255 →
    let v := fInt x * fInt y + fInt acc * 2 ^ 149
    let q := max (Nat.log2 v.natAbs - 23) 149
    let r := fma32 acc x y false false
    (v = 0 → r = if fNeg acc && (fNeg x != fNeg y) then 0x80000000 else 0) ∧
    (v ≠ 0 → fNeg r = decide (v < 0) ∧ ((2 ^ 25 - 1) * 2 ^ 401 ≤ v.natAbs → fInf r = true) ∧
      (v.natAbs < (2 ^ 25 - 1) * 2 ^ 401 → fExp r ≠ 255 ∧ fMag r * 2 ^ 149 = roundRne v.natAbs q * 2 ^ q))) ∧
  (∀ acc x y daz ftz, fma32 acc x y daz ftz = flush ftz (fma32 (flush daz acc) (flush daz x) (flush daz y) false false)) ∧
  (∀ x, flush false x = x ∧ (fDenormal x = false → flush true x = x) ∧
    (fDenormal x = true → flush true x = x &&& 0x80000000)) ∧
  (∀ acc x y daz ftz,
    let r := fma32 acc x y daz ftz
    let neg := fNeg x != fNeg y
    let isZero := fun w => fZero w || (daz && fDenormal w)
    let nan := (fNan acc || fNan x || fNan y) = true
    let invalid := (fInf x && isZero y || isZero x && fInf y) = true
    let opposite := fInf acc = true ∧ fNeg acc ≠ neg
    (nan ∨ invalid ∨ ((fInf x || fInf y) = true ∧ opposite) → fNan r = true ∧ bitAt r 22 = true) ∧
    ((fInf x || fInf y) = true → ¬ nan → ¬ invalid → ¬ opposite → fInf r = true ∧ fNeg r = neg) ∧
    (fInf acc = true → fExp x ≠ 255 → fExp y ≠ 255 → r = acc))

/-- What the multiplies add up. An element of the pair instructions is the accumulator plus the sum of an even and an odd
temporary, each the chain of the fused multiply-adds over ascending k of the instruction's factors: imaginary by real and real by
imaginary, real by real and negated imaginary by imaginary, the conjugate's, BF16 or FP16 pairs (R622, R623, R625, R663, R664). TF32
keeps the upper nineteen bits after silencing a NaN (R650, R651).
That an addition is one rounded sum is R579's general knowledge; that it is the fused operation with the factor 1.0, also where
the result is a NaN, is the model's choice (DESIGN CHOICE, notes/assumptions/14.md). That TF32 truncates is R651's pseudocode, which
the model prefers to the rounding words of R184 (DEDUCED, notes/assumptions/34.md). -/
def Obligations.PairAndTf32Elements : Prop :=
  (∀ a b : W32,
    let lo := fun w : W32 => halfToSingle (w.extractLsb' 0 16)
    let hi := fun w : W32 => halfToSingle (w.extractLsb' 16 16)
    imagTerm a b = ⟨hi a, lo b, lo a, hi b⟩ ∧ realTerm a b = ⟨lo a, lo b, hi a ^^^ 0x80000000, hi b⟩ ∧
    conjImagTerm a b = ⟨hi a ^^^ 0x80000000, lo b, lo a, hi b⟩ ∧ fp16Term a b = ⟨lo a, lo b, hi a, hi b⟩ ∧
    bf16Term a b = ⟨a <<< 16, b <<< 16, a &&& 0xFFFF0000, b &&& 0xFFFF0000⟩) ∧
  (∀ term n a b c (e o : Nat → W32), e 0 = 0 → o 0 = 0 →
    (∀ k, e (k + 1) = fma32 (e k) (term (a k) (b k)).e1 (term (a k) (b k)).e2 true true) →
    (∀ k, o (k + 1) = fma32 (o k) (term (a k) (b k)).o1 (term (a k) (b k)).o2 true true) →
    pairElem term n a b c = fma32 c (fma32 (e n) (o n) 0x3F800000 true true) 0x3F800000 true true) ∧
  (∀ n a b c (e : Nat → W32), e 0 = 0 →
    (∀ k, e (k + 1) = fma32 (e k) (toTf32 (a k)) (toTf32 (b k)) true true) →
    tf32Elem n a b c = fma32 c (e n) 0x3F800000 true true) ∧
  (∀ x, (fNan x = false → (toTf32 x).toNat = x.toNat / 2 ^ 13 * 2 ^ 13) ∧
    (fNan x = true → fNan (toTf32 x) = true ∧ bitAt (toTf32 x) 22 = true ∧ ∀ i, 13 ≤ i → i ≠ 22 →
      bitAt (toTf32 x) i = bitAt x i))

/-- An element of the FP8 instructions. With finite factors it is the accumulator, a denormal one not flushed, plus the exact sum
of all products rounded once (R576, R577, R640). A NaN anywhere, infinity by zero, infinite products of both signs, or one against
an opposite infinity in the accumulator give FFC00000H, another infinite product its infinity (R641).
That the rounded sum takes the sign of the 128-bit sum is the spec's own repair of the pseudocode (R576 (c), C32; DEDUCED,
notes/assumptions/35.md). -/
def Obligations.Fp8Elements : Prop :=
  (∀ x, fp8Int .bf8 x = (if bitAt x 7 then -1 else 1) *
      (if fieldOf x 6 2 = 0 then fieldOf x 1 0 else (4 + fieldOf x 1 0) * 2 ^ (fieldOf x 6 2 - 1) : Nat) ∧
    fp8Int .hf8 x = (if bitAt x 7 then -1 else 1) *
      (if fieldOf x 6 3 = 0 then fieldOf x 2 0 else (8 + fieldOf x 2 0) * 2 ^ (fieldOf x 6 3 - 1) : Nat)) ∧
  (∀ f1 f2 n a b c,
    let r := fp8Elem f1 f2 n a b c
    let l := (List.range (4 * n)).map (fun i =>
      ((a (i / 4)).extractLsb' (8 * (i % 4)) 8, (b (i / 4)).extractLsb' (8 * (i % 4)) 8))
    let nan := fNan c = true ∨ ∃ p ∈ l, (fp8Nan f1 p.1 || fp8Nan f2 p.2) = true
    let invalid := ∃ p ∈ l, (fp8Inf f1 p.1 && fp8Zero p.2 || fp8Zero p.1 && fp8Inf f2 p.2) = true
    let inf := fun neg => ∃ p ∈ l, (fp8Inf f1 p.1 || fp8Inf f2 p.2) = true ∧ (bitAt p.1 7 != bitAt p.2 7) = neg
    (nan ∨ invalid ∨ (inf false ∧ inf true) → r = 0xFFC00000) ∧
    (∀ neg, ¬ nan → ¬ invalid → inf neg → ¬ inf (!neg) →
      r = if fInf c && (fNeg c != neg) then 0xFFC00000 else if neg then 0xFF800000 else 0x7F800000) ∧
    (n ≤ 256 → ¬ nan → (∀ neg, ¬ inf neg) →
      let v := (l.map (fun p => fp8Int f1 p.1 * fp8Int f2 p.2)).sum
      let m := v.natAbs * 2 ^ (149 - (fp8Scale f1 + fp8Scale f2))
      ∃ d, r = fma32 c d 0x3F800000 false true ∧ (v = 0 → d = 0) ∧
        (v ≠ 0 → fExp d ≠ 255 ∧ fNeg d = decide (v < 0) ∧
          fMag d = roundRne m (Nat.log2 m - 23) * 2 ^ (Nat.log2 m - 23))))

/-! ## Events -/

/-- Processing a user-timer event (R843, R844): the bit of the vector in UIRR is set, a user interrupt is recognized,
IA32_UINTR_TIMER is cleared, and in VMX non-root operation the virtual user-timer control too (R847); registers, flags and RIP
stay. Model's choices: an enclave is left first, a production one writing its deferred records (notes/assumptions/20.md, 39.md),
and a transaction aborts with its status in EAX and the other registers kept (notes/assumptions/19.md).
That the vector is cleared with the deadline is R844's pseudocode, where R47 names the deadline only
(notes/assumptions/40.md). The event is due only where it is ready (R842, R843), and there unless MOV SS, POP SS or STI, which "may
block" it (footnote 1 of R843: a free value decides, DESIGN CHOICE, notes/assumptions/40.md), was the last instruction. That
CR4.UINTR is bit 25 is marked in R843 as general knowledge (PRESUMED, notes/assumptions/40.md). -/
def Obligations.UserTimerEvent : Prop :=
  (∀ s, s.raoStep.userTimerDue = true → userTimerReady s) ∧
  (∀ s, userTimerReady s → s.ctx.shadow = false → s.raoStep.userTimerDue = true) ∧
  ∀ s, s.delivered = none → s.raoStep.guestTimerDue = false → s.raoStep.userTimerDue = true →
    let u := s.raoStep.wake.aex
    ∃ t, step s = .next t ∧ t.uirr = s.uirr ||| BitVec.ofNat 64 (2 ^ ((s.msrVal 0x1B00).toNat % 64)) ∧
      t.userInterrupt = true ∧ t.msrVal 0x1B00 = 0 ∧ t.rip = s.rip ∧ t.rflags = s.rflags ∧ t.vec = s.vec ∧
      t.amx = s.amx ∧ t.mem = u.mem ∧ (∀ g, g ≠ .rax → t.reg g = s.reg g) ∧
      (s.nonRoot = true → t.vmcs.virtUserTimer = 0) ∧ (s.nonRoot = false → t.vmcs = s.vmcs) ∧
      (s.ctx.enclave ≠ .production → u = { s.raoStep with ctx := u.ctx }) ∧
      (s.ctx.tsx = false → t.gpr = s.gpr ∧ t.delivered = none) ∧
      (s.ctx.tsx = true → t.ctx.tsx = false ∧ t.delivered = some (.tsxAbort s.rip) ∧
        (t.reg .rax).toNat < 2 ^ 32)

/-- Processing a guest-timer event (R856): the vector's bit is set in the virtual-APIC page and no other bit of memory changes,
RVI becomes the larger of itself and the vector, a virtual interrupt is to be evaluated, and both deadlines are cleared. The state
it starts from is the one woken and out of an enclave (R857), which is the same but for the context unless it was a production
enclave (the model's choice, notes/assumptions/39.md).
That leaving an enclave that is no production one changes nothing but the context is the model's choice too (DESIGN CHOICE,
notes/assumptions/20.md). -/
def Obligations.GuestTimerEvent : Prop :=
  ∀ s : State, let u := s.wake.aex
    let t := s.processGuestTimer
    let v := s.vmcs.virtTimerVector.toNat % 256
    let b := s.virrByte v
    (s.ctx.enclave ≠ .production → u = { s with ctx := u.ctx }) ∧
    bitAt (readByte t.seen b) (v % 8) = true ∧
    (∀ k, k < 8 → k ≠ v % 8 → bitAt (readByte t.seen b) k = bitAt (readByte u.seen b) k) ∧
    (∀ a, a ≠ b → readByte t.seen a = readByte u.seen a) ∧
    t.vmcs.guestIntStatus.toNat % 256 = max (s.vmcs.guestIntStatus.toNat % 256) v ∧
    t.vmcs.guestIntStatus.toNat / 256 = s.vmcs.guestIntStatus.toNat / 256 ∧
    t.virtualInterrupt = true ∧ t.guestDeadline = 0 ∧ t.vmcs.guestDeadlineShadow = 0

/-- The timers in VMX non-root operation. A step takes a guest-timer event that is pending and not inhibited before a user-timer
event or an instruction, whatever the privilege level and flags (R832, R851, R852). IA32_UINTR_TIMER reads and writes the virtual
user-timer control, and under "APIC-timer virtualization" IA32_TSC_DEADLINE the guest deadline shadow, each write converting the
virtual deadline (R846, R855). The conversion takes the offset off (R859). With scaling R859 only says that an
implementation-chosen nearby value results: that it lies at or above the inverse and by less than one more scaled unit is the
model's choice (DESIGN CHOICE after D35, notes/assumptions/40.md), and the guest view of the counter, the product over 2^48 plus the
offset, is PRESUMED (notes/assumptions/40.md). VM entry checks the controls and loads the guest deadline, or fails to the next
instruction with ZF and error 7 (R735, R853, R854). -/
def Obligations.VirtualTimers : Prop :=
  (∀ s, s.delivered = none → s.guestDeadline ≠ 0 → s.guestDeadline.toNat ≤ s.tsc.toNat →
    s.ctx.activity ≠ .shutdown → s.ctx.activity ≠ .waitSipi → step s = .next s.raoStep.processGuestTimer.tick) ∧
  (∀ s v, hasUtmr s.cfg = true → s.nonRoot = true →
    msrValue s 0x1B00 = s.vmcs.virtUserTimer ∧
    (s.msrWritten 0x1B00 v).vmcs = { s.vmcs with virtUserTimer := v } ∧
    (s.msrWritten 0x1B00 v).userVector = v.toNat % 64 ∧
    (s.msrWritten 0x1B00 v).userDeadline =
      if v &&& 0xFFFFFFFFFFFFFFC0 = 0 then 0
      else virtToActual s.vmcs (v &&& 0xFFFFFFFFFFFFFFC0) &&& 0xFFFFFFFFFFFFFFC0) ∧
  (∀ s v, s.timerVirtualized = true →
    msrValue s 0x6E0 = s.vmcs.guestDeadlineShadow ∧
    s.msrWritten 0x6E0 v = { s with vmcs := { s.vmcs with guestDeadlineShadow := v },
                                    guestDeadline := if v = 0 then 0 else virtToActual s.vmcs v }) ∧
  (∀ (v : Vmcs) d,
    let e := if v.tscOffsetting then d - v.tscOffset else d
    (v.tscScaling = false → virtToActual v d = e) ∧
    (v.tscScaling = true → v.tscMultiplier ≠ 0 →
      e.toNat * 2 ^ 48 + 2 ^ 48 + v.tscMultiplier.toNat ≤ 2 ^ 64 * v.tscMultiplier.toNat →
      e.toNat ≤ (virtToActual v d).toNat * v.tscMultiplier.toNat / 2 ^ 48 ∧
      (virtToActual v d).toNat * v.tscMultiplier.toNat < (e.toNat + 1) * 2 ^ 48 + v.tscMultiplier.toNat)) ∧
  (∀ s : State,
    (s.tertiary 8 = true ∧
        (s.vmcs.virtIntDelivery = false ∨ s.vmcs.rdtscExiting = true ∨ 255 < s.vmcs.virtTimerVector.toNat) →
      s.vmEntry = { s with rip := s.nextRip, rflags := s.rflags ||| 0x40, vmcs := { s.vmcs with vmInstrError := 7 } }) ∧
    (s.vmEntryOk = true → s.vmEntry.ctx.vmx = .nonRoot ∧
      s.vmEntry.guestDeadline = if s.tertiary 8 then s.vmcs.guestDeadline else 0))

/-- Trace triggers over one instruction that began in `pre` and left `s`. A unit that is enabled fires on a counter exactly when
that counter is enabled for it and has counted or overflowed, and on a breakpoint register exactly when breakpoint triggers are
supported, the register is enabled for it and for code or data, and it matches, which is a free value (R743, R745); a unit that is not
enabled never fires. With tracing enabled and not paused the units
that fired give one TRIG packet with a bit for each of units 0 to 7 of them, with the instruction count of the lowest unit that asks
for it, which starts at an instruction that sent another IP indication, else none (R747 to R750); then they pause or resume tracing: without a unit that asks for exactly one of the two the state
stays, else the highest such unit decides (R745). Nothing else changes but the counters of retired instructions. Model's choices
(DESIGN CHOICE, notes/assumptions/38.md): the packet comes before the actions of the same instruction and the actions happen in
ascending order (D33); the count includes the instruction itself; and a packet with a count restarts the counter of every unit. -/
def Obligations.TriggerUnits : Prop :=
  ∀ pre s r, hasPttt s.cfg = true → s.cfg = pre.cfg →
    let l := firedUnits pre r s.draws
    let t := runTriggers pre s r
    let on := s.pt.triggerEn = true ∧ s.pt.filterEn = true ∧ s.ptPaused = false ∧ l ≠ []
    let since := fun u => if s.pt.anchored then (⟨0, false⟩ : Icnt) else (s.pt.counter u).next
    (∀ u ∈ l, u < 4 * nTriggerCfg pre.cfg ∧ bitAt (triggerUnit pre u) 15 = true ∧
      ∀ i, (triggerUnit pre u).toNat % 128 = i →
        (i < 8 → counting pre i = true ∧ bitAt (pre.msrVal (evtSelAddr i)) 38 = true ∧ i ∈ r.incremented) ∧
        (0x20 ≤ i → i < 0x28 →
          counting pre (i - 0x20) = true ∧ bitAt (pre.msrVal (evtSelAddr (i - 0x20))) 38 = true ∧ i - 0x20 ∈ r.overflowed) ∧
        (0x40 ≤ i → i < 0x44 → breakpointInput pre (i - 0x40))) ∧
    (∀ u i, u < 4 * nTriggerCfg pre.cfg → bitAt (triggerUnit pre u) 15 = true → (triggerUnit pre u).toNat % 128 = i →
      (i < 8 → counting pre i = true → bitAt (pre.msrVal (evtSelAddr i)) 38 = true → i ∈ r.incremented → u ∈ l) ∧
      (0x20 ≤ i → i < 0x28 → counting pre (i - 0x20) = true → bitAt (pre.msrVal (evtSelAddr (i - 0x20))) 38 = true →
        i - 0x20 ∈ r.overflowed → u ∈ l) ∧
      (0x40 ≤ i → i < 0x44 → breakpointInput pre (i - 0x40) →
        (u ∈ l ↔ Config.breakpointMatches (i - 0x40) s.draws = true))) ∧
    t = { s with pt := t.pt, msr := t.msr, draws := t.draws } ∧ (∀ a, a ≠ 0x571 → t.msrVal a = s.msrVal a) ∧
    t.msrVal 0x571 &&& ~~~0x100 = s.msrVal 0x571 &&& ~~~0x100 ∧
    ((∀ u ∈ l, ¬ singleAction pre u) → t.ptPaused = s.ptPaused) ∧
    (∀ u ∈ l, singleAction pre u → (∀ w ∈ l, u < w → ¬ singleAction pre w) → t.ptPaused = bitAt (triggerUnit pre u) 13) ∧
    (¬ on → t.pt.packets = s.pt.packets) ∧
    (on → ∃ p, t.pt.packets = s.pt.packets ++ p ∧ p.headD 0 = 0xD9 ∧
      (∀ u ∈ l, u < 8 → bitAt (p.getD 2 0) u = true) ∧
      ((∀ u ∈ l, u < 8) → ∀ u, u < 8 → bitAt (p.getD 2 0) u = true → u ∈ l) ∧
      ((∀ u ∈ l, ¬ asksCount pre s u) → p.length = 3 ∧ p.getD 1 0 = 0) ∧
      (∀ u ∈ l, asksCount pre s u → (∀ w ∈ l, w < u → ¬ asksCount pre s w) →
        let n := since u
        let ip := n.overflow || !s.pt.branchEn
        p.length = 5 ∧ bitAt (p.getD 1 0) 6 = true ∧ bitAt (p.getD 1 0) 7 = ip ∧ (p.getD 1 0).toNat % 64 = 0 ∧
          p.drop 3 = toBytes 2 (if ip then 0 else n.count) ∧ ∀ w, (t.pt.counter w) = ⟨0, false⟩)) ∧
    ((¬ on ∨ ∀ u ∈ l, ¬ asksCount pre s u) → ∀ u, u < 28 → t.pt.counter u = since u) ∧
    t.pt.anchored = false

/-- One PEBS record (R773, R781): with FULL set, none is written. One that fits advances the write offset by its size and reloads
the counter (R766); where THRESH_EN is 1 and the new offset has reached the threshold, IA32_PERF_GLOBAL_STATUS[54] is set and a PMI
signalled, else both stay (R776; that reaching it suffices is D34's choice, notes/assumptions/39.md); its bytes stand at the buffer's base plus offset, but for the ones that are only allocated and those in
Processor Reserved Memory (R796), and no other byte of memory changes. Its memory access address is zero or one that the
instruction accessed (R786). What a record that does not fit does (FULL is set, the record dropped, the counter not reloaded), and
that FULL is set exactly where the offset reaches the limit, is the model's choice after D34 (notes/assumptions/39.md). Whether an
overflow that finds FULL set stays pending, and whether the reserved fields of a record are written as 0 or only allocated, are free
values (DESIGN CHOICE, notes/assumptions/39.md), and the statement holds for either. -/
def Obligations.PebsRecord : Prop :=
  ∀ pre l s c, c < 64 →
    (memoryAccessAddress pre s c l = 0 ∨ memoryAccessAddress pre s c l ∈ l) ∧
    (bitAt (s.msrVal 0x3F5) 31 = true → (sampleOne pre l s c).msr = s.msr ∧ (sampleOne pre l s c).mem = s.mem) ∧
    (bitAt (s.msrVal 0x3F5) 31 = false →
      let p := pebsRecord s c (eventingIp pre s c) (memoryAccessAddress pre s c l)
      let n := p.length
      let phys := fun j => pebsPhys s (pebsBase s + pebsOffset s + j)
      (pebsLimit s < pebsOffset s + n → (sampleOne pre l s c).mem = s.mem ∧
        bitAt ((sampleOne pre l s c).msrVal 0x3F5) 31 = true ∧ pebsOffset (sampleOne pre l s c) = pebsOffset s ∧
        (sampleOne pre l s c).msrVal (counterAddr c) = s.msrVal (counterAddr c)) ∧
      (pebsOffset s + n ≤ pebsLimit s →
        pebsOffset (sampleOne pre l s c) = (BitVec.ofNat 64 (pebsOffset s + n) &&& 0x7FFFFF0).toNat ∧
        bitAt ((sampleOne pre l s c).msrVal 0x3F5) 31 = (pebsOffset s + n == pebsLimit s) ∧
        (sampleOne pre l s c).msrVal (counterAddr c) = reloadValue (counterWidth s.cfg c) (cfgC s c) ∧
        (bitAt (s.msrVal 0x3F5) 32 = true → pebsThreshold s ≤ pebsOffset s + n →
          (sampleOne pre l s c).msrVal 0x38E = s.msrVal 0x38E ||| BitVec.ofNat 64 (2 ^ 54) ∧
          (sampleOne pre l s c).pebs.pmi = true) ∧
        (bitAt (s.msrVal 0x3F5) 32 = false ∨ pebsOffset s + n < pebsThreshold s →
          (sampleOne pre l s c).msrVal 0x38E = s.msrVal 0x38E ∧ (sampleOne pre l s c).pebs.pmi = s.pebs.pmi) ∧
        (∀ a, (∀ j, j < n → a ≠ phys j) → readByte (sampleOne pre l s c).seen a = readByte s.seen a) ∧
        (((List.range n).map phys).Nodup → ∀ j, j < n →
          readByte (sampleOne pre l s c).seen (phys j) =
            match p.getD j none with
            | some b => if reservedMemory s.cfg (phys j) then readByte s.seen (phys j) else b
            | none => readByte s.seen (phys j))))
end

