-- ==== Sys2Proof/Laws/Store.lean ====
section
/-! SUPPORT. Sparse stores: what a read gives after a change, and that every change keeps the canonical form. -/

namespace Sys2Proof.Machine

variable {α : Type}

@[simp] theorem Store.get_nil (d : α) (a : Nat) : Store.get d [] a = d := rfl

theorem Store.get_insert (d : α) (m : Store α) (a b : Nat) (v : α) :
    Store.get d (Store.insert m a v) b = if b = a then v else Store.get d m b := by
  induction m with
  | nil => rfl
  | cons e r ih =>
    obtain ⟨c, w⟩ := e
    simp only [Store.insert]
    split
    · rfl
    · split
      · subst_vars
        by_cases h : b = c <;> simp [Store.get, h]
      · simp only [Store.get, ih]
        by_cases h : b = c
        · subst h
          have : b ≠ a := by omega
          simp [this]
        · simp [h]

theorem Store.get_erase (d : α) (m : Store α) (a b : Nat) :
    Store.get d (m.filter (fun e => decide (e.1 ≠ a))) b = if b = a then d else Store.get d m b := by
  induction m with
  | nil => simp
  | cons e r ih =>
    obtain ⟨c, w⟩ := e
    by_cases h : c = a
    · subst h
      simp only [List.filter, ne_eq, not_true_eq_false, decide_false, ih]
      by_cases h : b = c <;> simp [Store.get, h]
    · simp only [List.filter, ne_eq, h, not_false_eq_true, decide_true, Store.get, ih]
      by_cases hb : b = c
      · subst hb; simp [h]
      · simp [hb]

/-- Reading after writing: the written value at its key, the old value everywhere else. -/
@[simp] theorem Store.get_put [DecidableEq α] (d : α) (m : Store α) (a b : Nat) (v : α) :
    Store.get d (Store.put d m a v) b = if b = a then v else Store.get d m b := by
  unfold Store.put
  split
  · next h => rw [Store.get_erase, h]
  · exact Store.get_insert d m a b v

theorem Store.wfFrom_mono [DecidableEq α] (d : α) (m : Store α) {n k : Nat} (h : n ≤ k) :
    Store.wfFrom d k m = true → Store.wfFrom d n m = true := by
  cases m with
  | nil => intro _; rfl
  | cons e r =>
    simp only [Store.wfFrom, Bool.and_eq_true, decide_eq_true_eq]
    exact fun ⟨⟨h1, h2⟩, h3⟩ => ⟨⟨by omega, h2⟩, h3⟩

theorem Store.wfFrom_insert [DecidableEq α] (d : α) (m : Store α) (n a : Nat) (v : α) (hv : v ≠ d) (hn : n ≤ a) :
    Store.wfFrom d n m = true → Store.wfFrom d n (Store.insert m a v) = true := by
  induction m generalizing n with
  | nil => simp [Store.insert, Store.wfFrom, hv, hn]
  | cons e r ih =>
    obtain ⟨c, w⟩ := e
    simp only [Store.insert, Store.wfFrom, Bool.and_eq_true, decide_eq_true_eq]
    intro ⟨⟨h1, h2⟩, h3⟩
    split
    · simp only [Store.wfFrom, Bool.and_eq_true, decide_eq_true_eq]
      exact ⟨⟨hn, hv⟩, ⟨by omega, h2⟩, h3⟩
    · split
      · simp only [Store.wfFrom, Bool.and_eq_true, decide_eq_true_eq]
        subst_vars
        exact ⟨⟨hn, hv⟩, h3⟩
      · simp only [Store.wfFrom, Bool.and_eq_true, decide_eq_true_eq]
        exact ⟨⟨h1, h2⟩, ih (c + 1) (by omega) h3⟩

theorem Store.wfFrom_filter [DecidableEq α] (d : α) (m : Store α) (n : Nat) (p : Nat × α → Bool) :
    Store.wfFrom d n m = true → Store.wfFrom d n (m.filter p) = true := by
  induction m generalizing n with
  | nil => intro _; rfl
  | cons e r ih =>
    obtain ⟨c, w⟩ := e
    simp only [Store.wfFrom, Bool.and_eq_true, decide_eq_true_eq]
    intro ⟨⟨h1, h2⟩, h3⟩
    by_cases h : p (c, w)
    · simp only [List.filter, h, Store.wfFrom, Bool.and_eq_true, decide_eq_true_eq]
      exact ⟨⟨h1, h2⟩, ih (c + 1) h3⟩
    · simp only [List.filter, h]
      exact Store.wfFrom_mono d _ (by omega) (ih (c + 1) h3)

/-- Every change keeps the canonical form. -/
theorem Store.wf_put [DecidableEq α] (d : α) (m : Store α) (a : Nat) (v : α) (h : Store.wf d m = true) :
    Store.wf d (Store.put d m a v) = true := by
  unfold Store.put
  split
  · exact Store.wfFrom_filter d m 0 _ h
  · next hv => exact Store.wfFrom_insert d m 0 a v hv (by omega) h

/-! ### Memory -/

@[simp] theorem readByte_writeByte (m : Store Byte) (a b : Nat) (v : Byte) :
    readByte (writeByte m a v) b = if b = a then v else readByte m b := Store.get_put memDefault m a b v

theorem Memory.wf_writeByte (m : Store Byte) (a : Nat) (v : Byte) (h : Memory.wf m = true) :
    Memory.wf (writeByte m a v) = true := Store.wf_put memDefault m a v h

theorem Memory.wf_writeBytes (m : Store Byte) (as : List Nat) (bs : List Byte) (h : Memory.wf m = true) :
    Memory.wf (writeBytes m as bs) = true := by
  induction as generalizing m bs with
  | nil => exact h
  | cons a as ih =>
    cases bs with
    | nil => exact h
    | cons b bs => exact ih _ bs (Memory.wf_writeByte m a b h)

/-- Bytes outside the stored addresses keep their values. -/
theorem readByte_writeBytes_frame (m : Store Byte) (as : List Nat) (bs : List Byte) (b : Nat) (h : b ∉ as) :
    readByte (writeBytes m as bs) b = readByte m b := by
  induction as generalizing m bs with
  | nil => rfl
  | cons a as ih =>
    cases bs with
    | nil => rfl
    | cons x bs =>
      simp only [List.mem_cons, not_or] at h
      rw [writeBytes, ih _ bs h.2, readByte_writeByte]
      simp [h.1]

theorem Memory.wf_raoPerform (m : Store Byte) (e : RaoEntry) (h : Memory.wf m = true) :
    Memory.wf (raoPerform m e) = true := Memory.wf_writeBytes m _ _ h

theorem Memory.wf_raoPerformAll (m : Store Byte) (l : List RaoEntry) (h : Memory.wf m = true) :
    Memory.wf (raoPerformAll m l) = true := by
  induction l generalizing m with
  | nil => exact h
  | cons e l ih => exact ih _ (Memory.wf_raoPerform m e h)

/-- Performing an update leaves every byte outside its location alone (R130). -/
theorem readByte_raoPerform_frame (m : Store Byte) (e : RaoEntry) (b : Nat) (h : b ∉ e.bytes) :
    readByte (raoPerform m e) b = readByte m b := readByte_writeBytes_frame m _ _ b h

theorem Memory.wf_raoForce (s : State) (fp : List Nat) (h : Memory.wf s.mem = true) :
    Memory.wf (s.raoForce fp).mem = true := by
  unfold State.raoForce
  split
  · exact h
  · exact Memory.wf_raoPerformAll _ _ h

theorem Memory.wf_raoDrain (s : State) (h : Memory.wf s.mem = true) : Memory.wf s.raoDrain.mem = true :=
  Memory.wf_raoPerformAll _ _ h

theorem Memory.wf_raoStep (s : State) (h : Memory.wf s.mem = true) : Memory.wf s.raoStep.mem = true := by
  unfold State.raoStep
  split
  · exact h
  · exact Memory.wf_raoPerformAll _ _ h

theorem Memory.wf_store (s : State) (as : List Nat) (bs : List Byte) (h : Memory.wf s.mem = true) :
    Memory.wf (s.store as bs).mem = true := Memory.wf_writeBytes _ _ _ h

theorem Memory.wf_reset : Memory.wf State.reset.mem = true := rfl

end Sys2Proof.Machine
end

