-- ==== Sys2Proof/Laws/State.lean ====
section
/-! SUPPORT. What each update of the state leaves alone and what it writes, one lemma a field. -/

namespace Sys2Proof.Machine

variable (s : State)

@[simp] theorem State.setReg_gpr (g : Gpr) (v : W64) : (s.setReg g v).gpr = s.gpr.set g v := rfl
@[simp] theorem State.setReg_rip (g : Gpr) (v : W64) : (s.setReg g v).rip = s.rip := rfl
@[simp] theorem State.setReg_rflags (g : Gpr) (v : W64) : (s.setReg g v).rflags = s.rflags := rfl
@[simp] theorem State.setReg_sys (g : Gpr) (v : W64) : (s.setReg g v).sys = s.sys := rfl
@[simp] theorem State.setReg_ctx (g : Gpr) (v : W64) : (s.setReg g v).ctx = s.ctx := rfl
@[simp] theorem State.setReg_vec (g : Gpr) (v : W64) : (s.setReg g v).vec = s.vec := rfl
@[simp] theorem State.setReg_amx (g : Gpr) (v : W64) : (s.setReg g v).amx = s.amx := rfl
@[simp] theorem State.setReg_msr (g : Gpr) (v : W64) : (s.setReg g v).msr = s.msr := rfl
@[simp] theorem State.setReg_tsc (g : Gpr) (v : W64) : (s.setReg g v).tsc = s.tsc := rfl
@[simp] theorem State.setReg_vmcs (g : Gpr) (v : W64) : (s.setReg g v).vmcs = s.vmcs := rfl
@[simp] theorem State.setReg_guestDeadline (g : Gpr) (v : W64) : (s.setReg g v).guestDeadline = s.guestDeadline := rfl
@[simp] theorem State.setReg_uirr (g : Gpr) (v : W64) : (s.setReg g v).uirr = s.uirr := rfl
@[simp] theorem State.setReg_uif (g : Gpr) (v : W64) : (s.setReg g v).uif = s.uif := rfl
@[simp] theorem State.setReg_userInterrupt (g : Gpr) (v : W64) : (s.setReg g v).userInterrupt = s.userInterrupt := rfl
@[simp] theorem State.setReg_virtualInterrupt (g : Gpr) (v : W64) : (s.setReg g v).virtualInterrupt = s.virtualInterrupt := rfl
@[simp] theorem State.setReg_monitor (g : Gpr) (v : W64) : (s.setReg g v).monitor = s.monitor := rfl
@[simp] theorem State.setReg_tmemk (g : Gpr) (v : W64) : (s.setReg g v).tmemk = s.tmemk := rfl
@[simp] theorem State.setReg_tse (g : Gpr) (v : W64) : (s.setReg g v).tse = s.tse := rfl
@[simp] theorem State.setReg_rao (g : Gpr) (v : W64) : (s.setReg g v).rao = s.rao := rfl
@[simp] theorem State.setReg_pt (g : Gpr) (v : W64) : (s.setReg g v).pt = s.pt := rfl
@[simp] theorem State.setReg_pebs (g : Gpr) (v : W64) : (s.setReg g v).pebs = s.pebs := rfl
@[simp] theorem State.setReg_mem (g : Gpr) (v : W64) : (s.setReg g v).mem = s.mem := rfl
@[simp] theorem State.setReg_delivered (g : Gpr) (v : W64) : (s.setReg g v).delivered = s.delivered := rfl
@[simp] theorem State.setReg_cfg (g : Gpr) (v : W64) : (s.setReg g v).cfg = s.cfg := rfl
@[simp] theorem State.setReg_draws (g : Gpr) (v : W64) : (s.setReg g v).draws = s.draws := rfl
@[simp] theorem State.setReg_ilen (g : Gpr) (v : W64) : (s.setReg g v).ilen = s.ilen := rfl

@[simp] theorem State.setReg32_gpr (g : Gpr) (v : W32) : (s.setReg32 g v).gpr = s.gpr.set g (v.setWidth 64) := rfl
@[simp] theorem State.setReg32_rip (g : Gpr) (v : W32) : (s.setReg32 g v).rip = s.rip := rfl
@[simp] theorem State.setReg32_rflags (g : Gpr) (v : W32) : (s.setReg32 g v).rflags = s.rflags := rfl
@[simp] theorem State.setReg32_sys (g : Gpr) (v : W32) : (s.setReg32 g v).sys = s.sys := rfl
@[simp] theorem State.setReg32_ctx (g : Gpr) (v : W32) : (s.setReg32 g v).ctx = s.ctx := rfl
@[simp] theorem State.setReg32_vec (g : Gpr) (v : W32) : (s.setReg32 g v).vec = s.vec := rfl
@[simp] theorem State.setReg32_amx (g : Gpr) (v : W32) : (s.setReg32 g v).amx = s.amx := rfl
@[simp] theorem State.setReg32_msr (g : Gpr) (v : W32) : (s.setReg32 g v).msr = s.msr := rfl
@[simp] theorem State.setReg32_tsc (g : Gpr) (v : W32) : (s.setReg32 g v).tsc = s.tsc := rfl
@[simp] theorem State.setReg32_vmcs (g : Gpr) (v : W32) : (s.setReg32 g v).vmcs = s.vmcs := rfl
@[simp] theorem State.setReg32_guestDeadline (g : Gpr) (v : W32) : (s.setReg32 g v).guestDeadline = s.guestDeadline := rfl
@[simp] theorem State.setReg32_uirr (g : Gpr) (v : W32) : (s.setReg32 g v).uirr = s.uirr := rfl
@[simp] theorem State.setReg32_uif (g : Gpr) (v : W32) : (s.setReg32 g v).uif = s.uif := rfl
@[simp] theorem State.setReg32_userInterrupt (g : Gpr) (v : W32) : (s.setReg32 g v).userInterrupt = s.userInterrupt := rfl
@[simp] theorem State.setReg32_virtualInterrupt (g : Gpr) (v : W32) : (s.setReg32 g v).virtualInterrupt = s.virtualInterrupt := rfl
@[simp] theorem State.setReg32_monitor (g : Gpr) (v : W32) : (s.setReg32 g v).monitor = s.monitor := rfl
@[simp] theorem State.setReg32_tmemk (g : Gpr) (v : W32) : (s.setReg32 g v).tmemk = s.tmemk := rfl
@[simp] theorem State.setReg32_tse (g : Gpr) (v : W32) : (s.setReg32 g v).tse = s.tse := rfl
@[simp] theorem State.setReg32_rao (g : Gpr) (v : W32) : (s.setReg32 g v).rao = s.rao := rfl
@[simp] theorem State.setReg32_pt (g : Gpr) (v : W32) : (s.setReg32 g v).pt = s.pt := rfl
@[simp] theorem State.setReg32_pebs (g : Gpr) (v : W32) : (s.setReg32 g v).pebs = s.pebs := rfl
@[simp] theorem State.setReg32_mem (g : Gpr) (v : W32) : (s.setReg32 g v).mem = s.mem := rfl
@[simp] theorem State.setReg32_delivered (g : Gpr) (v : W32) : (s.setReg32 g v).delivered = s.delivered := rfl
@[simp] theorem State.setReg32_cfg (g : Gpr) (v : W32) : (s.setReg32 g v).cfg = s.cfg := rfl
@[simp] theorem State.setReg32_draws (g : Gpr) (v : W32) : (s.setReg32 g v).draws = s.draws := rfl
@[simp] theorem State.setReg32_ilen (g : Gpr) (v : W32) : (s.setReg32 g v).ilen = s.ilen := rfl

@[simp] theorem State.setZmm_gpr (r : VReg) (v : W512) : (s.setZmm r v).gpr = s.gpr := rfl
@[simp] theorem State.setZmm_rip (r : VReg) (v : W512) : (s.setZmm r v).rip = s.rip := rfl
@[simp] theorem State.setZmm_rflags (r : VReg) (v : W512) : (s.setZmm r v).rflags = s.rflags := rfl
@[simp] theorem State.setZmm_sys (r : VReg) (v : W512) : (s.setZmm r v).sys = s.sys := rfl
@[simp] theorem State.setZmm_ctx (r : VReg) (v : W512) : (s.setZmm r v).ctx = s.ctx := rfl
@[simp] theorem State.setZmm_amx (r : VReg) (v : W512) : (s.setZmm r v).amx = s.amx := rfl
@[simp] theorem State.setZmm_msr (r : VReg) (v : W512) : (s.setZmm r v).msr = s.msr := rfl
@[simp] theorem State.setZmm_tsc (r : VReg) (v : W512) : (s.setZmm r v).tsc = s.tsc := rfl
@[simp] theorem State.setZmm_vmcs (r : VReg) (v : W512) : (s.setZmm r v).vmcs = s.vmcs := rfl
@[simp] theorem State.setZmm_guestDeadline (r : VReg) (v : W512) : (s.setZmm r v).guestDeadline = s.guestDeadline := rfl
@[simp] theorem State.setZmm_uirr (r : VReg) (v : W512) : (s.setZmm r v).uirr = s.uirr := rfl
@[simp] theorem State.setZmm_uif (r : VReg) (v : W512) : (s.setZmm r v).uif = s.uif := rfl
@[simp] theorem State.setZmm_userInterrupt (r : VReg) (v : W512) : (s.setZmm r v).userInterrupt = s.userInterrupt := rfl
@[simp] theorem State.setZmm_virtualInterrupt (r : VReg) (v : W512) : (s.setZmm r v).virtualInterrupt = s.virtualInterrupt := rfl
@[simp] theorem State.setZmm_monitor (r : VReg) (v : W512) : (s.setZmm r v).monitor = s.monitor := rfl
@[simp] theorem State.setZmm_tmemk (r : VReg) (v : W512) : (s.setZmm r v).tmemk = s.tmemk := rfl
@[simp] theorem State.setZmm_tse (r : VReg) (v : W512) : (s.setZmm r v).tse = s.tse := rfl
@[simp] theorem State.setZmm_rao (r : VReg) (v : W512) : (s.setZmm r v).rao = s.rao := rfl
@[simp] theorem State.setZmm_pt (r : VReg) (v : W512) : (s.setZmm r v).pt = s.pt := rfl
@[simp] theorem State.setZmm_pebs (r : VReg) (v : W512) : (s.setZmm r v).pebs = s.pebs := rfl
@[simp] theorem State.setZmm_mem (r : VReg) (v : W512) : (s.setZmm r v).mem = s.mem := rfl
@[simp] theorem State.setZmm_delivered (r : VReg) (v : W512) : (s.setZmm r v).delivered = s.delivered := rfl
@[simp] theorem State.setZmm_cfg (r : VReg) (v : W512) : (s.setZmm r v).cfg = s.cfg := rfl
@[simp] theorem State.setZmm_draws (r : VReg) (v : W512) : (s.setZmm r v).draws = s.draws := rfl
@[simp] theorem State.setZmm_ilen (r : VReg) (v : W512) : (s.setZmm r v).ilen = s.ilen := rfl

@[simp] theorem State.setMsr_gpr (a : Nat) (v : W64) : (s.setMsr a v).gpr = s.gpr := rfl
@[simp] theorem State.setMsr_rip (a : Nat) (v : W64) : (s.setMsr a v).rip = s.rip := rfl
@[simp] theorem State.setMsr_rflags (a : Nat) (v : W64) : (s.setMsr a v).rflags = s.rflags := rfl
@[simp] theorem State.setMsr_sys (a : Nat) (v : W64) : (s.setMsr a v).sys = s.sys := rfl
@[simp] theorem State.setMsr_ctx (a : Nat) (v : W64) : (s.setMsr a v).ctx = s.ctx := rfl
@[simp] theorem State.setMsr_vec (a : Nat) (v : W64) : (s.setMsr a v).vec = s.vec := rfl
@[simp] theorem State.setMsr_amx (a : Nat) (v : W64) : (s.setMsr a v).amx = s.amx := rfl
@[simp] theorem State.setMsr_msr (a : Nat) (v : W64) : (s.setMsr a v).msr = Store.put 0 s.msr a v := rfl
@[simp] theorem State.setMsr_tsc (a : Nat) (v : W64) : (s.setMsr a v).tsc = s.tsc := rfl
@[simp] theorem State.setMsr_vmcs (a : Nat) (v : W64) : (s.setMsr a v).vmcs = s.vmcs := rfl
@[simp] theorem State.setMsr_guestDeadline (a : Nat) (v : W64) : (s.setMsr a v).guestDeadline = s.guestDeadline := rfl
@[simp] theorem State.setMsr_uirr (a : Nat) (v : W64) : (s.setMsr a v).uirr = s.uirr := rfl
@[simp] theorem State.setMsr_uif (a : Nat) (v : W64) : (s.setMsr a v).uif = s.uif := rfl
@[simp] theorem State.setMsr_userInterrupt (a : Nat) (v : W64) : (s.setMsr a v).userInterrupt = s.userInterrupt := rfl
@[simp] theorem State.setMsr_virtualInterrupt (a : Nat) (v : W64) : (s.setMsr a v).virtualInterrupt = s.virtualInterrupt := rfl
@[simp] theorem State.setMsr_monitor (a : Nat) (v : W64) : (s.setMsr a v).monitor = s.monitor := rfl
@[simp] theorem State.setMsr_tmemk (a : Nat) (v : W64) : (s.setMsr a v).tmemk = s.tmemk := rfl
@[simp] theorem State.setMsr_tse (a : Nat) (v : W64) : (s.setMsr a v).tse = s.tse := rfl
@[simp] theorem State.setMsr_rao (a : Nat) (v : W64) : (s.setMsr a v).rao = s.rao := rfl
@[simp] theorem State.setMsr_pt (a : Nat) (v : W64) : (s.setMsr a v).pt = s.pt := rfl
@[simp] theorem State.setMsr_pebs (a : Nat) (v : W64) : (s.setMsr a v).pebs = s.pebs := rfl
@[simp] theorem State.setMsr_mem (a : Nat) (v : W64) : (s.setMsr a v).mem = s.mem := rfl
@[simp] theorem State.setMsr_delivered (a : Nat) (v : W64) : (s.setMsr a v).delivered = s.delivered := rfl
@[simp] theorem State.setMsr_cfg (a : Nat) (v : W64) : (s.setMsr a v).cfg = s.cfg := rfl
@[simp] theorem State.setMsr_draws (a : Nat) (v : W64) : (s.setMsr a v).draws = s.draws := rfl
@[simp] theorem State.setMsr_ilen (a : Nat) (v : W64) : (s.setMsr a v).ilen = s.ilen := rfl

@[simp] theorem State.drawn_gpr (n : Nat) : (s.drawn n).gpr = s.gpr := rfl
@[simp] theorem State.drawn_rip (n : Nat) : (s.drawn n).rip = s.rip := rfl
@[simp] theorem State.drawn_rflags (n : Nat) : (s.drawn n).rflags = s.rflags := rfl
@[simp] theorem State.drawn_sys (n : Nat) : (s.drawn n).sys = s.sys := rfl
@[simp] theorem State.drawn_ctx (n : Nat) : (s.drawn n).ctx = s.ctx := rfl
@[simp] theorem State.drawn_vec (n : Nat) : (s.drawn n).vec = s.vec := rfl
@[simp] theorem State.drawn_amx (n : Nat) : (s.drawn n).amx = s.amx := rfl
@[simp] theorem State.drawn_msr (n : Nat) : (s.drawn n).msr = s.msr := rfl
@[simp] theorem State.drawn_tsc (n : Nat) : (s.drawn n).tsc = s.tsc := rfl
@[simp] theorem State.drawn_vmcs (n : Nat) : (s.drawn n).vmcs = s.vmcs := rfl
@[simp] theorem State.drawn_guestDeadline (n : Nat) : (s.drawn n).guestDeadline = s.guestDeadline := rfl
@[simp] theorem State.drawn_uirr (n : Nat) : (s.drawn n).uirr = s.uirr := rfl
@[simp] theorem State.drawn_uif (n : Nat) : (s.drawn n).uif = s.uif := rfl
@[simp] theorem State.drawn_userInterrupt (n : Nat) : (s.drawn n).userInterrupt = s.userInterrupt := rfl
@[simp] theorem State.drawn_virtualInterrupt (n : Nat) : (s.drawn n).virtualInterrupt = s.virtualInterrupt := rfl
@[simp] theorem State.drawn_monitor (n : Nat) : (s.drawn n).monitor = s.monitor := rfl
@[simp] theorem State.drawn_tmemk (n : Nat) : (s.drawn n).tmemk = s.tmemk := rfl
@[simp] theorem State.drawn_tse (n : Nat) : (s.drawn n).tse = s.tse := rfl
@[simp] theorem State.drawn_rao (n : Nat) : (s.drawn n).rao = s.rao := rfl
@[simp] theorem State.drawn_pt (n : Nat) : (s.drawn n).pt = s.pt := rfl
@[simp] theorem State.drawn_pebs (n : Nat) : (s.drawn n).pebs = s.pebs := rfl
@[simp] theorem State.drawn_mem (n : Nat) : (s.drawn n).mem = s.mem := rfl
@[simp] theorem State.drawn_delivered (n : Nat) : (s.drawn n).delivered = s.delivered := rfl
@[simp] theorem State.drawn_cfg (n : Nat) : (s.drawn n).cfg = s.cfg := rfl
@[simp] theorem State.drawn_draws (n : Nat) : (s.drawn n).draws = s.draws + n := rfl
@[simp] theorem State.drawn_ilen (n : Nat) : (s.drawn n).ilen = s.ilen := rfl

@[simp] theorem State.advance_gpr : (s.advance).gpr = s.gpr := rfl
@[simp] theorem State.advance_rip : (s.advance).rip = s.nextRip := rfl
@[simp] theorem State.advance_rflags : (s.advance).rflags = s.rflags := rfl
@[simp] theorem State.advance_sys : (s.advance).sys = s.sys := rfl
@[simp] theorem State.advance_ctx : (s.advance).ctx = s.ctx := rfl
@[simp] theorem State.advance_vec : (s.advance).vec = s.vec := rfl
@[simp] theorem State.advance_amx : (s.advance).amx = s.amx := rfl
@[simp] theorem State.advance_msr : (s.advance).msr = s.msr := rfl
@[simp] theorem State.advance_tsc : (s.advance).tsc = s.tsc := rfl
@[simp] theorem State.advance_vmcs : (s.advance).vmcs = s.vmcs := rfl
@[simp] theorem State.advance_guestDeadline : (s.advance).guestDeadline = s.guestDeadline := rfl
@[simp] theorem State.advance_uirr : (s.advance).uirr = s.uirr := rfl
@[simp] theorem State.advance_uif : (s.advance).uif = s.uif := rfl
@[simp] theorem State.advance_userInterrupt : (s.advance).userInterrupt = s.userInterrupt := rfl
@[simp] theorem State.advance_virtualInterrupt : (s.advance).virtualInterrupt = s.virtualInterrupt := rfl
@[simp] theorem State.advance_monitor : (s.advance).monitor = s.monitor := rfl
@[simp] theorem State.advance_tmemk : (s.advance).tmemk = s.tmemk := rfl
@[simp] theorem State.advance_tse : (s.advance).tse = s.tse := rfl
@[simp] theorem State.advance_rao : (s.advance).rao = s.rao := rfl
@[simp] theorem State.advance_pt : (s.advance).pt = s.pt := rfl
@[simp] theorem State.advance_pebs : (s.advance).pebs = s.pebs := rfl
@[simp] theorem State.advance_mem : (s.advance).mem = s.mem := rfl
@[simp] theorem State.advance_delivered : (s.advance).delivered = s.delivered := rfl
@[simp] theorem State.advance_cfg : (s.advance).cfg = s.cfg := rfl
@[simp] theorem State.advance_draws : (s.advance).draws = s.draws := rfl
@[simp] theorem State.advance_ilen : (s.advance).ilen = s.ilen := rfl

@[simp] theorem State.keyFlags_gpr (b : Bool) : (s.keyFlags b).gpr = s.gpr := rfl
@[simp] theorem State.keyFlags_rip (b : Bool) : (s.keyFlags b).rip = s.rip := rfl
@[simp] theorem State.keyFlags_sys (b : Bool) : (s.keyFlags b).sys = s.sys := rfl
@[simp] theorem State.keyFlags_ctx (b : Bool) : (s.keyFlags b).ctx = s.ctx := rfl
@[simp] theorem State.keyFlags_vec (b : Bool) : (s.keyFlags b).vec = s.vec := rfl
@[simp] theorem State.keyFlags_amx (b : Bool) : (s.keyFlags b).amx = s.amx := rfl
@[simp] theorem State.keyFlags_msr (b : Bool) : (s.keyFlags b).msr = s.msr := rfl
@[simp] theorem State.keyFlags_tsc (b : Bool) : (s.keyFlags b).tsc = s.tsc := rfl
@[simp] theorem State.keyFlags_vmcs (b : Bool) : (s.keyFlags b).vmcs = s.vmcs := rfl
@[simp] theorem State.keyFlags_guestDeadline (b : Bool) : (s.keyFlags b).guestDeadline = s.guestDeadline := rfl
@[simp] theorem State.keyFlags_uirr (b : Bool) : (s.keyFlags b).uirr = s.uirr := rfl
@[simp] theorem State.keyFlags_uif (b : Bool) : (s.keyFlags b).uif = s.uif := rfl
@[simp] theorem State.keyFlags_userInterrupt (b : Bool) : (s.keyFlags b).userInterrupt = s.userInterrupt := rfl
@[simp] theorem State.keyFlags_virtualInterrupt (b : Bool) : (s.keyFlags b).virtualInterrupt = s.virtualInterrupt := rfl
@[simp] theorem State.keyFlags_monitor (b : Bool) : (s.keyFlags b).monitor = s.monitor := rfl
@[simp] theorem State.keyFlags_tmemk (b : Bool) : (s.keyFlags b).tmemk = s.tmemk := rfl
@[simp] theorem State.keyFlags_tse (b : Bool) : (s.keyFlags b).tse = s.tse := rfl
@[simp] theorem State.keyFlags_rao (b : Bool) : (s.keyFlags b).rao = s.rao := rfl
@[simp] theorem State.keyFlags_pt (b : Bool) : (s.keyFlags b).pt = s.pt := rfl
@[simp] theorem State.keyFlags_pebs (b : Bool) : (s.keyFlags b).pebs = s.pebs := rfl
@[simp] theorem State.keyFlags_mem (b : Bool) : (s.keyFlags b).mem = s.mem := rfl
@[simp] theorem State.keyFlags_delivered (b : Bool) : (s.keyFlags b).delivered = s.delivered := rfl
@[simp] theorem State.keyFlags_cfg (b : Bool) : (s.keyFlags b).cfg = s.cfg := rfl
@[simp] theorem State.keyFlags_draws (b : Bool) : (s.keyFlags b).draws = s.draws := rfl
@[simp] theorem State.keyFlags_ilen (b : Bool) : (s.keyFlags b).ilen = s.ilen := rfl

@[simp] theorem State.store_gpr (as : List Nat) (bs : List Byte) : (s.store as bs).gpr = s.gpr := rfl
@[simp] theorem State.store_rip (as : List Nat) (bs : List Byte) : (s.store as bs).rip = s.rip := rfl
@[simp] theorem State.store_rflags (as : List Nat) (bs : List Byte) : (s.store as bs).rflags = s.rflags := rfl
@[simp] theorem State.store_sys (as : List Nat) (bs : List Byte) : (s.store as bs).sys = s.sys := rfl
@[simp] theorem State.store_ctx (as : List Nat) (bs : List Byte) : (s.store as bs).ctx = s.ctx := rfl
@[simp] theorem State.store_vec (as : List Nat) (bs : List Byte) : (s.store as bs).vec = s.vec := rfl
@[simp] theorem State.store_amx (as : List Nat) (bs : List Byte) : (s.store as bs).amx = s.amx := rfl
@[simp] theorem State.store_msr (as : List Nat) (bs : List Byte) : (s.store as bs).msr = s.msr := rfl
@[simp] theorem State.store_tsc (as : List Nat) (bs : List Byte) : (s.store as bs).tsc = s.tsc := rfl
@[simp] theorem State.store_vmcs (as : List Nat) (bs : List Byte) : (s.store as bs).vmcs = s.vmcs := rfl
@[simp] theorem State.store_guestDeadline (as : List Nat) (bs : List Byte) : (s.store as bs).guestDeadline = s.guestDeadline := rfl
@[simp] theorem State.store_uirr (as : List Nat) (bs : List Byte) : (s.store as bs).uirr = s.uirr := rfl
@[simp] theorem State.store_uif (as : List Nat) (bs : List Byte) : (s.store as bs).uif = s.uif := rfl
@[simp] theorem State.store_userInterrupt (as : List Nat) (bs : List Byte) : (s.store as bs).userInterrupt = s.userInterrupt := rfl
@[simp] theorem State.store_virtualInterrupt (as : List Nat) (bs : List Byte) : (s.store as bs).virtualInterrupt = s.virtualInterrupt := rfl
@[simp] theorem State.store_monitor (as : List Nat) (bs : List Byte) : (s.store as bs).monitor = s.monitor.stored as := rfl
@[simp] theorem State.store_tmemk (as : List Nat) (bs : List Byte) : (s.store as bs).tmemk = s.tmemk := rfl
@[simp] theorem State.store_tse (as : List Nat) (bs : List Byte) : (s.store as bs).tse = s.tse := rfl
@[simp] theorem State.store_rao (as : List Nat) (bs : List Byte) : (s.store as bs).rao = s.rao := rfl
@[simp] theorem State.store_pt (as : List Nat) (bs : List Byte) : (s.store as bs).pt = s.pt := rfl
@[simp] theorem State.store_pebs (as : List Nat) (bs : List Byte) : (s.store as bs).pebs = s.pebs := rfl
@[simp] theorem State.store_mem (as : List Nat) (bs : List Byte) : (s.store as bs).mem = writeBytes s.mem as bs := rfl
@[simp] theorem State.store_delivered (as : List Nat) (bs : List Byte) : (s.store as bs).delivered = s.delivered := rfl
@[simp] theorem State.store_cfg (as : List Nat) (bs : List Byte) : (s.store as bs).cfg = s.cfg := rfl
@[simp] theorem State.store_draws (as : List Nat) (bs : List Byte) : (s.store as bs).draws = s.draws := rfl
@[simp] theorem State.store_ilen (as : List Nat) (bs : List Byte) : (s.store as bs).ilen = s.ilen := rfl

@[simp] theorem State.raoDrain_gpr : (s.raoDrain).gpr = s.gpr := rfl
@[simp] theorem State.raoDrain_rip : (s.raoDrain).rip = s.rip := rfl
@[simp] theorem State.raoDrain_rflags : (s.raoDrain).rflags = s.rflags := rfl
@[simp] theorem State.raoDrain_sys : (s.raoDrain).sys = s.sys := rfl
@[simp] theorem State.raoDrain_ctx : (s.raoDrain).ctx = s.ctx := rfl
@[simp] theorem State.raoDrain_vec : (s.raoDrain).vec = s.vec := rfl
@[simp] theorem State.raoDrain_amx : (s.raoDrain).amx = s.amx := rfl
@[simp] theorem State.raoDrain_msr : (s.raoDrain).msr = s.msr := rfl
@[simp] theorem State.raoDrain_tsc : (s.raoDrain).tsc = s.tsc := rfl
@[simp] theorem State.raoDrain_vmcs : (s.raoDrain).vmcs = s.vmcs := rfl
@[simp] theorem State.raoDrain_guestDeadline : (s.raoDrain).guestDeadline = s.guestDeadline := rfl
@[simp] theorem State.raoDrain_uirr : (s.raoDrain).uirr = s.uirr := rfl
@[simp] theorem State.raoDrain_uif : (s.raoDrain).uif = s.uif := rfl
@[simp] theorem State.raoDrain_userInterrupt : (s.raoDrain).userInterrupt = s.userInterrupt := rfl
@[simp] theorem State.raoDrain_virtualInterrupt : (s.raoDrain).virtualInterrupt = s.virtualInterrupt := rfl
@[simp] theorem State.raoDrain_tmemk : (s.raoDrain).tmemk = s.tmemk := rfl
@[simp] theorem State.raoDrain_tse : (s.raoDrain).tse = s.tse := rfl
@[simp] theorem State.raoDrain_rao : (s.raoDrain).rao = [] := rfl
@[simp] theorem State.raoDrain_pt : (s.raoDrain).pt = s.pt := rfl
@[simp] theorem State.raoDrain_pebs : (s.raoDrain).pebs = s.pebs := rfl
@[simp] theorem State.raoDrain_mem : (s.raoDrain).mem = raoPerformAll s.mem s.rao := rfl
@[simp] theorem State.raoDrain_delivered : (s.raoDrain).delivered = s.delivered := rfl
@[simp] theorem State.raoDrain_cfg : (s.raoDrain).cfg = s.cfg := rfl
@[simp] theorem State.raoDrain_draws : (s.raoDrain).draws = s.draws := rfl
@[simp] theorem State.raoDrain_ilen : (s.raoDrain).ilen = s.ilen := rfl

@[simp] theorem State.post_gpr (e : RaoEntry) : (s.post e).gpr = s.gpr := rfl
@[simp] theorem State.post_rip (e : RaoEntry) : (s.post e).rip = s.rip := rfl
@[simp] theorem State.post_rflags (e : RaoEntry) : (s.post e).rflags = s.rflags := rfl
@[simp] theorem State.post_sys (e : RaoEntry) : (s.post e).sys = s.sys := rfl
@[simp] theorem State.post_ctx (e : RaoEntry) : (s.post e).ctx = s.ctx := rfl
@[simp] theorem State.post_vec (e : RaoEntry) : (s.post e).vec = s.vec := rfl
@[simp] theorem State.post_amx (e : RaoEntry) : (s.post e).amx = s.amx := rfl
@[simp] theorem State.post_msr (e : RaoEntry) : (s.post e).msr = s.msr := rfl
@[simp] theorem State.post_tsc (e : RaoEntry) : (s.post e).tsc = s.tsc := rfl
@[simp] theorem State.post_vmcs (e : RaoEntry) : (s.post e).vmcs = s.vmcs := rfl
@[simp] theorem State.post_guestDeadline (e : RaoEntry) : (s.post e).guestDeadline = s.guestDeadline := rfl
@[simp] theorem State.post_uirr (e : RaoEntry) : (s.post e).uirr = s.uirr := rfl
@[simp] theorem State.post_uif (e : RaoEntry) : (s.post e).uif = s.uif := rfl
@[simp] theorem State.post_userInterrupt (e : RaoEntry) : (s.post e).userInterrupt = s.userInterrupt := rfl
@[simp] theorem State.post_virtualInterrupt (e : RaoEntry) : (s.post e).virtualInterrupt = s.virtualInterrupt := rfl
@[simp] theorem State.post_monitor (e : RaoEntry) : (s.post e).monitor = s.monitor := rfl
@[simp] theorem State.post_tmemk (e : RaoEntry) : (s.post e).tmemk = s.tmemk := rfl
@[simp] theorem State.post_tse (e : RaoEntry) : (s.post e).tse = s.tse := rfl
@[simp] theorem State.post_rao (e : RaoEntry) : (s.post e).rao = s.rao ++ [e] := rfl
@[simp] theorem State.post_pt (e : RaoEntry) : (s.post e).pt = s.pt := rfl
@[simp] theorem State.post_pebs (e : RaoEntry) : (s.post e).pebs = s.pebs := rfl
@[simp] theorem State.post_mem (e : RaoEntry) : (s.post e).mem = s.mem := rfl
@[simp] theorem State.post_delivered (e : RaoEntry) : (s.post e).delivered = s.delivered := rfl
@[simp] theorem State.post_cfg (e : RaoEntry) : (s.post e).cfg = s.cfg := rfl
@[simp] theorem State.post_draws (e : RaoEntry) : (s.post e).draws = s.draws := rfl
@[simp] theorem State.post_ilen (e : RaoEntry) : (s.post e).ilen = s.ilen := rfl

@[simp] theorem State.setTile_gpr (t : Tmm) (v : Vector W512 16) : (s.setTile t v).gpr = s.gpr := rfl
@[simp] theorem State.setTile_rip (t : Tmm) (v : Vector W512 16) : (s.setTile t v).rip = s.rip := rfl
@[simp] theorem State.setTile_rflags (t : Tmm) (v : Vector W512 16) : (s.setTile t v).rflags = s.rflags := rfl
@[simp] theorem State.setTile_sys (t : Tmm) (v : Vector W512 16) : (s.setTile t v).sys = s.sys := rfl
@[simp] theorem State.setTile_ctx (t : Tmm) (v : Vector W512 16) : (s.setTile t v).ctx = s.ctx := rfl
@[simp] theorem State.setTile_vec (t : Tmm) (v : Vector W512 16) : (s.setTile t v).vec = s.vec := rfl
@[simp] theorem State.setTile_msr (t : Tmm) (v : Vector W512 16) : (s.setTile t v).msr = s.msr := rfl
@[simp] theorem State.setTile_tsc (t : Tmm) (v : Vector W512 16) : (s.setTile t v).tsc = s.tsc := rfl
@[simp] theorem State.setTile_vmcs (t : Tmm) (v : Vector W512 16) : (s.setTile t v).vmcs = s.vmcs := rfl
@[simp] theorem State.setTile_guestDeadline (t : Tmm) (v : Vector W512 16) : (s.setTile t v).guestDeadline = s.guestDeadline := rfl
@[simp] theorem State.setTile_uirr (t : Tmm) (v : Vector W512 16) : (s.setTile t v).uirr = s.uirr := rfl
@[simp] theorem State.setTile_uif (t : Tmm) (v : Vector W512 16) : (s.setTile t v).uif = s.uif := rfl
@[simp] theorem State.setTile_userInterrupt (t : Tmm) (v : Vector W512 16) : (s.setTile t v).userInterrupt = s.userInterrupt := rfl
@[simp] theorem State.setTile_virtualInterrupt (t : Tmm) (v : Vector W512 16) : (s.setTile t v).virtualInterrupt = s.virtualInterrupt := rfl
@[simp] theorem State.setTile_monitor (t : Tmm) (v : Vector W512 16) : (s.setTile t v).monitor = s.monitor := rfl
@[simp] theorem State.setTile_tmemk (t : Tmm) (v : Vector W512 16) : (s.setTile t v).tmemk = s.tmemk := rfl
@[simp] theorem State.setTile_tse (t : Tmm) (v : Vector W512 16) : (s.setTile t v).tse = s.tse := rfl
@[simp] theorem State.setTile_rao (t : Tmm) (v : Vector W512 16) : (s.setTile t v).rao = s.rao := rfl
@[simp] theorem State.setTile_pt (t : Tmm) (v : Vector W512 16) : (s.setTile t v).pt = s.pt := rfl
@[simp] theorem State.setTile_pebs (t : Tmm) (v : Vector W512 16) : (s.setTile t v).pebs = s.pebs := rfl
@[simp] theorem State.setTile_mem (t : Tmm) (v : Vector W512 16) : (s.setTile t v).mem = s.mem := rfl
@[simp] theorem State.setTile_delivered (t : Tmm) (v : Vector W512 16) : (s.setTile t v).delivered = s.delivered := rfl
@[simp] theorem State.setTile_cfg (t : Tmm) (v : Vector W512 16) : (s.setTile t v).cfg = s.cfg := rfl
@[simp] theorem State.setTile_draws (t : Tmm) (v : Vector W512 16) : (s.setTile t v).draws = s.draws := rfl
@[simp] theorem State.setTile_ilen (t : Tmm) (v : Vector W512 16) : (s.setTile t v).ilen = s.ilen := rfl

@[simp] theorem State.setStartRow_gpr (r : Nat) : (s.setStartRow r).gpr = s.gpr := rfl
@[simp] theorem State.setStartRow_rip (r : Nat) : (s.setStartRow r).rip = s.rip := rfl
@[simp] theorem State.setStartRow_rflags (r : Nat) : (s.setStartRow r).rflags = s.rflags := rfl
@[simp] theorem State.setStartRow_sys (r : Nat) : (s.setStartRow r).sys = s.sys := rfl
@[simp] theorem State.setStartRow_ctx (r : Nat) : (s.setStartRow r).ctx = s.ctx := rfl
@[simp] theorem State.setStartRow_vec (r : Nat) : (s.setStartRow r).vec = s.vec := rfl
@[simp] theorem State.setStartRow_amx (r : Nat) : (s.setStartRow r).amx = { s.amx with startRow := BitVec.ofNat 8 r } := rfl
@[simp] theorem State.setStartRow_msr (r : Nat) : (s.setStartRow r).msr = s.msr := rfl
@[simp] theorem State.setStartRow_tsc (r : Nat) : (s.setStartRow r).tsc = s.tsc := rfl
@[simp] theorem State.setStartRow_vmcs (r : Nat) : (s.setStartRow r).vmcs = s.vmcs := rfl
@[simp] theorem State.setStartRow_guestDeadline (r : Nat) : (s.setStartRow r).guestDeadline = s.guestDeadline := rfl
@[simp] theorem State.setStartRow_uirr (r : Nat) : (s.setStartRow r).uirr = s.uirr := rfl
@[simp] theorem State.setStartRow_uif (r : Nat) : (s.setStartRow r).uif = s.uif := rfl
@[simp] theorem State.setStartRow_userInterrupt (r : Nat) : (s.setStartRow r).userInterrupt = s.userInterrupt := rfl
@[simp] theorem State.setStartRow_virtualInterrupt (r : Nat) : (s.setStartRow r).virtualInterrupt = s.virtualInterrupt := rfl
@[simp] theorem State.setStartRow_monitor (r : Nat) : (s.setStartRow r).monitor = s.monitor := rfl
@[simp] theorem State.setStartRow_tmemk (r : Nat) : (s.setStartRow r).tmemk = s.tmemk := rfl
@[simp] theorem State.setStartRow_tse (r : Nat) : (s.setStartRow r).tse = s.tse := rfl
@[simp] theorem State.setStartRow_rao (r : Nat) : (s.setStartRow r).rao = s.rao := rfl
@[simp] theorem State.setStartRow_pt (r : Nat) : (s.setStartRow r).pt = s.pt := rfl
@[simp] theorem State.setStartRow_pebs (r : Nat) : (s.setStartRow r).pebs = s.pebs := rfl
@[simp] theorem State.setStartRow_mem (r : Nat) : (s.setStartRow r).mem = s.mem := rfl
@[simp] theorem State.setStartRow_delivered (r : Nat) : (s.setStartRow r).delivered = s.delivered := rfl
@[simp] theorem State.setStartRow_cfg (r : Nat) : (s.setStartRow r).cfg = s.cfg := rfl
@[simp] theorem State.setStartRow_draws (r : Nat) : (s.setStartRow r).draws = s.draws := rfl
@[simp] theorem State.setStartRow_ilen (r : Nat) : (s.setStartRow r).ilen = s.ilen := rfl

@[simp] theorem State.setTmemk_gpr (k : Nat) (v : KeySlot) : (s.setTmemk k v).gpr = s.gpr := rfl
@[simp] theorem State.setTmemk_rip (k : Nat) (v : KeySlot) : (s.setTmemk k v).rip = s.rip := rfl
@[simp] theorem State.setTmemk_rflags (k : Nat) (v : KeySlot) : (s.setTmemk k v).rflags = s.rflags := rfl
@[simp] theorem State.setTmemk_sys (k : Nat) (v : KeySlot) : (s.setTmemk k v).sys = s.sys := rfl
@[simp] theorem State.setTmemk_ctx (k : Nat) (v : KeySlot) : (s.setTmemk k v).ctx = s.ctx := rfl
@[simp] theorem State.setTmemk_vec (k : Nat) (v : KeySlot) : (s.setTmemk k v).vec = s.vec := rfl
@[simp] theorem State.setTmemk_amx (k : Nat) (v : KeySlot) : (s.setTmemk k v).amx = s.amx := rfl
@[simp] theorem State.setTmemk_msr (k : Nat) (v : KeySlot) : (s.setTmemk k v).msr = s.msr := rfl
@[simp] theorem State.setTmemk_tsc (k : Nat) (v : KeySlot) : (s.setTmemk k v).tsc = s.tsc := rfl
@[simp] theorem State.setTmemk_vmcs (k : Nat) (v : KeySlot) : (s.setTmemk k v).vmcs = s.vmcs := rfl
@[simp] theorem State.setTmemk_guestDeadline (k : Nat) (v : KeySlot) : (s.setTmemk k v).guestDeadline = s.guestDeadline := rfl
@[simp] theorem State.setTmemk_uirr (k : Nat) (v : KeySlot) : (s.setTmemk k v).uirr = s.uirr := rfl
@[simp] theorem State.setTmemk_uif (k : Nat) (v : KeySlot) : (s.setTmemk k v).uif = s.uif := rfl
@[simp] theorem State.setTmemk_userInterrupt (k : Nat) (v : KeySlot) : (s.setTmemk k v).userInterrupt = s.userInterrupt := rfl
@[simp] theorem State.setTmemk_virtualInterrupt (k : Nat) (v : KeySlot) : (s.setTmemk k v).virtualInterrupt = s.virtualInterrupt := rfl
@[simp] theorem State.setTmemk_monitor (k : Nat) (v : KeySlot) : (s.setTmemk k v).monitor = s.monitor := rfl
@[simp] theorem State.setTmemk_tmemk (k : Nat) (v : KeySlot) : (s.setTmemk k v).tmemk = Store.put KeySlot.unprogrammed s.tmemk k v := rfl
@[simp] theorem State.setTmemk_tse (k : Nat) (v : KeySlot) : (s.setTmemk k v).tse = s.tse := rfl
@[simp] theorem State.setTmemk_rao (k : Nat) (v : KeySlot) : (s.setTmemk k v).rao = s.rao := rfl
@[simp] theorem State.setTmemk_pt (k : Nat) (v : KeySlot) : (s.setTmemk k v).pt = s.pt := rfl
@[simp] theorem State.setTmemk_pebs (k : Nat) (v : KeySlot) : (s.setTmemk k v).pebs = s.pebs := rfl
@[simp] theorem State.setTmemk_mem (k : Nat) (v : KeySlot) : (s.setTmemk k v).mem = s.mem := rfl
@[simp] theorem State.setTmemk_delivered (k : Nat) (v : KeySlot) : (s.setTmemk k v).delivered = s.delivered := rfl
@[simp] theorem State.setTmemk_cfg (k : Nat) (v : KeySlot) : (s.setTmemk k v).cfg = s.cfg := rfl
@[simp] theorem State.setTmemk_draws (k : Nat) (v : KeySlot) : (s.setTmemk k v).draws = s.draws := rfl
@[simp] theorem State.setTmemk_ilen (k : Nat) (v : KeySlot) : (s.setTmemk k v).ilen = s.ilen := rfl

@[simp] theorem State.setTse_gpr (k : Nat) (v : KeySlot) : (s.setTse k v).gpr = s.gpr := rfl
@[simp] theorem State.setTse_rip (k : Nat) (v : KeySlot) : (s.setTse k v).rip = s.rip := rfl
@[simp] theorem State.setTse_rflags (k : Nat) (v : KeySlot) : (s.setTse k v).rflags = s.rflags := rfl
@[simp] theorem State.setTse_sys (k : Nat) (v : KeySlot) : (s.setTse k v).sys = s.sys := rfl
@[simp] theorem State.setTse_ctx (k : Nat) (v : KeySlot) : (s.setTse k v).ctx = s.ctx := rfl
@[simp] theorem State.setTse_vec (k : Nat) (v : KeySlot) : (s.setTse k v).vec = s.vec := rfl
@[simp] theorem State.setTse_amx (k : Nat) (v : KeySlot) : (s.setTse k v).amx = s.amx := rfl
@[simp] theorem State.setTse_msr (k : Nat) (v : KeySlot) : (s.setTse k v).msr = s.msr := rfl
@[simp] theorem State.setTse_tsc (k : Nat) (v : KeySlot) : (s.setTse k v).tsc = s.tsc := rfl
@[simp] theorem State.setTse_vmcs (k : Nat) (v : KeySlot) : (s.setTse k v).vmcs = s.vmcs := rfl
@[simp] theorem State.setTse_guestDeadline (k : Nat) (v : KeySlot) : (s.setTse k v).guestDeadline = s.guestDeadline := rfl
@[simp] theorem State.setTse_uirr (k : Nat) (v : KeySlot) : (s.setTse k v).uirr = s.uirr := rfl
@[simp] theorem State.setTse_uif (k : Nat) (v : KeySlot) : (s.setTse k v).uif = s.uif := rfl
@[simp] theorem State.setTse_userInterrupt (k : Nat) (v : KeySlot) : (s.setTse k v).userInterrupt = s.userInterrupt := rfl
@[simp] theorem State.setTse_virtualInterrupt (k : Nat) (v : KeySlot) : (s.setTse k v).virtualInterrupt = s.virtualInterrupt := rfl
@[simp] theorem State.setTse_monitor (k : Nat) (v : KeySlot) : (s.setTse k v).monitor = s.monitor := rfl
@[simp] theorem State.setTse_tmemk (k : Nat) (v : KeySlot) : (s.setTse k v).tmemk = s.tmemk := rfl
@[simp] theorem State.setTse_tse (k : Nat) (v : KeySlot) : (s.setTse k v).tse = Store.put KeySlot.unprogrammed s.tse k v := rfl
@[simp] theorem State.setTse_rao (k : Nat) (v : KeySlot) : (s.setTse k v).rao = s.rao := rfl
@[simp] theorem State.setTse_pt (k : Nat) (v : KeySlot) : (s.setTse k v).pt = s.pt := rfl
@[simp] theorem State.setTse_pebs (k : Nat) (v : KeySlot) : (s.setTse k v).pebs = s.pebs := rfl
@[simp] theorem State.setTse_mem (k : Nat) (v : KeySlot) : (s.setTse k v).mem = s.mem := rfl
@[simp] theorem State.setTse_delivered (k : Nat) (v : KeySlot) : (s.setTse k v).delivered = s.delivered := rfl
@[simp] theorem State.setTse_cfg (k : Nat) (v : KeySlot) : (s.setTse k v).cfg = s.cfg := rfl
@[simp] theorem State.setTse_draws (k : Nat) (v : KeySlot) : (s.setTse k v).draws = s.draws := rfl
@[simp] theorem State.setTse_ilen (k : Nat) (v : KeySlot) : (s.setTse k v).ilen = s.ilen := rfl

@[simp] theorem State.deliver_gpr (e : Exn) (c : Option W32) : (s.deliver e c).gpr = s.gpr := rfl
@[simp] theorem State.deliver_rip (e : Exn) (c : Option W32) : (s.deliver e c).rip = s.rip := rfl
@[simp] theorem State.deliver_rflags (e : Exn) (c : Option W32) : (s.deliver e c).rflags = s.rflags := rfl
@[simp] theorem State.deliver_sys (e : Exn) (c : Option W32) : (s.deliver e c).sys = s.sys := rfl
@[simp] theorem State.deliver_ctx (e : Exn) (c : Option W32) : (s.deliver e c).ctx = s.ctx := rfl
@[simp] theorem State.deliver_vec (e : Exn) (c : Option W32) : (s.deliver e c).vec = s.vec := rfl
@[simp] theorem State.deliver_amx (e : Exn) (c : Option W32) : (s.deliver e c).amx = s.amx := rfl
@[simp] theorem State.deliver_msr (e : Exn) (c : Option W32) : (s.deliver e c).msr = s.msr := rfl
@[simp] theorem State.deliver_tsc (e : Exn) (c : Option W32) : (s.deliver e c).tsc = s.tsc := rfl
@[simp] theorem State.deliver_vmcs (e : Exn) (c : Option W32) : (s.deliver e c).vmcs = s.vmcs := rfl
@[simp] theorem State.deliver_guestDeadline (e : Exn) (c : Option W32) : (s.deliver e c).guestDeadline = s.guestDeadline := rfl
@[simp] theorem State.deliver_uirr (e : Exn) (c : Option W32) : (s.deliver e c).uirr = s.uirr := rfl
@[simp] theorem State.deliver_uif (e : Exn) (c : Option W32) : (s.deliver e c).uif = s.uif := rfl
@[simp] theorem State.deliver_userInterrupt (e : Exn) (c : Option W32) : (s.deliver e c).userInterrupt = s.userInterrupt := rfl
@[simp] theorem State.deliver_virtualInterrupt (e : Exn) (c : Option W32) : (s.deliver e c).virtualInterrupt = s.virtualInterrupt := rfl
@[simp] theorem State.deliver_monitor (e : Exn) (c : Option W32) : (s.deliver e c).monitor = s.monitor := rfl
@[simp] theorem State.deliver_tmemk (e : Exn) (c : Option W32) : (s.deliver e c).tmemk = s.tmemk := rfl
@[simp] theorem State.deliver_tse (e : Exn) (c : Option W32) : (s.deliver e c).tse = s.tse := rfl
@[simp] theorem State.deliver_rao (e : Exn) (c : Option W32) : (s.deliver e c).rao = s.rao := rfl
@[simp] theorem State.deliver_pt (e : Exn) (c : Option W32) : (s.deliver e c).pt = s.pt := rfl
@[simp] theorem State.deliver_pebs (e : Exn) (c : Option W32) : (s.deliver e c).pebs = s.pebs := rfl
@[simp] theorem State.deliver_mem (e : Exn) (c : Option W32) : (s.deliver e c).mem = s.mem := rfl
@[simp] theorem State.deliver_delivered (e : Exn) (c : Option W32) : (s.deliver e c).delivered = some (.exception e.vector c s.rip) := rfl
@[simp] theorem State.deliver_cfg (e : Exn) (c : Option W32) : (s.deliver e c).cfg = s.cfg := rfl
@[simp] theorem State.deliver_draws (e : Exn) (c : Option W32) : (s.deliver e c).draws = s.draws := rfl
@[simp] theorem State.deliver_ilen (e : Exn) (c : Option W32) : (s.deliver e c).ilen = s.ilen := rfl

@[simp] theorem State.resume_gpr : (s.resume).gpr = s.gpr := rfl
@[simp] theorem State.resume_rip : (s.resume).rip = s.rip := rfl
@[simp] theorem State.resume_rflags : (s.resume).rflags = s.rflags := rfl
@[simp] theorem State.resume_sys : (s.resume).sys = s.sys := rfl
@[simp] theorem State.resume_ctx : (s.resume).ctx = s.ctx := rfl
@[simp] theorem State.resume_vec : (s.resume).vec = s.vec := rfl
@[simp] theorem State.resume_amx : (s.resume).amx = s.amx := rfl
@[simp] theorem State.resume_msr : (s.resume).msr = s.msr := rfl
@[simp] theorem State.resume_tsc : (s.resume).tsc = s.tsc := rfl
@[simp] theorem State.resume_vmcs : (s.resume).vmcs = s.vmcs := rfl
@[simp] theorem State.resume_guestDeadline : (s.resume).guestDeadline = s.guestDeadline := rfl
@[simp] theorem State.resume_uirr : (s.resume).uirr = s.uirr := rfl
@[simp] theorem State.resume_uif : (s.resume).uif = s.uif := rfl
@[simp] theorem State.resume_userInterrupt : (s.resume).userInterrupt = s.userInterrupt := rfl
@[simp] theorem State.resume_virtualInterrupt : (s.resume).virtualInterrupt = s.virtualInterrupt := rfl
@[simp] theorem State.resume_monitor : (s.resume).monitor = s.monitor := rfl
@[simp] theorem State.resume_tmemk : (s.resume).tmemk = s.tmemk := rfl
@[simp] theorem State.resume_tse : (s.resume).tse = s.tse := rfl
@[simp] theorem State.resume_rao : (s.resume).rao = s.rao := rfl
@[simp] theorem State.resume_pt : (s.resume).pt = s.pt := rfl
@[simp] theorem State.resume_pebs : (s.resume).pebs = s.pebs := rfl
@[simp] theorem State.resume_mem : (s.resume).mem = s.mem := rfl
@[simp] theorem State.resume_delivered : (s.resume).delivered = none := rfl
@[simp] theorem State.resume_cfg : (s.resume).cfg = s.cfg := rfl
@[simp] theorem State.resume_draws : (s.resume).draws = s.draws := rfl
@[simp] theorem State.resume_ilen : (s.resume).ilen = s.ilen := rfl

@[simp] theorem State.raoForce_gpr (fp : List Nat) : (s.raoForce fp).gpr = s.gpr := by
  unfold State.raoForce; split <;> rfl
@[simp] theorem State.raoForce_rip (fp : List Nat) : (s.raoForce fp).rip = s.rip := by
  unfold State.raoForce; split <;> rfl
@[simp] theorem State.raoForce_rflags (fp : List Nat) : (s.raoForce fp).rflags = s.rflags := by
  unfold State.raoForce; split <;> rfl
@[simp] theorem State.raoForce_sys (fp : List Nat) : (s.raoForce fp).sys = s.sys := by
  unfold State.raoForce; split <;> rfl
@[simp] theorem State.raoForce_ctx (fp : List Nat) : (s.raoForce fp).ctx = s.ctx := by
  unfold State.raoForce; split <;> rfl
@[simp] theorem State.raoForce_vec (fp : List Nat) : (s.raoForce fp).vec = s.vec := by
  unfold State.raoForce; split <;> rfl
@[simp] theorem State.raoForce_amx (fp : List Nat) : (s.raoForce fp).amx = s.amx := by
  unfold State.raoForce; split <;> rfl
@[simp] theorem State.raoForce_msr (fp : List Nat) : (s.raoForce fp).msr = s.msr := by
  unfold State.raoForce; split <;> rfl
@[simp] theorem State.raoForce_tsc (fp : List Nat) : (s.raoForce fp).tsc = s.tsc := by
  unfold State.raoForce; split <;> rfl
@[simp] theorem State.raoForce_vmcs (fp : List Nat) : (s.raoForce fp).vmcs = s.vmcs := by
  unfold State.raoForce; split <;> rfl
@[simp] theorem State.raoForce_guestDeadline (fp : List Nat) : (s.raoForce fp).guestDeadline = s.guestDeadline := by
  unfold State.raoForce; split <;> rfl
@[simp] theorem State.raoForce_uirr (fp : List Nat) : (s.raoForce fp).uirr = s.uirr := by
  unfold State.raoForce; split <;> rfl
@[simp] theorem State.raoForce_uif (fp : List Nat) : (s.raoForce fp).uif = s.uif := by
  unfold State.raoForce; split <;> rfl
@[simp] theorem State.raoForce_userInterrupt (fp : List Nat) : (s.raoForce fp).userInterrupt = s.userInterrupt := by
  unfold State.raoForce; split <;> rfl
@[simp] theorem State.raoForce_virtualInterrupt (fp : List Nat) : (s.raoForce fp).virtualInterrupt = s.virtualInterrupt := by
  unfold State.raoForce; split <;> rfl
@[simp] theorem State.raoForce_tmemk (fp : List Nat) : (s.raoForce fp).tmemk = s.tmemk := by
  unfold State.raoForce; split <;> rfl
@[simp] theorem State.raoForce_tse (fp : List Nat) : (s.raoForce fp).tse = s.tse := by
  unfold State.raoForce; split <;> rfl
@[simp] theorem State.raoForce_pt (fp : List Nat) : (s.raoForce fp).pt = s.pt := by
  unfold State.raoForce; split <;> rfl
@[simp] theorem State.raoForce_pebs (fp : List Nat) : (s.raoForce fp).pebs = s.pebs := by
  unfold State.raoForce; split <;> rfl
@[simp] theorem State.raoForce_delivered (fp : List Nat) : (s.raoForce fp).delivered = s.delivered := by
  unfold State.raoForce; split <;> rfl
@[simp] theorem State.raoForce_cfg (fp : List Nat) : (s.raoForce fp).cfg = s.cfg := by
  unfold State.raoForce; split <;> rfl
@[simp] theorem State.raoForce_draws (fp : List Nat) : (s.raoForce fp).draws = s.draws := by
  unfold State.raoForce; split <;> rfl
@[simp] theorem State.raoForce_ilen (fp : List Nat) : (s.raoForce fp).ilen = s.ilen := by
  unfold State.raoForce; split <;> rfl

@[simp] theorem State.raoStep_gpr : s.raoStep.gpr = s.gpr := by
  unfold State.raoStep; split <;> rfl
@[simp] theorem State.raoStep_rip : s.raoStep.rip = s.rip := by
  unfold State.raoStep; split <;> rfl
@[simp] theorem State.raoStep_rflags : s.raoStep.rflags = s.rflags := by
  unfold State.raoStep; split <;> rfl
@[simp] theorem State.raoStep_sys : s.raoStep.sys = s.sys := by
  unfold State.raoStep; split <;> rfl
@[simp] theorem State.raoStep_ctx : s.raoStep.ctx = s.ctx := by
  unfold State.raoStep; split <;> rfl
@[simp] theorem State.raoStep_vec : s.raoStep.vec = s.vec := by
  unfold State.raoStep; split <;> rfl
@[simp] theorem State.raoStep_amx : s.raoStep.amx = s.amx := by
  unfold State.raoStep; split <;> rfl
@[simp] theorem State.raoStep_msr : s.raoStep.msr = s.msr := by
  unfold State.raoStep; split <;> rfl
@[simp] theorem State.raoStep_tsc : s.raoStep.tsc = s.tsc := by
  unfold State.raoStep; split <;> rfl
@[simp] theorem State.raoStep_vmcs : s.raoStep.vmcs = s.vmcs := by
  unfold State.raoStep; split <;> rfl
@[simp] theorem State.raoStep_guestDeadline : s.raoStep.guestDeadline = s.guestDeadline := by
  unfold State.raoStep; split <;> rfl
@[simp] theorem State.raoStep_uirr : s.raoStep.uirr = s.uirr := by
  unfold State.raoStep; split <;> rfl
@[simp] theorem State.raoStep_uif : s.raoStep.uif = s.uif := by
  unfold State.raoStep; split <;> rfl
@[simp] theorem State.raoStep_userInterrupt : s.raoStep.userInterrupt = s.userInterrupt := by
  unfold State.raoStep; split <;> rfl
@[simp] theorem State.raoStep_virtualInterrupt : s.raoStep.virtualInterrupt = s.virtualInterrupt := by
  unfold State.raoStep; split <;> rfl
@[simp] theorem State.raoStep_tmemk : s.raoStep.tmemk = s.tmemk := by
  unfold State.raoStep; split <;> rfl
@[simp] theorem State.raoStep_tse : s.raoStep.tse = s.tse := by
  unfold State.raoStep; split <;> rfl
@[simp] theorem State.raoStep_pt : s.raoStep.pt = s.pt := by
  unfold State.raoStep; split <;> rfl
@[simp] theorem State.raoStep_pebs : s.raoStep.pebs = s.pebs := by
  unfold State.raoStep; split <;> rfl
@[simp] theorem State.raoStep_delivered : s.raoStep.delivered = s.delivered := by
  unfold State.raoStep; split <;> rfl
@[simp] theorem State.raoStep_cfg : s.raoStep.cfg = s.cfg := by
  unfold State.raoStep; split <;> rfl
@[simp] theorem State.raoStep_ilen : s.raoStep.ilen = s.ilen := by
  unfold State.raoStep; split <;> rfl

/-! ### Registers -/

/-- Reading a general register after writing one. -/
@[simp] theorem Gprs.get_set (r : Gprs) (g h : Gpr) (v : W64) :
    (r.set g v).get h = if h = g then v else r.get h := by
  cases g <;> cases h <;> rfl

@[simp] theorem State.reg_setReg (g h : Gpr) (v : W64) : (s.setReg g v).reg h = if h = g then v else s.reg h :=
  Gprs.get_set s.gpr g h v

/-- Reading a vector register after writing one. -/
@[simp] theorem State.zmm_setZmm (q r : VReg) (v : W512) : (s.setZmm r v).zmm q = if q = r then v else s.zmm q := by
  simp only [State.zmm, State.setZmm]
  by_cases h : q = r
  · subst h; simp
  · have : r.val ≠ q.val := fun e => h (Fin.ext e.symm)
    simp [h, this]

@[simp] theorem State.kreg_setZmm (r : VReg) (v : W512) (k : KReg) : (s.setZmm r v).kreg k = s.kreg k := rfl

@[simp] theorem State.mxcsr_setZmm (r : VReg) (v : W512) : (s.setZmm r v).vec.mxcsr = s.vec.mxcsr := rfl

/-- Reading an MSR after writing one. -/
@[simp] theorem State.msrVal_setMsr (a b : Nat) (v : W64) :
    (s.setMsr a v).msrVal b = if b = a then v else s.msrVal b := Store.get_put 0 s.msr a b v

end Sys2Proof.Machine
end

