-- ==== Sys2Proof/Laws/Ops.lean ====
section
/-! SUPPORT. One lemma for each shared operation: everything it can do. -/

namespace Sys2Proof.Machine

/-! ### Actions -/

/-- Sequencing: a trap of the first action ends both, with the state the first reached. -/
theorem Act.bind_run {α β : Type} (x : Act α) (f : α → Act β) (s : State) :
    (x >>= f) s = match x s with
      | .ok a t => f a t
      | .error e t => .error e t := by
  change EStateM.bind x f s = _
  unfold EStateM.bind
  cases x s <;> rfl

@[simp] theorem Act.pure_run {α : Type} (a : α) (s : State) : (pure a : Act α) s = .ok a s := rfl

@[simp] theorem Act.get_run (s : State) : (get : Act State) s = .ok s s := rfl

@[simp] theorem Act.set_run (s t : State) : (set t : Act Unit) s = .ok () t := rfl

@[simp] theorem Act.modify_run (f : State → State) (s : State) : (modify f : Act Unit) s = .ok () (f s) := rfl

@[simp] theorem Act.throw_run {α : Type} (t : Trap) (s : State) : (throw t : Act α) s = .error t s := rfl

/-- A check passes or stops the instruction with its trap; it changes nothing. -/
theorem need_run (c : Bool) (t : Trap) (s : State) : need c t s = if c then .ok () s else .error t s := by
  cases c <;> rfl

@[simp] theorem need_true (t : Trap) (s : State) : need true t s = .ok () s := rfl

@[simp] theorem need_false (t : Trap) (s : State) : need false t s = .error t s := rfl

/-- A pure stage changes nothing. -/
theorem liftE_run {α : Type} (x : Except Trap α) (s : State) :
    liftE x s = match x with
      | .ok a => .ok a s
      | .error t => .error t s := by
  cases x <;> rfl

@[simp] theorem liftE_ok {α : Type} (a : α) (s : State) : liftE (.ok a) s = .ok a s := rfl

@[simp] theorem liftE_error {α : Type} (t : Trap) (s : State) : (liftE (.error t) : Act α) s = .error t s := rfl

/-- An instruction never faults and is never refused: it ends or takes its trap. -/
theorem settle_run (a : Act Unit) (s : State) :
    (∃ t, a s = .ok () t ∧ settle a s = .next t.advance) ∨
    (∃ e t, a s = .error e t ∧ settle a s = .next (t.takeTrap e)) := by
  unfold settle
  cases h : a s with
  | ok u t => exact .inl ⟨t, rfl, rfl⟩
  | error e t => exact .inr ⟨e, t, rfl, rfl⟩

theorem settle_ok {a : Act Unit} {s t : State} (h : a s = .ok () t) : settle a s = .next t.advance := by
  unfold settle; rw [h]

theorem settle_error {a : Act Unit} {s t : State} {e : Trap} (h : a s = .error e t) :
    settle a s = .next (t.takeTrap e) := by
  unfold settle; rw [h]

/-! ### Memory access -/

/-- A load of physical bytes performs the posted updates it must follow, and nothing else. -/
@[simp] theorem loadPhys_run (as : List Nat) (s : State) :
    loadPhys as s = .ok (readBytes (s.raoForce as).mem as) (s.raoForce as) := rfl

@[simp] theorem storePhys_run (as : List Nat) (bs : List Byte) (s : State) :
    storePhys as bs s = .ok () ((s.raoForce as).store as bs) := rfl

/-- `MemRead` (R121): the checks and the translation first; then the load. -/
theorem memRead_run (seg : Seg) (off : W64) (n : Nat) (ac : Bool) (s : State) :
    memRead seg off n ac s = match accessBytes s seg off n .read ac with
      | .ok as => .ok (readBytes (s.raoForce as).mem as) (s.raoForce as)
      | .error t => .error t s := by
  unfold memRead
  simp only [Act.bind_run, Act.get_run, liftE_run]
  cases accessBytes s seg off n .read ac <;> rfl

/-- `MemWrite` (R121). -/
theorem memWrite_run (seg : Seg) (off : W64) (bs : List Byte) (ac : Bool) (s : State) :
    memWrite seg off bs ac s = match accessBytes s seg off bs.length .write ac with
      | .ok as => .ok () ((s.raoForce as).store as bs)
      | .error t => .error t s := by
  unfold memWrite
  simp only [Act.bind_run, Act.get_run, liftE_run]
  cases accessBytes s seg off bs.length .write ac <;> rfl

/-- A load operand: `MemRead` at the effective address. -/
theorem loadOp_run (m : MemOp) (n : Nat) (ac : Bool) (s : State) :
    loadOp m n ac s = match accessBytes s (segOf m) (s.ea m) n .read ac with
      | .ok as => .ok (readBytes (s.raoForce as).mem as) (s.raoForce as)
      | .error t => .error t s := by
  unfold loadOp
  simp only [Act.bind_run, Act.get_run]
  exact memRead_run _ _ _ _ _

/-- A store operand: `MemWrite` at the effective address. -/
theorem storeOp_run (m : MemOp) (bs : List Byte) (ac : Bool) (s : State) :
    storeOp m bs ac s = match accessBytes s (segOf m) (s.ea m) bs.length .write ac with
      | .ok as => .ok () ((s.raoForce as).store as bs)
      | .error t => .error t s := by
  unfold storeOp
  simp only [Act.bind_run, Act.get_run]
  exact memWrite_run _ _ _ _ _

/-- A translation answers as many addresses as bytes were asked for. -/
theorem translateBytes_length (s : State) (k : Access) (sup : Bool) (n : Nat) (la : W64) (as : List Nat)
    (h : translateBytes s k sup n la = .ok as) : as.length = n := by
  induction n generalizing la as with
  | zero => cases h; rfl
  | succ n ih =>
    simp only [translateBytes, bind, Except.bind] at h
    cases h1 : translate s la k sup with
    | error e => rw [h1] at h; cases h
    | ok a =>
      rw [h1] at h
      cases h2 : translateBytes s k sup n (la + 1) with
      | error e => simp only [h2] at h; cases h
      | ok r =>
        simp only [h2] at h
        cases h
        simp [ih _ _ h2]

/-! ### AMX -/

/-- The checks before an AMX instruction's TILECFG checks (R582, R583). -/
theorem amxBegin_run (ok : Cfg → Bool) (s : State) :
    amxBegin ok s = if amxEnabled s && ok s.cfg then (if s.ctx.tsx then .error .abort s else .ok () s)
      else .error udTrap s := by
  unfold amxBegin
  simp only [Act.bind_run, Act.get_run, need_run]
  cases amxEnabled s && ok s.cfg <;> cases s.ctx.tsx <;> rfl

/-- The XFD check (R585). -/
theorem tileDataEnabled_run (s : State) :
    tileDataEnabled s = if bitAt (s.msrVal 0x1C4) 18 then .error .xfd s else .ok () s := by
  unfold tileDataEnabled
  simp only [Act.bind_run, Act.get_run, need_run]
  cases bitAt (s.msrVal 0x1C4) 18 <;> rfl

@[simp] theorem zeroStartRow_run (s : State) : zeroStartRow s = .ok () (s.setStartRow 0) := rfl

/-- One row of a tile load or of a pair load (R568, R613). -/
theorem readRow_run (m : MemOp) (i n : Nat) (s : State) :
    readRow m i n s = match accessBytes (s.setStartRow i) (segOf m) ((s.setStartRow i).rowAddr m i) n .read false with
      | .ok as => .ok (ofBytes (readBytes ((s.setStartRow i).raoForce as).mem as)) ((s.setStartRow i).raoForce as)
      | .error t => .error t (s.setStartRow i) := by
  unfold readRow
  simp only [Act.bind_run, Act.modify_run, Act.get_run, memRead_run]
  cases accessBytes (s.setStartRow i) (segOf m) ((s.setStartRow i).rowAddr m i) n .read false <;> rfl

/-! ### Flags of the configuration -/

/-- A bit of a vector with one bit set to a value. -/
theorem bitAt_setBitTo {n : Nat} (w : BitVec n) (i j : Nat) (b : Bool) :
    bitAt (setBitTo w i b) j = if i = j ∧ j < n then b else bitAt w j := by
  have key : (2 ^ i).testBit j = decide (i = j) := Nat.testBit_two_pow
  cases b <;> simp only [bitAt, setBitTo, Bool.false_eq_true, if_true, if_false, BitVec.getLsbD_and, BitVec.getLsbD_or,
    BitVec.getLsbD_not, BitVec.getLsbD_ofNat, key] <;> by_cases h : j < n <;> by_cases e : i = j <;>
    simp [h, e, BitVec.getLsbD_of_ge, Nat.le_of_not_lt]

/-- A flag stays only where what it implies is present, and no other bit changes. -/
theorem bitAt_implying (w : W32) (i j : Nat) (p : Bool) (h : j < 32) :
    bitAt (implying w i p) j = if i = j then bitAt w j && p else bitAt w j := by
  rw [implying, bitAt_setBitTo]; by_cases e : i = j <;> simp [e, h]

/-! ### MSRs of the configuration -/

/-- No row of `Cfg.msrs` speaks of an MSR with rules of its own (R500). -/
theorem msrDesc_of_defined {c : Cfg} {a : Nat} (h : definedMsr c a = true) : msrDesc c a = none := by simp [msrDesc, h]

/-- A throttle register has rules of its own. -/
theorem msrDesc_of_cba {c : Cfg} {a : Nat} (h : cbaMsr c a = true) : msrDesc c a = none :=
  msrDesc_of_defined (by simp [definedMsr, h])

/-- A leaf beyond the ranges of leaves 00H and 80000000H reports nothing (R221). -/
theorem rawRow_of_out {c : Cfg} {leaf : Nat} (sub : Nat) (h : leafInRange c leaf = false) : rawRow c leaf sub = zeroRow := by
  simp [rawRow, h]

/-- The VM exit of RDMSR and WRMSRNS (R501): the exit, with a free information field, or nothing. -/
theorem msrExit_run (s : State) (a : Nat) (write : Bool) (q : W64) (t : State) :
    msrExit s a write q t =
      if s.msrExits a write then
        .error (.exit (if write then 32 else 31) q (Config.exitInfoBits s.draws)) (s.drawn 1)
      else .ok () t := by
  unfold msrExit; split <;> rfl

/-! ### MONITOR -/

/-- Everything arming can do (R128, R530, R536): the line of the address is armed, or, outside write-back memory only, no range
is; write-back memory draws no free value. -/
theorem State.armAt_cases (s : State) (a : Nat) :
    s.armAt a = { s with monitor := armLine (lineSize s) a } ∨
    memType s.cfg a ≠ .wb ∧
      (s.armAt a = { s.drawn 1 with monitor := armLine (lineSize s) a } ∨
        s.armAt a = { s.drawn 1 with monitor := s.monitor.trigger }) := by
  unfold State.armAt
  split
  · exact .inl rfl
  · exact .inr ⟨‹_›, by split <;> simp⟩

/-! ### Traps -/

/-- Taking an exception leaves the instruction pointer where it was (R829). -/
theorem State.takeTrap_exn (s : State) (e : Exn) (c : Option W32) :
    s.takeTrap (.exn e c) = { s with delivered := some (.exception e.vector c s.rip) } := rfl

/-- Taking a page fault also writes CR2 (R823). -/
theorem State.takeTrap_page (s : State) (la : W64) (c : W32) :
    s.takeTrap (.page la c) =
      { s with sys := { s.sys with cr2 := la }, delivered := some (.exception 14 (some c) s.rip) } := rfl

/-- Every trap ends the instruction stream. -/
theorem State.takeTrap_delivered (s : State) (t : Trap) : (s.takeTrap t).delivered.isSome = true := by
  cases t <;> rfl

end Sys2Proof.Machine
end

