-- ==== Sys2Proof/Laws/PerInstr.lean ====
section
/-! SUPPORT. Statements made per instruction: an encoding is never empty and fits the 15 bytes of R170. -/

namespace Sys2Proof.Laws

open Sys2Proof

theorem bytesOf_length (l : List Nat) : (bytesOf l).length = l.length := by simp [bytesOf]

theorem le32_length (w : W32) : (le32 w).length = 4 := rfl

theorem segByte_length (g : Option Seg) : (segByte g).length ≤ 1 := by
  rcases g with _ | g
  · decide
  · cases g <;> decide

theorem adsByte_length (a : AddrSize) : (adsByte a).length ≤ 1 := by cases a <;> decide

theorem rexByte_length (w : Bool) (r x b : Nat) (f : Bool) : (rexByte w r x b f).length ≤ 1 := by
  unfold rexByte; split <;> simp

/-- ModRM, SIB and displacement are at most six bytes. -/
theorem tail_length (m : MemOp) (r : Nat) (sib : Bool) : (m.tail r sib).length ≤ 6 := by
  unfold MemOp.tail
  cases m.base with
  | none => simp [bytesOf_length, le32_length]
  | rip => simp [bytesOf_length, le32_length]
  | reg g =>
    simp only [List.length_append, le32_length]
    split <;> simp [bytesOf_length]

/-- The opcode bytes of the legacy forms number at most three, the mandatory prefix at most one. -/
theorem encLegacyMem_length (mand : List Nat) (w f : Bool) (opc : List Nat) (r : Nat) (m : MemOp)
    (hm : mand.length ≤ 1) (ho : opc.length ≤ 3) (h1 : 1 ≤ opc.length) :
    1 ≤ (encLegacyMem mand w f opc r m).length ∧ (encLegacyMem mand w f opc r m).length ≤ 15 := by
  have h2 := segByte_length m.seg
  have h3 := adsByte_length m.asz
  have h4 := rexByte_length w r m.indexCode m.baseCode f
  have h5 := tail_length m r false
  simp only [encLegacyMem, bytesOf_length, List.length_append]
  omega

theorem encLegacyRegs_length (p : Nat) (opc : List Nat) (r b : Nat) (ho : opc.length ≤ 3) :
    1 ≤ (encLegacyRegs p opc r b).length ∧ (encLegacyRegs p opc r b).length ≤ 15 := by
  have h4 := rexByte_length false r 0 b false
  simp only [encLegacyRegs, bytesOf_length, List.length_append, List.length_cons, List.length_nil]
  omega

theorem encVexRegs_length (m o p r b v : Nat) : (encVexRegs m o p r b v).length = 5 := rfl

theorem encVexMem_length (mp o p : Nat) (l : Bool) (r v : Nat) (sib : Bool) (m : MemOp) :
    1 ≤ (encVexMem mp o p l r v sib m).length ∧ (encVexMem mp o p l r v sib m).length ≤ 15 := by
  have h2 := segByte_length m.seg
  have h3 := adsByte_length m.asz
  have h5 := tail_length m r sib
  simp only [encVexMem, vexBytes, bytesOf_length, List.length_append, List.length_cons, List.length_nil]
  omega

theorem encVexVec_length (mp o p : Nat) (l : Bool) (r v : Nat) (s : VecSrc) :
    1 ≤ (encVexVec mp o p l r v s).length ∧ (encVexVec mp o p l r v s).length ≤ 15 := by
  cases s with
  | reg q => exact ⟨by simp [encVexVec, vexBytes, bytesOf_length], by simp [encVexVec, vexBytes, bytesOf_length]⟩
  | mem m => exact encVexMem_length _ _ _ _ _ _ _ m

theorem encEvexRegs_length (m o p ll r b v : Nat) : (encEvexRegs m o p ll r b v).length = 6 := rfl

theorem encEvexMem_length (mp o p : Nat) (w : Bool) (ll r v a : Nat) (z : Bool) (m : MemOp) :
    1 ≤ (encEvexMem mp o p w ll r v a z m).length ∧ (encEvexMem mp o p w ll r v a z m).length ≤ 15 := by
  have h2 := segByte_length m.seg
  have h3 := adsByte_length m.asz
  have h5 := tail_length m r false
  simp only [encEvexMem, evexBytes, bytesOf_length, List.length_append, List.length_cons, List.length_nil]
  omega

theorem encEvexVec_length (mp o p ll r v : Nat) (s : VecSrc) :
    1 ≤ (encEvexVec mp o p ll r v s).length ∧ (encEvexVec mp o p ll r v s).length ≤ 15 := by
  cases s with
  | reg q => exact ⟨by rw [encEvexVec, encEvexRegs_length]; decide, by rw [encEvexVec, encEvexRegs_length]; decide⟩
  | mem m => exact encEvexMem_length _ _ _ _ _ _ _ _ _ m

/-- The encoding of an instruction has between 1 and 15 bytes (R170). -/
def EncodeLength.Statement (i : Instr) : Prop := 1 ≤ (encode i).length ∧ (encode i).length ≤ 15

theorem EncodeLength.cpuid : EncodeLength.Statement .cpuid :=
  ⟨by decide, by decide⟩

theorem EncodeLength.aadd (sz : RaoSize) (m : MemOp) (r : Gpr) : EncodeLength.Statement (.aadd sz m r) :=
  encLegacyMem_length _ _ _ _ _ _ (by decide) (by decide) (by decide)

theorem EncodeLength.aand (sz : RaoSize) (m : MemOp) (r : Gpr) : EncodeLength.Statement (.aand sz m r) :=
  encLegacyMem_length _ _ _ _ _ _ (by decide) (by decide) (by decide)

theorem EncodeLength.aor (sz : RaoSize) (m : MemOp) (r : Gpr) : EncodeLength.Statement (.aor sz m r) :=
  encLegacyMem_length _ _ _ _ _ _ (by decide) (by decide) (by decide)

theorem EncodeLength.axor (sz : RaoSize) (m : MemOp) (r : Gpr) : EncodeLength.Statement (.axor sz m r) :=
  encLegacyMem_length _ _ _ _ _ _ (by decide) (by decide) (by decide)

theorem EncodeLength.movrsB (d : Reg8) (m : MemOp) : EncodeLength.Statement (.movrsB d m) :=
  encLegacyMem_length _ _ _ _ _ _ (by decide) (by decide) (by decide)

theorem EncodeLength.movrsV (sz : OpSize) (d : Gpr) (m : MemOp) : EncodeLength.Statement (.movrsV sz d m) :=
  encLegacyMem_length _ _ _ _ _ _ (by split <;> decide) (by decide) (by decide)

theorem EncodeLength.vmovrsB128 (d : VReg) (k : KReg) (z : Bool) (m : MemOp) : EncodeLength.Statement (.vmovrsB128 d k z m) :=
  encEvexMem_length _ _ _ _ _ _ _ _ _ _

theorem EncodeLength.vmovrsB256 (d : VReg) (k : KReg) (z : Bool) (m : MemOp) : EncodeLength.Statement (.vmovrsB256 d k z m) :=
  encEvexMem_length _ _ _ _ _ _ _ _ _ _

theorem EncodeLength.vmovrsB512 (d : VReg) (k : KReg) (z : Bool) (m : MemOp) : EncodeLength.Statement (.vmovrsB512 d k z m) :=
  encEvexMem_length _ _ _ _ _ _ _ _ _ _

theorem EncodeLength.vmovrsW128 (d : VReg) (k : KReg) (z : Bool) (m : MemOp) : EncodeLength.Statement (.vmovrsW128 d k z m) :=
  encEvexMem_length _ _ _ _ _ _ _ _ _ _

theorem EncodeLength.vmovrsW256 (d : VReg) (k : KReg) (z : Bool) (m : MemOp) : EncodeLength.Statement (.vmovrsW256 d k z m) :=
  encEvexMem_length _ _ _ _ _ _ _ _ _ _

theorem EncodeLength.vmovrsW512 (d : VReg) (k : KReg) (z : Bool) (m : MemOp) : EncodeLength.Statement (.vmovrsW512 d k z m) :=
  encEvexMem_length _ _ _ _ _ _ _ _ _ _

theorem EncodeLength.vmovrsD128 (d : VReg) (k : KReg) (z : Bool) (m : MemOp) : EncodeLength.Statement (.vmovrsD128 d k z m) :=
  encEvexMem_length _ _ _ _ _ _ _ _ _ _

theorem EncodeLength.vmovrsD256 (d : VReg) (k : KReg) (z : Bool) (m : MemOp) : EncodeLength.Statement (.vmovrsD256 d k z m) :=
  encEvexMem_length _ _ _ _ _ _ _ _ _ _

theorem EncodeLength.vmovrsD512 (d : VReg) (k : KReg) (z : Bool) (m : MemOp) : EncodeLength.Statement (.vmovrsD512 d k z m) :=
  encEvexMem_length _ _ _ _ _ _ _ _ _ _

theorem EncodeLength.vmovrsQ128 (d : VReg) (k : KReg) (z : Bool) (m : MemOp) : EncodeLength.Statement (.vmovrsQ128 d k z m) :=
  encEvexMem_length _ _ _ _ _ _ _ _ _ _

theorem EncodeLength.vmovrsQ256 (d : VReg) (k : KReg) (z : Bool) (m : MemOp) : EncodeLength.Statement (.vmovrsQ256 d k z m) :=
  encEvexMem_length _ _ _ _ _ _ _ _ _ _

theorem EncodeLength.vmovrsQ512 (d : VReg) (k : KReg) (z : Bool) (m : MemOp) : EncodeLength.Statement (.vmovrsQ512 d k z m) :=
  encEvexMem_length _ _ _ _ _ _ _ _ _ _

theorem EncodeLength.prefetchrst2 (m : MemOp) : EncodeLength.Statement (.prefetchrst2 m) :=
  encLegacyMem_length _ _ _ _ _ _ (by decide) (by decide) (by decide)

theorem EncodeLength.pbndkb : EncodeLength.Statement .pbndkb :=
  ⟨by decide, by decide⟩

theorem EncodeLength.pconfig : EncodeLength.Statement .pconfig :=
  ⟨by decide, by decide⟩

theorem EncodeLength.rdmsr : EncodeLength.Statement .rdmsr :=
  ⟨by decide, by decide⟩

theorem EncodeLength.rdmsrImm (d : Gpr) (imm : W32) : EncodeLength.Statement (.rdmsrImm d imm) :=
  ⟨Nat.le_of_ble_eq_true rfl, Nat.le_of_ble_eq_true rfl⟩

theorem EncodeLength.rdmsrImmApx (d : Gpr) (imm : W32) : EncodeLength.Statement (.rdmsrImmApx d imm) :=
  ⟨Nat.le_of_ble_eq_true rfl, Nat.le_of_ble_eq_true rfl⟩

theorem EncodeLength.urdmsr (d : Gpr) (a : Gpr) : EncodeLength.Statement (.urdmsr d a) :=
  encLegacyRegs_length _ _ _ _ (by decide)

theorem EncodeLength.urdmsrImm (d : Gpr) (imm : W32) : EncodeLength.Statement (.urdmsrImm d imm) :=
  ⟨Nat.le_of_ble_eq_true rfl, Nat.le_of_ble_eq_true rfl⟩

theorem EncodeLength.uwrmsr (a : Gpr) (v : Gpr) : EncodeLength.Statement (.uwrmsr a v) :=
  encLegacyRegs_length _ _ _ _ (by decide)

theorem EncodeLength.uwrmsrImm (imm : W32) (v : Gpr) : EncodeLength.Statement (.uwrmsrImm imm v) :=
  ⟨Nat.le_of_ble_eq_true rfl, Nat.le_of_ble_eq_true rfl⟩

theorem EncodeLength.wrmsrns : EncodeLength.Statement .wrmsrns :=
  ⟨by decide, by decide⟩

theorem EncodeLength.wrmsrnsImm (imm : W32) (v : Gpr) : EncodeLength.Statement (.wrmsrnsImm imm v) :=
  ⟨Nat.le_of_ble_eq_true rfl, Nat.le_of_ble_eq_true rfl⟩

theorem EncodeLength.wrmsrnsImmApx (imm : W32) (v : Gpr) : EncodeLength.Statement (.wrmsrnsImmApx imm v) :=
  ⟨Nat.le_of_ble_eq_true rfl, Nat.le_of_ble_eq_true rfl⟩

theorem EncodeLength.mwait : EncodeLength.Statement .mwait :=
  ⟨by decide, by decide⟩

theorem EncodeLength.monitor (seg : Option Seg) (asz : AddrSize) : EncodeLength.Statement (.monitor seg asz) := by
  have h1 := segByte_length seg
  have h2 := adsByte_length asz
  simp only [EncodeLength.Statement, encode, bytesOf_length, List.length_append, List.length_cons, List.length_nil]
  omega

theorem EncodeLength.vsm4Key4Vex128 (d : VReg) (s1 : VReg) (s2 : VecSrc) : EncodeLength.Statement (.vsm4Key4Vex128 d s1 s2) :=
  encVexVec_length _ _ _ _ _ _ _

theorem EncodeLength.vsm4Key4Vex256 (d : VReg) (s1 : VReg) (s2 : VecSrc) : EncodeLength.Statement (.vsm4Key4Vex256 d s1 s2) :=
  encVexVec_length _ _ _ _ _ _ _

theorem EncodeLength.vsm4Key4Evex128 (d : VReg) (s1 : VReg) (s2 : VecSrc) : EncodeLength.Statement (.vsm4Key4Evex128 d s1 s2) :=
  encEvexVec_length _ _ _ _ _ _ _

theorem EncodeLength.vsm4Key4Evex256 (d : VReg) (s1 : VReg) (s2 : VecSrc) : EncodeLength.Statement (.vsm4Key4Evex256 d s1 s2) :=
  encEvexVec_length _ _ _ _ _ _ _

theorem EncodeLength.vsm4Key4Evex512 (d : VReg) (s1 : VReg) (s2 : VecSrc) : EncodeLength.Statement (.vsm4Key4Evex512 d s1 s2) :=
  encEvexVec_length _ _ _ _ _ _ _

theorem EncodeLength.vsm4Rnds4Vex128 (d : VReg) (s1 : VReg) (s2 : VecSrc) : EncodeLength.Statement (.vsm4Rnds4Vex128 d s1 s2) :=
  encVexVec_length _ _ _ _ _ _ _

theorem EncodeLength.vsm4Rnds4Vex256 (d : VReg) (s1 : VReg) (s2 : VecSrc) : EncodeLength.Statement (.vsm4Rnds4Vex256 d s1 s2) :=
  encVexVec_length _ _ _ _ _ _ _

theorem EncodeLength.vsm4Rnds4Evex128 (d : VReg) (s1 : VReg) (s2 : VecSrc) : EncodeLength.Statement (.vsm4Rnds4Evex128 d s1 s2) :=
  encEvexVec_length _ _ _ _ _ _ _

theorem EncodeLength.vsm4Rnds4Evex256 (d : VReg) (s1 : VReg) (s2 : VecSrc) : EncodeLength.Statement (.vsm4Rnds4Evex256 d s1 s2) :=
  encEvexVec_length _ _ _ _ _ _ _

theorem EncodeLength.vsm4Rnds4Evex512 (d : VReg) (s1 : VReg) (s2 : VecSrc) : EncodeLength.Statement (.vsm4Rnds4Evex512 d s1 s2) :=
  encEvexVec_length _ _ _ _ _ _ _

theorem EncodeLength.ldtilecfg (m : MemOp) : EncodeLength.Statement (.ldtilecfg m) :=
  encVexMem_length _ _ _ _ _ _ _ _

theorem EncodeLength.sttilecfg (m : MemOp) : EncodeLength.Statement (.sttilecfg m) :=
  encVexMem_length _ _ _ _ _ _ _ _

theorem EncodeLength.tilerelease : EncodeLength.Statement .tilerelease :=
  ⟨by decide, by decide⟩

theorem EncodeLength.tilezero (t : Tmm) : EncodeLength.Statement (.tilezero t) :=
  ⟨Nat.le_of_ble_eq_true rfl, Nat.le_of_ble_eq_true rfl⟩

theorem EncodeLength.tileloadd (t : Tmm) (m : MemOp) : EncodeLength.Statement (.tileloadd t m) :=
  encVexMem_length _ _ _ _ _ _ _ _

theorem EncodeLength.tileloaddT1 (t : Tmm) (m : MemOp) : EncodeLength.Statement (.tileloaddT1 t m) :=
  encVexMem_length _ _ _ _ _ _ _ _

theorem EncodeLength.tilestored (m : MemOp) (t : Tmm) : EncodeLength.Statement (.tilestored m t) :=
  encVexMem_length _ _ _ _ _ _ _ _

theorem EncodeLength.t2rpntlvwZ0 (t : Tmm) (m : MemOp) : EncodeLength.Statement (.t2rpntlvwZ0 t m) :=
  encVexMem_length _ _ _ _ _ _ _ _

theorem EncodeLength.t2rpntlvwZ0T1 (t : Tmm) (m : MemOp) : EncodeLength.Statement (.t2rpntlvwZ0T1 t m) :=
  encVexMem_length _ _ _ _ _ _ _ _

theorem EncodeLength.t2rpntlvwZ1 (t : Tmm) (m : MemOp) : EncodeLength.Statement (.t2rpntlvwZ1 t m) :=
  encVexMem_length _ _ _ _ _ _ _ _

theorem EncodeLength.t2rpntlvwZ1T1 (t : Tmm) (m : MemOp) : EncodeLength.Statement (.t2rpntlvwZ1T1 t m) :=
  encVexMem_length _ _ _ _ _ _ _ _

theorem EncodeLength.t2rpntlvwZ0RS (t : Tmm) (m : MemOp) : EncodeLength.Statement (.t2rpntlvwZ0RS t m) :=
  encVexMem_length _ _ _ _ _ _ _ _

theorem EncodeLength.t2rpntlvwZ0RST1 (t : Tmm) (m : MemOp) : EncodeLength.Statement (.t2rpntlvwZ0RST1 t m) :=
  encVexMem_length _ _ _ _ _ _ _ _

theorem EncodeLength.t2rpntlvwZ1RS (t : Tmm) (m : MemOp) : EncodeLength.Statement (.t2rpntlvwZ1RS t m) :=
  encVexMem_length _ _ _ _ _ _ _ _

theorem EncodeLength.t2rpntlvwZ1RST1 (t : Tmm) (m : MemOp) : EncodeLength.Statement (.t2rpntlvwZ1RST1 t m) :=
  encVexMem_length _ _ _ _ _ _ _ _

theorem EncodeLength.tileloaddrs (t : Tmm) (m : MemOp) : EncodeLength.Statement (.tileloaddrs t m) :=
  encVexMem_length _ _ _ _ _ _ _ _

theorem EncodeLength.tileloaddrsT1 (t : Tmm) (m : MemOp) : EncodeLength.Statement (.tileloaddrsT1 t m) :=
  encVexMem_length _ _ _ _ _ _ _ _

theorem EncodeLength.tcmmimfp16ps (d : Tmm) (s1 : Tmm) (s2 : Tmm) : EncodeLength.Statement (.tcmmimfp16ps d s1 s2) :=
  ⟨Nat.le_of_ble_eq_true rfl, Nat.le_of_ble_eq_true rfl⟩

theorem EncodeLength.tcmmrlfp16ps (d : Tmm) (s1 : Tmm) (s2 : Tmm) : EncodeLength.Statement (.tcmmrlfp16ps d s1 s2) :=
  ⟨Nat.le_of_ble_eq_true rfl, Nat.le_of_ble_eq_true rfl⟩

theorem EncodeLength.tconjtcmmimfp16ps (d : Tmm) (s1 : Tmm) (s2 : Tmm) : EncodeLength.Statement (.tconjtcmmimfp16ps d s1 s2) :=
  ⟨Nat.le_of_ble_eq_true rfl, Nat.le_of_ble_eq_true rfl⟩

theorem EncodeLength.tconjtfp16 (d : Tmm) (a : Tmm) : EncodeLength.Statement (.tconjtfp16 d a) :=
  ⟨Nat.le_of_ble_eq_true rfl, Nat.le_of_ble_eq_true rfl⟩

theorem EncodeLength.tcvtrowd2psR (d : VReg) (t : Tmm) (r : Gpr) : EncodeLength.Statement (.tcvtrowd2psR d t r) :=
  ⟨Nat.le_of_ble_eq_true rfl, Nat.le_of_ble_eq_true rfl⟩

theorem EncodeLength.tcvtrowd2psI (d : VReg) (t : Tmm) (imm : Byte) : EncodeLength.Statement (.tcvtrowd2psI d t imm) :=
  ⟨Nat.le_of_ble_eq_true rfl, Nat.le_of_ble_eq_true rfl⟩

theorem EncodeLength.tcvtrowps2pbf16hR (d : VReg) (t : Tmm) (r : Gpr) : EncodeLength.Statement (.tcvtrowps2pbf16hR d t r) :=
  ⟨Nat.le_of_ble_eq_true rfl, Nat.le_of_ble_eq_true rfl⟩

theorem EncodeLength.tcvtrowps2pbf16hI (d : VReg) (t : Tmm) (imm : Byte) : EncodeLength.Statement (.tcvtrowps2pbf16hI d t imm) :=
  ⟨Nat.le_of_ble_eq_true rfl, Nat.le_of_ble_eq_true rfl⟩

theorem EncodeLength.tcvtrowps2pbf16lR (d : VReg) (t : Tmm) (r : Gpr) : EncodeLength.Statement (.tcvtrowps2pbf16lR d t r) :=
  ⟨Nat.le_of_ble_eq_true rfl, Nat.le_of_ble_eq_true rfl⟩

theorem EncodeLength.tcvtrowps2pbf16lI (d : VReg) (t : Tmm) (imm : Byte) : EncodeLength.Statement (.tcvtrowps2pbf16lI d t imm) :=
  ⟨Nat.le_of_ble_eq_true rfl, Nat.le_of_ble_eq_true rfl⟩

theorem EncodeLength.tcvtrowps2phhR (d : VReg) (t : Tmm) (r : Gpr) : EncodeLength.Statement (.tcvtrowps2phhR d t r) :=
  ⟨Nat.le_of_ble_eq_true rfl, Nat.le_of_ble_eq_true rfl⟩

theorem EncodeLength.tcvtrowps2phhI (d : VReg) (t : Tmm) (imm : Byte) : EncodeLength.Statement (.tcvtrowps2phhI d t imm) :=
  ⟨Nat.le_of_ble_eq_true rfl, Nat.le_of_ble_eq_true rfl⟩

theorem EncodeLength.tcvtrowps2phlR (d : VReg) (t : Tmm) (r : Gpr) : EncodeLength.Statement (.tcvtrowps2phlR d t r) :=
  ⟨Nat.le_of_ble_eq_true rfl, Nat.le_of_ble_eq_true rfl⟩

theorem EncodeLength.tcvtrowps2phlI (d : VReg) (t : Tmm) (imm : Byte) : EncodeLength.Statement (.tcvtrowps2phlI d t imm) :=
  ⟨Nat.le_of_ble_eq_true rfl, Nat.le_of_ble_eq_true rfl⟩

theorem EncodeLength.tdpbf8ps (d : Tmm) (s1 : Tmm) (s2 : Tmm) : EncodeLength.Statement (.tdpbf8ps d s1 s2) :=
  ⟨Nat.le_of_ble_eq_true rfl, Nat.le_of_ble_eq_true rfl⟩

theorem EncodeLength.tdpbhf8ps (d : Tmm) (s1 : Tmm) (s2 : Tmm) : EncodeLength.Statement (.tdpbhf8ps d s1 s2) :=
  ⟨Nat.le_of_ble_eq_true rfl, Nat.le_of_ble_eq_true rfl⟩

theorem EncodeLength.tdphbf8ps (d : Tmm) (s1 : Tmm) (s2 : Tmm) : EncodeLength.Statement (.tdphbf8ps d s1 s2) :=
  ⟨Nat.le_of_ble_eq_true rfl, Nat.le_of_ble_eq_true rfl⟩

theorem EncodeLength.tdphf8ps (d : Tmm) (s1 : Tmm) (s2 : Tmm) : EncodeLength.Statement (.tdphf8ps d s1 s2) :=
  ⟨Nat.le_of_ble_eq_true rfl, Nat.le_of_ble_eq_true rfl⟩

theorem EncodeLength.tilemovrowI (d : VReg) (t : Tmm) (imm : Byte) : EncodeLength.Statement (.tilemovrowI d t imm) :=
  ⟨Nat.le_of_ble_eq_true rfl, Nat.le_of_ble_eq_true rfl⟩

theorem EncodeLength.tilemovrowR (d : VReg) (t : Tmm) (r : Gpr) : EncodeLength.Statement (.tilemovrowR d t r) :=
  ⟨Nat.le_of_ble_eq_true rfl, Nat.le_of_ble_eq_true rfl⟩

theorem EncodeLength.tmmultf32ps (d : Tmm) (s1 : Tmm) (s2 : Tmm) : EncodeLength.Statement (.tmmultf32ps d s1 s2) :=
  ⟨Nat.le_of_ble_eq_true rfl, Nat.le_of_ble_eq_true rfl⟩

theorem EncodeLength.ttcmmimfp16ps (d : Tmm) (s1 : Tmm) (s2 : Tmm) : EncodeLength.Statement (.ttcmmimfp16ps d s1 s2) :=
  ⟨Nat.le_of_ble_eq_true rfl, Nat.le_of_ble_eq_true rfl⟩

theorem EncodeLength.ttcmmrlfp16ps (d : Tmm) (s1 : Tmm) (s2 : Tmm) : EncodeLength.Statement (.ttcmmrlfp16ps d s1 s2) :=
  ⟨Nat.le_of_ble_eq_true rfl, Nat.le_of_ble_eq_true rfl⟩

theorem EncodeLength.ttdpbf16ps (d : Tmm) (s1 : Tmm) (s2 : Tmm) : EncodeLength.Statement (.ttdpbf16ps d s1 s2) :=
  ⟨Nat.le_of_ble_eq_true rfl, Nat.le_of_ble_eq_true rfl⟩

theorem EncodeLength.ttdpfp16ps (d : Tmm) (s1 : Tmm) (s2 : Tmm) : EncodeLength.Statement (.ttdpfp16ps d s1 s2) :=
  ⟨Nat.le_of_ble_eq_true rfl, Nat.le_of_ble_eq_true rfl⟩

theorem EncodeLength.ttmmultf32ps (d : Tmm) (s1 : Tmm) (s2 : Tmm) : EncodeLength.Statement (.ttmmultf32ps d s1 s2) :=
  ⟨Nat.le_of_ble_eq_true rfl, Nat.le_of_ble_eq_true rfl⟩

theorem EncodeLength.ttransposed (d : Tmm) (a : Tmm) : EncodeLength.Statement (.ttransposed d a) :=
  ⟨Nat.le_of_ble_eq_true rfl, Nat.le_of_ble_eq_true rfl⟩

end Sys2Proof.Laws
end

