-- ==== Sys2Proof/Laws/Step.lean ====
section
/-! SUPPORT. What the updates of a step and of the base instructions leave alone, and once everything that a step can do. -/

namespace Sys2Proof.Machine

variable (s : State)

@[simp] theorem State.tick_gpr : (s.tick).gpr = s.gpr := rfl
@[simp] theorem State.tick_rip : (s.tick).rip = s.rip := rfl
@[simp] theorem State.tick_rflags : (s.tick).rflags = s.rflags := rfl
@[simp] theorem State.tick_sys : (s.tick).sys = s.sys := rfl
@[simp] theorem State.tick_ctx : (s.tick).ctx = s.ctx := rfl
@[simp] theorem State.tick_vec : (s.tick).vec = s.vec := rfl
@[simp] theorem State.tick_amx : (s.tick).amx = s.amx := rfl
@[simp] theorem State.tick_msr : (s.tick).msr = s.msr := rfl
@[simp] theorem State.tick_vmcs : (s.tick).vmcs = s.vmcs := rfl
@[simp] theorem State.tick_guestDeadline : (s.tick).guestDeadline = s.guestDeadline := rfl
@[simp] theorem State.tick_uirr : (s.tick).uirr = s.uirr := rfl
@[simp] theorem State.tick_uif : (s.tick).uif = s.uif := rfl
@[simp] theorem State.tick_userInterrupt : (s.tick).userInterrupt = s.userInterrupt := rfl
@[simp] theorem State.tick_virtualInterrupt : (s.tick).virtualInterrupt = s.virtualInterrupt := rfl
@[simp] theorem State.tick_monitor : (s.tick).monitor = s.monitor := rfl
@[simp] theorem State.tick_tmemk : (s.tick).tmemk = s.tmemk := rfl
@[simp] theorem State.tick_tse : (s.tick).tse = s.tse := rfl
@[simp] theorem State.tick_rao : (s.tick).rao = s.rao := rfl
@[simp] theorem State.tick_pt : (s.tick).pt = s.pt := rfl
@[simp] theorem State.tick_pebs : (s.tick).pebs = s.pebs := rfl
@[simp] theorem State.tick_mem : (s.tick).mem = s.mem := rfl
@[simp] theorem State.tick_delivered : (s.tick).delivered = s.delivered := rfl
@[simp] theorem State.tick_cfg : (s.tick).cfg = s.cfg := rfl
@[simp] theorem State.tick_ilen : (s.tick).ilen = s.ilen := rfl
@[simp] theorem State.tick_draws : s.tick.draws = s.draws + 1 := rfl

/-- The time-stamp counter never falls (R61). -/
theorem State.tsc_le_tick : s.tsc.toNat ≤ s.tick.tsc.toNat := by
  have h := s.tsc.isLt
  simp only [State.tick, BitVec.toNat_ofNat]
  rw [Nat.mod_eq_of_lt (by omega)]
  omega

@[simp] theorem State.anchor_gpr : s.anchor.gpr = s.gpr := rfl
@[simp] theorem State.anchor_rip : s.anchor.rip = s.rip := rfl
@[simp] theorem State.anchor_rflags : s.anchor.rflags = s.rflags := rfl
@[simp] theorem State.anchor_sys : s.anchor.sys = s.sys := rfl
@[simp] theorem State.anchor_ctx : s.anchor.ctx = s.ctx := rfl
@[simp] theorem State.anchor_vec : s.anchor.vec = s.vec := rfl
@[simp] theorem State.anchor_amx : s.anchor.amx = s.amx := rfl
@[simp] theorem State.anchor_msr : s.anchor.msr = s.msr := rfl
@[simp] theorem State.anchor_tsc : s.anchor.tsc = s.tsc := rfl
@[simp] theorem State.anchor_vmcs : s.anchor.vmcs = s.vmcs := rfl
@[simp] theorem State.anchor_guestDeadline : s.anchor.guestDeadline = s.guestDeadline := rfl
@[simp] theorem State.anchor_uirr : s.anchor.uirr = s.uirr := rfl
@[simp] theorem State.anchor_uif : s.anchor.uif = s.uif := rfl
@[simp] theorem State.anchor_userInterrupt : s.anchor.userInterrupt = s.userInterrupt := rfl
@[simp] theorem State.anchor_virtualInterrupt : s.anchor.virtualInterrupt = s.virtualInterrupt := rfl
@[simp] theorem State.anchor_monitor : s.anchor.monitor = s.monitor := rfl
@[simp] theorem State.anchor_tmemk : s.anchor.tmemk = s.tmemk := rfl
@[simp] theorem State.anchor_tse : s.anchor.tse = s.tse := rfl
@[simp] theorem State.anchor_rao : s.anchor.rao = s.rao := rfl
@[simp] theorem State.anchor_pebs : s.anchor.pebs = s.pebs := rfl
@[simp] theorem State.anchor_mem : s.anchor.mem = s.mem := rfl
@[simp] theorem State.anchor_delivered : s.anchor.delivered = s.delivered := rfl
@[simp] theorem State.anchor_cfg : s.anchor.cfg = s.cfg := rfl
@[simp] theorem State.anchor_ilen : s.anchor.ilen = s.ilen := rfl
@[simp] theorem State.anchor_draws : s.anchor.draws = s.draws := rfl
@[simp] theorem State.anchor_pt : s.anchor.pt = { s.pt with anchored := true } := rfl

/-- A conditional branch changes nothing but the mark of an IP indication. -/
theorem State.sendTnt_eq : s.sendTnt = s ∨ s.sendTnt = s.anchor := by
  unfold State.sendTnt; split <;> simp

/-- The packets of base Intel PT change nothing but the mark of an IP indication. -/
theorem State.baseIndication_eq (pre : State) : s.baseIndication pre = s ∨ s.baseIndication pre = s.anchor := by
  unfold State.baseIndication; split <;> simp

/-- A pause or resume changes nothing further but the instruction counters. -/
theorem State.pauseIndication_eq (before : State) :
    s.pauseIndication before = s ∨ s.pauseIndication before = { s with pt := s.pt.indicated } := by
  unfold State.pauseIndication; split <;> simp

/-- Every retired instruction takes the mark of an IP indication off. -/
@[simp] theorem Pt.retired_anchored (p : Pt) : p.retired.anchored = false := by
  unfold Pt.retired Pt.count; split <;> simp_all

@[simp] theorem State.outside_gpr : (s.outside).gpr = s.gpr := rfl
@[simp] theorem State.outside_rip : (s.outside).rip = s.rip := rfl
@[simp] theorem State.outside_rflags : (s.outside).rflags = s.rflags := rfl
@[simp] theorem State.outside_sys : (s.outside).sys = s.sys := rfl
@[simp] theorem State.outside_vec : (s.outside).vec = s.vec := rfl
@[simp] theorem State.outside_amx : (s.outside).amx = s.amx := rfl
@[simp] theorem State.outside_msr : (s.outside).msr = s.msr := rfl
@[simp] theorem State.outside_tsc : (s.outside).tsc = s.tsc := rfl
@[simp] theorem State.outside_vmcs : (s.outside).vmcs = s.vmcs := rfl
@[simp] theorem State.outside_guestDeadline : (s.outside).guestDeadline = s.guestDeadline := rfl
@[simp] theorem State.outside_uirr : (s.outside).uirr = s.uirr := rfl
@[simp] theorem State.outside_uif : (s.outside).uif = s.uif := rfl
@[simp] theorem State.outside_userInterrupt : (s.outside).userInterrupt = s.userInterrupt := rfl
@[simp] theorem State.outside_virtualInterrupt : (s.outside).virtualInterrupt = s.virtualInterrupt := rfl
@[simp] theorem State.outside_monitor : (s.outside).monitor = s.monitor := rfl
@[simp] theorem State.outside_tmemk : (s.outside).tmemk = s.tmemk := rfl
@[simp] theorem State.outside_tse : (s.outside).tse = s.tse := rfl
@[simp] theorem State.outside_rao : (s.outside).rao = s.rao := rfl
@[simp] theorem State.outside_pt : (s.outside).pt = s.pt := rfl
@[simp] theorem State.outside_pebs : (s.outside).pebs = s.pebs := rfl
@[simp] theorem State.outside_mem : (s.outside).mem = s.mem := rfl
@[simp] theorem State.outside_delivered : (s.outside).delivered = s.delivered := rfl
@[simp] theorem State.outside_cfg : (s.outside).cfg = s.cfg := rfl
@[simp] theorem State.outside_draws : (s.outside).draws = s.draws := rfl
@[simp] theorem State.outside_ilen : (s.outside).ilen = s.ilen := rfl
@[simp] theorem State.outside_ctx : s.outside.ctx = { s.ctx with enclave := .none } := rfl

@[simp] theorem State.wake_gpr : (s.wake).gpr = s.gpr := rfl
@[simp] theorem State.wake_rip : (s.wake).rip = s.rip := rfl
@[simp] theorem State.wake_rflags : (s.wake).rflags = s.rflags := rfl
@[simp] theorem State.wake_sys : (s.wake).sys = s.sys := rfl
@[simp] theorem State.wake_vec : (s.wake).vec = s.vec := rfl
@[simp] theorem State.wake_amx : (s.wake).amx = s.amx := rfl
@[simp] theorem State.wake_msr : (s.wake).msr = s.msr := rfl
@[simp] theorem State.wake_tsc : (s.wake).tsc = s.tsc := rfl
@[simp] theorem State.wake_vmcs : (s.wake).vmcs = s.vmcs := rfl
@[simp] theorem State.wake_guestDeadline : (s.wake).guestDeadline = s.guestDeadline := rfl
@[simp] theorem State.wake_uirr : (s.wake).uirr = s.uirr := rfl
@[simp] theorem State.wake_uif : (s.wake).uif = s.uif := rfl
@[simp] theorem State.wake_userInterrupt : (s.wake).userInterrupt = s.userInterrupt := rfl
@[simp] theorem State.wake_virtualInterrupt : (s.wake).virtualInterrupt = s.virtualInterrupt := rfl
@[simp] theorem State.wake_monitor : (s.wake).monitor = s.monitor := rfl
@[simp] theorem State.wake_tmemk : (s.wake).tmemk = s.tmemk := rfl
@[simp] theorem State.wake_tse : (s.wake).tse = s.tse := rfl
@[simp] theorem State.wake_rao : (s.wake).rao = s.rao := rfl
@[simp] theorem State.wake_pt : (s.wake).pt = s.pt := rfl
@[simp] theorem State.wake_pebs : (s.wake).pebs = s.pebs := rfl
@[simp] theorem State.wake_mem : (s.wake).mem = s.mem := rfl
@[simp] theorem State.wake_delivered : (s.wake).delivered = s.delivered := rfl
@[simp] theorem State.wake_cfg : (s.wake).cfg = s.cfg := rfl
@[simp] theorem State.wake_draws : (s.wake).draws = s.draws := rfl
@[simp] theorem State.wake_ilen : (s.wake).ilen = s.ilen := rfl

@[simp] theorem State.xorReg_rip (d r : Gpr) : (s.xorReg d r).rip = s.rip := rfl
@[simp] theorem State.xorReg_sys (d r : Gpr) : (s.xorReg d r).sys = s.sys := rfl
@[simp] theorem State.xorReg_ctx (d r : Gpr) : (s.xorReg d r).ctx = s.ctx := rfl
@[simp] theorem State.xorReg_vec (d r : Gpr) : (s.xorReg d r).vec = s.vec := rfl
@[simp] theorem State.xorReg_amx (d r : Gpr) : (s.xorReg d r).amx = s.amx := rfl
@[simp] theorem State.xorReg_msr (d r : Gpr) : (s.xorReg d r).msr = s.msr := rfl
@[simp] theorem State.xorReg_tsc (d r : Gpr) : (s.xorReg d r).tsc = s.tsc := rfl
@[simp] theorem State.xorReg_vmcs (d r : Gpr) : (s.xorReg d r).vmcs = s.vmcs := rfl
@[simp] theorem State.xorReg_guestDeadline (d r : Gpr) : (s.xorReg d r).guestDeadline = s.guestDeadline := rfl
@[simp] theorem State.xorReg_uirr (d r : Gpr) : (s.xorReg d r).uirr = s.uirr := rfl
@[simp] theorem State.xorReg_uif (d r : Gpr) : (s.xorReg d r).uif = s.uif := rfl
@[simp] theorem State.xorReg_userInterrupt (d r : Gpr) : (s.xorReg d r).userInterrupt = s.userInterrupt := rfl
@[simp] theorem State.xorReg_virtualInterrupt (d r : Gpr) : (s.xorReg d r).virtualInterrupt = s.virtualInterrupt := rfl
@[simp] theorem State.xorReg_monitor (d r : Gpr) : (s.xorReg d r).monitor = s.monitor := rfl
@[simp] theorem State.xorReg_tmemk (d r : Gpr) : (s.xorReg d r).tmemk = s.tmemk := rfl
@[simp] theorem State.xorReg_tse (d r : Gpr) : (s.xorReg d r).tse = s.tse := rfl
@[simp] theorem State.xorReg_rao (d r : Gpr) : (s.xorReg d r).rao = s.rao := rfl
@[simp] theorem State.xorReg_pt (d r : Gpr) : (s.xorReg d r).pt = s.pt := rfl
@[simp] theorem State.xorReg_pebs (d r : Gpr) : (s.xorReg d r).pebs = s.pebs := rfl
@[simp] theorem State.xorReg_mem (d r : Gpr) : (s.xorReg d r).mem = s.mem := rfl
@[simp] theorem State.xorReg_delivered (d r : Gpr) : (s.xorReg d r).delivered = s.delivered := rfl
@[simp] theorem State.xorReg_cfg (d r : Gpr) : (s.xorReg d r).cfg = s.cfg := rfl
@[simp] theorem State.xorReg_ilen (d r : Gpr) : (s.xorReg d r).ilen = s.ilen := rfl

@[simp] theorem State.incReg_rip (d : Gpr) : (s.incReg d).rip = s.rip := rfl
@[simp] theorem State.incReg_sys (d : Gpr) : (s.incReg d).sys = s.sys := rfl
@[simp] theorem State.incReg_ctx (d : Gpr) : (s.incReg d).ctx = s.ctx := rfl
@[simp] theorem State.incReg_vec (d : Gpr) : (s.incReg d).vec = s.vec := rfl
@[simp] theorem State.incReg_amx (d : Gpr) : (s.incReg d).amx = s.amx := rfl
@[simp] theorem State.incReg_msr (d : Gpr) : (s.incReg d).msr = s.msr := rfl
@[simp] theorem State.incReg_tsc (d : Gpr) : (s.incReg d).tsc = s.tsc := rfl
@[simp] theorem State.incReg_vmcs (d : Gpr) : (s.incReg d).vmcs = s.vmcs := rfl
@[simp] theorem State.incReg_guestDeadline (d : Gpr) : (s.incReg d).guestDeadline = s.guestDeadline := rfl
@[simp] theorem State.incReg_uirr (d : Gpr) : (s.incReg d).uirr = s.uirr := rfl
@[simp] theorem State.incReg_uif (d : Gpr) : (s.incReg d).uif = s.uif := rfl
@[simp] theorem State.incReg_userInterrupt (d : Gpr) : (s.incReg d).userInterrupt = s.userInterrupt := rfl
@[simp] theorem State.incReg_virtualInterrupt (d : Gpr) : (s.incReg d).virtualInterrupt = s.virtualInterrupt := rfl
@[simp] theorem State.incReg_monitor (d : Gpr) : (s.incReg d).monitor = s.monitor := rfl
@[simp] theorem State.incReg_tmemk (d : Gpr) : (s.incReg d).tmemk = s.tmemk := rfl
@[simp] theorem State.incReg_tse (d : Gpr) : (s.incReg d).tse = s.tse := rfl
@[simp] theorem State.incReg_rao (d : Gpr) : (s.incReg d).rao = s.rao := rfl
@[simp] theorem State.incReg_pt (d : Gpr) : (s.incReg d).pt = s.pt := rfl
@[simp] theorem State.incReg_pebs (d : Gpr) : (s.incReg d).pebs = s.pebs := rfl
@[simp] theorem State.incReg_mem (d : Gpr) : (s.incReg d).mem = s.mem := rfl
@[simp] theorem State.incReg_delivered (d : Gpr) : (s.incReg d).delivered = s.delivered := rfl
@[simp] theorem State.incReg_cfg (d : Gpr) : (s.incReg d).cfg = s.cfg := rfl
@[simp] theorem State.incReg_draws (d : Gpr) : (s.incReg d).draws = s.draws := rfl
@[simp] theorem State.incReg_ilen (d : Gpr) : (s.incReg d).ilen = s.ilen := rfl

@[simp] theorem State.decReg_rip (d : Gpr) : (s.decReg d).rip = s.rip := rfl
@[simp] theorem State.decReg_sys (d : Gpr) : (s.decReg d).sys = s.sys := rfl
@[simp] theorem State.decReg_ctx (d : Gpr) : (s.decReg d).ctx = s.ctx := rfl
@[simp] theorem State.decReg_vec (d : Gpr) : (s.decReg d).vec = s.vec := rfl
@[simp] theorem State.decReg_amx (d : Gpr) : (s.decReg d).amx = s.amx := rfl
@[simp] theorem State.decReg_msr (d : Gpr) : (s.decReg d).msr = s.msr := rfl
@[simp] theorem State.decReg_tsc (d : Gpr) : (s.decReg d).tsc = s.tsc := rfl
@[simp] theorem State.decReg_vmcs (d : Gpr) : (s.decReg d).vmcs = s.vmcs := rfl
@[simp] theorem State.decReg_guestDeadline (d : Gpr) : (s.decReg d).guestDeadline = s.guestDeadline := rfl
@[simp] theorem State.decReg_uirr (d : Gpr) : (s.decReg d).uirr = s.uirr := rfl
@[simp] theorem State.decReg_uif (d : Gpr) : (s.decReg d).uif = s.uif := rfl
@[simp] theorem State.decReg_userInterrupt (d : Gpr) : (s.decReg d).userInterrupt = s.userInterrupt := rfl
@[simp] theorem State.decReg_virtualInterrupt (d : Gpr) : (s.decReg d).virtualInterrupt = s.virtualInterrupt := rfl
@[simp] theorem State.decReg_monitor (d : Gpr) : (s.decReg d).monitor = s.monitor := rfl
@[simp] theorem State.decReg_tmemk (d : Gpr) : (s.decReg d).tmemk = s.tmemk := rfl
@[simp] theorem State.decReg_tse (d : Gpr) : (s.decReg d).tse = s.tse := rfl
@[simp] theorem State.decReg_rao (d : Gpr) : (s.decReg d).rao = s.rao := rfl
@[simp] theorem State.decReg_pt (d : Gpr) : (s.decReg d).pt = s.pt := rfl
@[simp] theorem State.decReg_pebs (d : Gpr) : (s.decReg d).pebs = s.pebs := rfl
@[simp] theorem State.decReg_mem (d : Gpr) : (s.decReg d).mem = s.mem := rfl
@[simp] theorem State.decReg_delivered (d : Gpr) : (s.decReg d).delivered = s.delivered := rfl
@[simp] theorem State.decReg_cfg (d : Gpr) : (s.decReg d).cfg = s.cfg := rfl
@[simp] theorem State.decReg_draws (d : Gpr) : (s.decReg d).draws = s.draws := rfl
@[simp] theorem State.decReg_ilen (d : Gpr) : (s.decReg d).ilen = s.ilen := rfl

/-- A boundary gives a next state only after one. -/
theorem stepBoundary_next {touched : State → List W64} {o : Host.Outcome State Fault Refusal} {t : State}
    (h : stepBoundary s touched o = .next t) : ∃ v, o = .next v ∧ t = finish (touched v) s v := by
  cases o with
  | next v => exact ⟨v, rfl, by simpa [stepBoundary] using h.symm⟩
  | fault f => cases h
  | refused r => cases h

/-- What a step does where it executes an instruction. -/
theorem stepFetch_next {t : State} (h : stepFetch s = .next t) :
    (∃ i n v, fetch s = .instr i n ∧ exec i { s with ilen := n } = .next v ∧
      t = finish (accessed i { s with ilen := n } v) s v) ∨
    (∃ i n v, fetch s = .base i n ∧ execBase i { s with ilen := n } = .next v ∧
      t = finish (i.accessed { s with ilen := n }) s v) ∨
    ∃ e, fetch s = .trap e ∧ t = (s.takeTrap e).tick := by
  unfold stepFetch at h
  cases hf : fetch s with
  | instr i n =>
    rw [hf] at h
    obtain ⟨v, hv, ht⟩ := stepBoundary_next s h
    exact .inl ⟨i, n, v, rfl, hv, ht⟩
  | base i n =>
    rw [hf] at h
    obtain ⟨v, hv, ht⟩ := stepBoundary_next s h
    exact .inr (.inl ⟨i, n, v, rfl, hv, ht⟩)
  | trap e =>
    rw [hf] at h
    exact .inr (.inr ⟨e, rfl, by simpa using h.symm⟩)
  | outside => rw [hf] at h; cases h

/-- Everything that a step can do: an event, the execution of an instruction, or a wait (R831, R832). -/
theorem step_next {t : State} (h : step s = .next t) :
    s.delivered = none ∧
    ((s.raoStep.guestTimerDue = true ∧ t = s.raoStep.processGuestTimer.tick) ∨
     (s.raoStep.guestTimerDue = false ∧ s.raoStep.userTimerDue = true ∧ t = s.raoStep.processUserTimer.tick) ∨
     (s.ctx.activity = .active ∧ stepFetch s.raoStep = .next t) ∨
     (s.ctx.activity ≠ .active ∧ t = s.raoStep.tick)) := by
  unfold step at h
  cases hd : s.delivered with
  | some d => rw [hd] at h; cases h
  | none =>
    rw [hd] at h
    refine ⟨rfl, ?_⟩
    simp only [stepActive] at h
    split at h
    · exact .inl ⟨‹_›, by simpa using h.symm⟩
    · split at h
      · exact .inr (.inl ⟨by simp_all, ‹_›, by simpa using h.symm⟩)
      · split at h
        · exact .inr (.inr (.inl ⟨by simpa using ‹s.raoStep.ctx.activity = .active›, h⟩))
        · exact .inr (.inr (.inr ⟨by simpa using ‹¬ s.raoStep.ctx.activity = .active›, by simpa using h.symm⟩))

/-! ### Records (R777) -/

/-- In SMM outside an STM no record is written, and what is pending stays pending (R798, R799). -/
theorem runPebs_smm {s : State} (pre : State) (touched : List W64) (h : s.ctx.smm = true) (v : s.ctx.vmx ≠ .root) :
    runPebs pre touched s = s := by
  simp [runPebs, State.inStm, h, v]

/-- A reserved field takes its room in a record whether it is written or not. -/
@[simp] theorem reservedField_length (s : State) (i n : Nat) : (reservedField s i n).length = n := by
  simp [reservedField]

end Sys2Proof.Machine
end

