-- ==== Sys2Proof/Tests/Slice0.lean ====
section
/-! SUPPORT. Small tests: ill-formed terms, words of the spec's encodings, hand-calculated effects (95_test_vectors.md and the
worked examples of the rules), and for every obligation a concrete state that meets its hypotheses. -/

namespace Sys2Proof.Tests

-- One test after another: hundreds of kernel checks under way at once need more threads than the check's memory limit holds.
set_option Elab.async false

open Sys2Proof Sys2Proof.Machine Sys2Proof.Claims

/-! ### Helpers -/

/-- The operand `[g]`. -/
def at0 (g : Gpr) : MemOp := ⟨none, .a64, .reg g, none, 0, 0⟩

/-- The operand `[rbx + rcx]`. -/
def sib : MemOp := ⟨none, .a64, .reg .rbx, some .rcx, 0, 0⟩

/-- 64-bit mode, privilege level 0, every register state of the spec enabled. -/
def lab : State :=
  { State.reset with rip := 0x403000, sys := { State.reset.sys with cr4 := 0x40020, xcr0 := 0x600E7 } }

/-- General registers changed. -/
def withRegs (s : State) (l : List (Gpr × W64)) : State := l.foldl (fun t p => t.setReg p.1 p.2) s

/-- Bytes stored at an address. -/
def withBytes (s : State) (a : Nat) (l : List Byte) : State := { s with mem := writeBytes s.mem (List.range' a l.length) l }

/-- The same at privilege level 3. -/
def user (s : State) : State := { s with sys := { s.sys with cpl := 3 } }

/-- Another configuration. -/
def withCfg (s : State) (c : Cfg) : State := { s with cfg := c }

/-- A value of the next state, if there is one. -/
def after {α : Type} (o : Host.Outcome State Fault Refusal) (f : State → α) : Option α :=
  match o with
  | .next t => some (f t)
  | _ => none

/-- The exception that was taken, if one was. -/
def taken (o : Host.Outcome State Fault Refusal) : Option (Option Delivered) := after o State.delivered

theorem next_of_after {α : Type} {o : Host.Outcome State Fault Refusal} {f : State → α} {v : α} (h : after o f = some v) :
    ∃ t, o = .next t ∧ f t = v := by
  cases o <;> simp_all [after]

/-- All words decode to their instructions. -/
def decodesAll (l : List (List Nat × Instr)) : Bool :=
  l.all (fun p => decide (decode mode64 (bytesOf p.1) = .ok (p.2, p.1.length)))

/-! ### Well-formedness: one ill-formed term for each check -/

theorem test_wf_address_size : MemOp.wf ⟨none, .a16, .reg .rbx, none, 0, 0⟩ = false := by decide
theorem test_wf_rsp_index : MemOp.wf ⟨none, .a64, .reg .rbx, some .rsp, 0, 0⟩ = false := by decide
theorem test_wf_scale_without_index : MemOp.wf ⟨none, .a64, .reg .rbx, none, 1, 0⟩ = false := by decide
theorem test_wf_rip_with_index : MemOp.wf ⟨none, .a64, .rip, some .rcx, 0, 0⟩ = false := by decide
theorem test_wf_sibmem_rip : (Instr.tileloadd 0 ⟨none, .a64, .rip, none, 0, 0⟩).wf = false := by decide
theorem test_wf_high_byte_with_rex : (Instr.movrsB .ah (at0 .r8)).wf = false := by decide
theorem test_wf_high_byte_with_rex_index :
    (Instr.movrsB .bh ⟨none, .a64, .reg .rax, some .r12, 0, 0⟩).wf = false := by decide
theorem test_wf_vex_tile : (Instr.tdpbf8ps 0 16 1).wf = false := by decide
theorem test_wf_vex_vector : (Instr.vsm4Key4Vex128 16 0 (.reg 0)).wf = false := by decide
theorem test_wf_vex_source : (Instr.vsm4Rnds4Vex256 0 0 (.reg 31)).wf = false := by decide
theorem test_wf_evex_source :
    (Instr.vsm4Rnds4Evex512 0 0 (.mem ⟨none, .a64, .reg .rbx, some .rsp, 0, 0⟩)).wf = false := by decide
theorem test_wf_zeroing_without_mask : (Instr.vmovrsD512 0 0 true (at0 .rax)).wf = false := by decide
theorem test_wf_monitor_address_size : (Instr.monitor none .a16).wf = false := by decide

/-! ### Decoding: a word of every row, its bits written out from R185 -/

theorem test_decode_system : decodesAll
  [([0x0F, 0xA2], .cpuid),
   ([0x0F, 0x01, 0xC7], .pbndkb),
   ([0x0F, 0x01, 0xC5], .pconfig),
   ([0x0F, 0x32], .rdmsr),
   ([0x0F, 0x01, 0xC6], .wrmsrns),
   ([0x0F, 0x01, 0xC9], .mwait),
   ([0x0F, 0x01, 0xC8], .monitor none .a64)] = true := by decide

theorem test_decode_rao : decodesAll
  [([0x0F, 0x38, 0xFC, 0x0B], .aadd .o32 ⟨none, .a64, .reg .rbx, none, 0, 0⟩ .rcx),
   ([0x48, 0x0F, 0x38, 0xFC, 0x0B], .aadd .o64 ⟨none, .a64, .reg .rbx, none, 0, 0⟩ .rcx),
   ([0x66, 0x0F, 0x38, 0xFC, 0x0B], .aand .o32 ⟨none, .a64, .reg .rbx, none, 0, 0⟩ .rcx),
   ([0x66, 0x48, 0x0F, 0x38, 0xFC, 0x0B], .aand .o64 ⟨none, .a64, .reg .rbx, none, 0, 0⟩ .rcx),
   ([0xF2, 0x0F, 0x38, 0xFC, 0x0B], .aor .o32 ⟨none, .a64, .reg .rbx, none, 0, 0⟩ .rcx),
   ([0xF2, 0x48, 0x0F, 0x38, 0xFC, 0x0B], .aor .o64 ⟨none, .a64, .reg .rbx, none, 0, 0⟩ .rcx),
   ([0xF3, 0x0F, 0x38, 0xFC, 0x0B], .axor .o32 ⟨none, .a64, .reg .rbx, none, 0, 0⟩ .rcx),
   ([0xF3, 0x48, 0x0F, 0x38, 0xFC, 0x0B], .axor .o64 ⟨none, .a64, .reg .rbx, none, 0, 0⟩ .rcx)] = true := by decide

theorem test_decode_movrs : decodesAll
  [([0x0F, 0x38, 0x8A, 0x23], .movrsB .ah ⟨none, .a64, .reg .rbx, none, 0, 0⟩),
   ([0x40, 0x0F, 0x38, 0x8A, 0x23], .movrsB (.low .rsp) ⟨none, .a64, .reg .rbx, none, 0, 0⟩),
   ([0x66, 0x0F, 0x38, 0x8B, 0x0B], .movrsV .o16 .rcx ⟨none, .a64, .reg .rbx, none, 0, 0⟩),
   ([0x0F, 0x38, 0x8B, 0x0B], .movrsV .o32 .rcx ⟨none, .a64, .reg .rbx, none, 0, 0⟩),
   ([0x4C, 0x0F, 0x38, 0x8B, 0x0B], .movrsV .o64 .r9 ⟨none, .a64, .reg .rbx, none, 0, 0⟩),
   ([0x0F, 0x18, 0x23], .prefetchrst2 ⟨none, .a64, .reg .rbx, none, 0, 0⟩)] = true := by decide

theorem test_decode_vmovrs : decodesAll
  [([0x62, 0xF5, 0x7F, 0x89, 0x6F, 0x53, 0x01], .vmovrsB128 2 1 true ⟨none, .a64, .reg .rbx, none, 0, 16⟩),
   ([0x62, 0xF5, 0x7F, 0xA9, 0x6F, 0x53, 0x01], .vmovrsB256 2 1 true ⟨none, .a64, .reg .rbx, none, 0, 32⟩),
   ([0x62, 0xF5, 0x7F, 0xC9, 0x6F, 0x53, 0x01], .vmovrsB512 2 1 true ⟨none, .a64, .reg .rbx, none, 0, 64⟩),
   ([0x62, 0xF5, 0xFF, 0x89, 0x6F, 0x53, 0x01], .vmovrsW128 2 1 true ⟨none, .a64, .reg .rbx, none, 0, 16⟩),
   ([0x62, 0xF5, 0xFF, 0xA9, 0x6F, 0x53, 0x01], .vmovrsW256 2 1 true ⟨none, .a64, .reg .rbx, none, 0, 32⟩),
   ([0x62, 0xF5, 0xFF, 0xC9, 0x6F, 0x53, 0x01], .vmovrsW512 2 1 true ⟨none, .a64, .reg .rbx, none, 0, 64⟩),
   ([0x62, 0xF5, 0x7E, 0x89, 0x6F, 0x53, 0x01], .vmovrsD128 2 1 true ⟨none, .a64, .reg .rbx, none, 0, 16⟩),
   ([0x62, 0xF5, 0x7E, 0xA9, 0x6F, 0x53, 0x01], .vmovrsD256 2 1 true ⟨none, .a64, .reg .rbx, none, 0, 32⟩),
   ([0x62, 0xF5, 0x7E, 0xC9, 0x6F, 0x53, 0x01], .vmovrsD512 2 1 true ⟨none, .a64, .reg .rbx, none, 0, 64⟩),
   ([0x62, 0xF5, 0xFE, 0x89, 0x6F, 0x53, 0x01], .vmovrsQ128 2 1 true ⟨none, .a64, .reg .rbx, none, 0, 16⟩),
   ([0x62, 0xF5, 0xFE, 0xA9, 0x6F, 0x53, 0x01], .vmovrsQ256 2 1 true ⟨none, .a64, .reg .rbx, none, 0, 32⟩),
   ([0x62, 0xF5, 0xFE, 0xC9, 0x6F, 0x53, 0x01], .vmovrsQ512 2 1 true ⟨none, .a64, .reg .rbx, none, 0, 64⟩)] = true := by decide

theorem test_decode_msr : decodesAll
  [([0xC4, 0xE7, 0x7B, 0xF6, 0xC3, 0x01, 0x1B, 0x00, 0x00], .rdmsrImm .rbx 0x1B01),
   ([0x62, 0xF7, 0x7F, 0x08, 0xF6, 0xC3, 0x01, 0x1B, 0x00, 0x00], .rdmsrImmApx .rbx 0x1B01),
   ([0xF2, 0x0F, 0x38, 0xF8, 0xCB], .urdmsr .rbx .rcx),
   ([0xC4, 0xE7, 0x7B, 0xF8, 0xC3, 0x01, 0x1B, 0x00, 0x00], .urdmsrImm .rbx 0x1B01),
   ([0xF3, 0x0F, 0x38, 0xF8, 0xCB], .uwrmsr .rcx .rbx),
   ([0xC4, 0xE7, 0x7A, 0xF8, 0xC3, 0x01, 0x1B, 0x00, 0x00], .uwrmsrImm 0x1B01 .rbx),
   ([0xC4, 0xE7, 0x7A, 0xF6, 0xC3, 0x01, 0x1B, 0x00, 0x00], .wrmsrnsImm 0x1B01 .rbx),
   ([0x62, 0xF7, 0x7E, 0x08, 0xF6, 0xC3, 0x01, 0x1B, 0x00, 0x00], .wrmsrnsImmApx 0x1B01 .rbx)] = true := by decide

theorem test_decode_sm4 : decodesAll
  [([0xC4, 0xE2, 0x6A, 0xDA, 0xCB], .vsm4Key4Vex128 1 2 (.reg 3)),
   ([0xC4, 0xE2, 0x6E, 0xDA, 0xCB], .vsm4Key4Vex256 1 2 (.reg 3)),
   ([0x62, 0xF2, 0x6E, 0x08, 0xDA, 0xCB], .vsm4Key4Evex128 1 2 (.reg 3)),
   ([0x62, 0xF2, 0x6E, 0x28, 0xDA, 0xCB], .vsm4Key4Evex256 1 2 (.reg 3)),
   ([0x62, 0xF2, 0x6E, 0x48, 0xDA, 0xCB], .vsm4Key4Evex512 1 2 (.reg 3)),
   ([0xC4, 0xE2, 0x6B, 0xDA, 0xCB], .vsm4Rnds4Vex128 1 2 (.reg 3)),
   ([0xC4, 0xE2, 0x6F, 0xDA, 0xCB], .vsm4Rnds4Vex256 1 2 (.reg 3)),
   ([0x62, 0xF2, 0x6F, 0x08, 0xDA, 0xCB], .vsm4Rnds4Evex128 1 2 (.reg 3)),
   ([0x62, 0xF2, 0x6F, 0x28, 0xDA, 0xCB], .vsm4Rnds4Evex256 1 2 (.reg 3)),
   ([0x62, 0xF2, 0x6F, 0x48, 0xDA, 0xCB], .vsm4Rnds4Evex512 1 2 (.reg 3))] = true := by decide

theorem test_decode_tile_config : decodesAll
  [([0xC4, 0xE2, 0x78, 0x49, 0x03], .ldtilecfg ⟨none, .a64, .reg .rbx, none, 0, 0⟩),
   ([0xC4, 0xE2, 0x79, 0x49, 0x03], .sttilecfg ⟨none, .a64, .reg .rbx, none, 0, 0⟩),
   ([0xC4, 0xE2, 0x78, 0x49, 0xC0], .tilerelease),
   ([0xC4, 0xE2, 0x7B, 0x49, 0xE8], .tilezero 5)] = true := by decide

theorem test_decode_tile_memory : decodesAll
  [([0xC4, 0xE2, 0x7B, 0x4B, 0x2C, 0x48], .tileloadd 5 ⟨none, .a64, .reg .rax, some .rcx, 1, 0⟩),
   ([0xC4, 0xE2, 0x79, 0x4B, 0x2C, 0x48], .tileloaddT1 5 ⟨none, .a64, .reg .rax, some .rcx, 1, 0⟩),
   ([0xC4, 0xE2, 0x7A, 0x4B, 0x2C, 0x48], .tilestored ⟨none, .a64, .reg .rax, some .rcx, 1, 0⟩ 5),
   ([0xC4, 0xE2, 0x78, 0x6E, 0x2C, 0x48], .t2rpntlvwZ0 5 ⟨none, .a64, .reg .rax, some .rcx, 1, 0⟩),
   ([0xC4, 0xE2, 0x78, 0x6F, 0x2C, 0x48], .t2rpntlvwZ0T1 5 ⟨none, .a64, .reg .rax, some .rcx, 1, 0⟩),
   ([0xC4, 0xE2, 0x79, 0x6E, 0x2C, 0x48], .t2rpntlvwZ1 5 ⟨none, .a64, .reg .rax, some .rcx, 1, 0⟩),
   ([0xC4, 0xE2, 0x79, 0x6F, 0x2C, 0x48], .t2rpntlvwZ1T1 5 ⟨none, .a64, .reg .rax, some .rcx, 1, 0⟩),
   ([0xC4, 0xE5, 0x78, 0xF8, 0x2C, 0x48], .t2rpntlvwZ0RS 5 ⟨none, .a64, .reg .rax, some .rcx, 1, 0⟩),
   ([0xC4, 0xE5, 0x78, 0xF9, 0x2C, 0x48], .t2rpntlvwZ0RST1 5 ⟨none, .a64, .reg .rax, some .rcx, 1, 0⟩),
   ([0xC4, 0xE5, 0x79, 0xF8, 0x2C, 0x48], .t2rpntlvwZ1RS 5 ⟨none, .a64, .reg .rax, some .rcx, 1, 0⟩),
   ([0xC4, 0xE5, 0x79, 0xF9, 0x2C, 0x48], .t2rpntlvwZ1RST1 5 ⟨none, .a64, .reg .rax, some .rcx, 1, 0⟩),
   ([0xC4, 0xE2, 0x7B, 0x4A, 0x2C, 0x48], .tileloaddrs 5 ⟨none, .a64, .reg .rax, some .rcx, 1, 0⟩),
   ([0xC4, 0xE2, 0x79, 0x4A, 0x2C, 0x48], .tileloaddrsT1 5 ⟨none, .a64, .reg .rax, some .rcx, 1, 0⟩)] = true := by decide

theorem test_decode_tile_multiply : decodesAll
  [([0xC4, 0xE2, 0x61, 0x6C, 0xCA], .tcmmimfp16ps 1 2 3),
   ([0xC4, 0xE2, 0x60, 0x6C, 0xCA], .tcmmrlfp16ps 1 2 3),
   ([0xC4, 0xE2, 0x60, 0x6B, 0xCA], .tconjtcmmimfp16ps 1 2 3),
   ([0xC4, 0xE2, 0x79, 0x6B, 0xCA], .tconjtfp16 1 2),
   ([0xC4, 0xE5, 0x60, 0xFD, 0xCA], .tdpbf8ps 1 2 3),
   ([0xC4, 0xE5, 0x63, 0xFD, 0xCA], .tdpbhf8ps 1 2 3),
   ([0xC4, 0xE5, 0x62, 0xFD, 0xCA], .tdphbf8ps 1 2 3),
   ([0xC4, 0xE5, 0x61, 0xFD, 0xCA], .tdphf8ps 1 2 3),
   ([0xC4, 0xE2, 0x61, 0x48, 0xCA], .tmmultf32ps 1 2 3),
   ([0xC4, 0xE2, 0x63, 0x6B, 0xCA], .ttcmmimfp16ps 1 2 3),
   ([0xC4, 0xE2, 0x62, 0x6B, 0xCA], .ttcmmrlfp16ps 1 2 3),
   ([0xC4, 0xE2, 0x62, 0x6C, 0xCA], .ttdpbf16ps 1 2 3),
   ([0xC4, 0xE2, 0x63, 0x6C, 0xCA], .ttdpfp16ps 1 2 3),
   ([0xC4, 0xE2, 0x60, 0x48, 0xCA], .ttmmultf32ps 1 2 3),
   ([0xC4, 0xE2, 0x7A, 0x5F, 0xCA], .ttransposed 1 2)] = true := by decide

theorem test_decode_tile_row : decodesAll
  [([0x62, 0xF2, 0x66, 0x48, 0x4A, 0xCA], .tcvtrowd2psR 1 2 .rbx),
   ([0x62, 0xF3, 0x7E, 0x48, 0x07, 0xCA, 0x43], .tcvtrowd2psI 1 2 0x43),
   ([0x62, 0xF2, 0x67, 0x48, 0x6D, 0xCA], .tcvtrowps2pbf16hR 1 2 .rbx),
   ([0x62, 0xF3, 0x7F, 0x48, 0x07, 0xCA, 0x43], .tcvtrowps2pbf16hI 1 2 0x43),
   ([0x62, 0xF2, 0x66, 0x48, 0x6D, 0xCA], .tcvtrowps2pbf16lR 1 2 .rbx),
   ([0x62, 0xF3, 0x7E, 0x48, 0x77, 0xCA, 0x43], .tcvtrowps2pbf16lI 1 2 0x43),
   ([0x62, 0xF2, 0x64, 0x48, 0x6D, 0xCA], .tcvtrowps2phhR 1 2 .rbx),
   ([0x62, 0xF3, 0x7C, 0x48, 0x07, 0xCA, 0x43], .tcvtrowps2phhI 1 2 0x43),
   ([0x62, 0xF2, 0x65, 0x48, 0x6D, 0xCA], .tcvtrowps2phlR 1 2 .rbx),
   ([0x62, 0xF3, 0x7F, 0x48, 0x77, 0xCA, 0x43], .tcvtrowps2phlI 1 2 0x43),
   ([0x62, 0xF3, 0x7D, 0x48, 0x07, 0xCA, 0x43], .tilemovrowI 1 2 0x43),
   ([0x62, 0xF2, 0x65, 0x48, 0x4A, 0xCA], .tilemovrowR 1 2 .rbx)] = true := by decide

/-- Reserved encodings (R167, R175): a LOCK prefix, a register form of a memory row, a VEX row with L = 1. -/
theorem test_decode_reserved :
    decode mode64 (bytesOf [0xF0, 0x0F, 0xA2]) = .error .ud ∧
    decode mode64 (bytesOf [0x0F, 0x38, 0xFC, 0xC0]) = .error .ud ∧
    decode mode64 (bytesOf [0xC4, 0xE5, 0x6C, 0xFD, 0xC1]) = .error .ud := by decide

/-- R161: in 64-bit mode an ES override after an FS override changes nothing. R175: opcode 4AH of map 5 under EVEX, F6H of map 6
under VEX. R453, R480: VEX before 0F 01 C7 and 0F 01 C5. R167: the memory form of F2 0F38 F8 and VEX map 1, 6FH, are the base
architecture's. -/
theorem test_decode_prefixes :
    decode mode64 (bytesOf [0x64, 0x26, 0x0F, 0x18, 0x20]) = .ok (.prefetchrst2 ⟨some .fs, .a64, .reg .rax, none, 0, 0⟩, 5) ∧
    decode mode64 (bytesOf [0x62, 0xF5, 0x7D, 0x48, 0x4A, 0xC0]) = .error .ud ∧
    decode mode64 (bytesOf [0xC4, 0xE6, 0x7B, 0xF6, 0xC0]) = .error .ud ∧
    decode mode64 (bytesOf [0xC4, 0xE1, 0x78, 0x01, 0xC7]) = .error .ud ∧
    decode mode64 (bytesOf [0xC5, 0xF8, 0x01, 0xC5]) = .error .ud ∧
    decode mode64 (bytesOf [0xF2, 0x0F, 0x38, 0xF8, 0x08]) = .error .outside ∧
    decode mode64 (bytesOf [0xC5, 0xF9, 0x6F, 0xC1]) = .error .outside := by decide

/-- The base instructions of P1 to P3 (Part C), and 0F 18 /4 of a register (R167). -/
theorem test_decode_base :
    decodeBase mode64 (bytesOf [0x0F, 0xB6, 0x0E]) = .ok (.movzx .rcx (at0 .rsi), 3) ∧
    decodeBase mode64 (bytesOf [0x48, 0xFF, 0xC6]) = .ok (.inc .rsi, 3) ∧
    decodeBase mode64 (bytesOf [0xFF, 0xCA]) = .ok (.dec .rdx, 2) ∧
    decodeBase mode64 (bytesOf [0x75, 0xF1]) = .ok (.jnz 0xF1, 2) ∧
    decodeBase mode64 (bytesOf [0x0F, 0xAE, 0xF8]) = .ok (.sfence, 3) ∧
    decodeBase mode64 (bytesOf [0xB9, 0x1C, 0, 0, 0]) = .ok (.movImm .rcx 0x1C, 5) ∧
    decodeBase mode64 (bytesOf [0x31, 0xD2]) = .ok (.xorReg .rdx .rdx, 2) ∧
    decodeBase mode64 (bytesOf [0x0F, 0x18, 0xE0]) = .ok (.reservedNop, 3) ∧
    decodeBase mode64 (bytesOf [0x90]) = .error .outside := by decide

/-- R175, R179: what only APX would claim, map 4 and EVEX MULX, is #UD. R401, R415: SFENCE exists in a 16-bit code segment too. -/
theorem test_decode_apx_and_sfence16 :
    decode mode64 (bytesOf [0x62, 0xF4, 0x7C, 0x08, 0x4A, 0xC0]) = .error .ud ∧
    decode mode64 (bytesOf [0x62, 0xF4, 0x7C, 0x08, 0xFC, 0x00]) = .error .ud ∧
    decode mode64 (bytesOf [0x62, 0xF2, 0x7F, 0x08, 0xF6, 0xC0]) = .error .ud ∧
    decode ⟨false, false, false⟩ (bytesOf [0x0F, 0xAE, 0xF8]) = .error .outside ∧
    decodeBase ⟨false, false, false⟩ (bytesOf [0x0F, 0xAE, 0xF8]) = .ok (.sfence, 3) ∧
    decodeBase ⟨false, false, false⟩ (bytesOf [0x75, 0xF1]) = .error .outside := by decide

/-- R332: EAX[3:0] of (1EH,1) are the flags of leaf 07H, here AMX-INT8 and AMX-BF16, whatever is listed. R335: 40000000H is no leaf,
whatever the highest one is. -/
def oddCfg : Cfg :=
  { profile with cpuid := [cpuRow 0 0x40000001 0 0 0, cpuSub 7 0 0 0 0 (bitsOf [22, 25]), cpuSub 0x1E 1 0x1C 7 0 0,
    cpuRow 0x40000000 9 9 9 9, cpuRow 0x40000001 8 8 8 8] }
theorem test_cpuid_duplicates_and_no_leaf :
    cpuidAnswer (withCfg lab oddCfg) 0x1E 1 = ⟨0x1E, some 1, 0x13, 0, 0, 0⟩ ∧
    cpuidAnswer (withCfg lab oddCfg) 0x40000000 0 = zeroRow := by decide

/-- R230, R233: no processor serial number. R270: the domains of leaf 0BH, whatever types are listed. -/
def topologyCfg : Cfg :=
  { profile with cpuid := [cpuRow 0 0x24 0 0 0, cpuRow 1 0 0 0 0xFFFFFFFF, cpuSub 0xB 0 1 2 0x500 7, cpuSub 0xB 2 3 4 0x200 7] }
theorem test_cpuid_topology :
    bitAt (cpuidAnswer (withCfg lab topologyCfg) 1 0).edx 18 = false ∧
    (cpuidAnswer (withCfg lab topologyCfg) 0xB 0).ecx = 0x100 ∧ (cpuidAnswer (withCfg lab topologyCfg) 0xB 1).ecx = 0x201 ∧
    (cpuidAnswer (withCfg lab topologyCfg) 0xB 2).ecx = 2 ∧ (cpuidAnswer (withCfg lab topologyCfg) 0xB 2).eax = 0 := by decide

/-- R353: no UTMR without UINTR. R528: no MONITOR and no MWAIT without leaf 05H. R345: the brand string ends with NUL. -/
def brandCfg : Cfg :=
  { profile with cpuid := [cpuRow 0 7 0 0 0, cpuRow 1 0 0 8 0, cpuSub 7 0 1 0 0 0, cpuSub 7 1 0 0 0 (bitsOf [13, 23]),
    cpuRow 0x80000000 0x80000004 0 0 0, cpuRow 0x80000004 0x20342029 0x20555043 0x30303531 0x417A484D] }
theorem test_cpuid_flags_and_brand :
    hasUtmr brandCfg = false ∧ monitorFlag (withCfg lab brandCfg) = false ∧ mwaitFlag (withCfg lab brandCfg) = false ∧
    (cpuidAnswer (withCfg lab brandCfg) 0x80000004 0).edx = 0x007A484D := by decide

/-- R261, R263, R264, R266, R281, R291, R292: the flags that imply leaves 12H, 10H, 1AH, 1BH, 23H, 20H and 24H, with a highest leaf. -/
def leavesCfg (last : Nat) : Cfg :=
  { profile with cpuid := [cpuRow 0 last 0 0 0, cpuSub 7 0 1 (bitsOf [2, 15]) 0 (bitsOf [15, 18]),
    cpuSub 7 1 (bitsOf [8, 22]) 0 0 (bitsOf [19]), cpuRow 0x1A 0x40000001 0 0 0] }
theorem test_cpuid_flags_and_leaves :
    (let s := withCfg lab (leavesCfg 0xF)
     (cpuidLeaf s 7 0).ebx = 0 ∧ (cpuidLeaf s 7 0).edx = 0 ∧ (cpuidLeaf s 7 1).eax = 0 ∧ (cpuidLeaf s 7 1).edx = 0) ∧
    (cpuidLeaf (withCfg lab (leavesCfg 0x1A)) 7 0).edx = 0x8000 ∧
    (cpuidLeaf (withCfg lab (leavesCfg 0x24)) 7 1).eax = 0x400100 := by decide

/-- R277, R278: L3 masks for 129 classes of service, of 11 contiguous bits, and L2 masks for 65, of 4 bits that need not be. -/
def catCfg : Cfg :=
  { profile with cpuid := [cpuRow 0 0x10 0 0 0, cpuSub 7 0 0 (bitsOf [15]) 0 0, cpuSub 0x10 0 0 6 0 0, cpuSub 0x10 1 10 0 0 0x80,
    cpuSub 0x10 2 3 0 8 0x40] }
theorem test_cache_masks :
    let s := withCfg lab catCfg
    msrExists s 0xC90 = true ∧ msrExists s 0xD0F = true ∧ msrExists s 0xD50 = true ∧ msrExists s 0xD51 = false ∧
    msrExists lab 0xC90 = false ∧ msrWriteOk s 0xC91 0x7F8 = true ∧ msrWriteOk s 0xC91 0xF8F = false ∧
    msrWriteOk s 0xC91 0x5 = false ∧ msrWriteOk s 0xC91 0 = false ∧ msrWriteOk s 0xD11 0x5 = true ∧
    msrWriteOk s 0xD11 0x10 = false := by decide

/-- R277: with C73H as the highest class of service the masks reach 1902H and 1903H, of which only the second is another register. -/
theorem test_cache_masks_high :
    let s := withCfg lab { catCfg with cpuid := cpuSub 0x10 1 10 0 0 0xC73 :: catCfg.cpuid }
    msrExists s 0x1902 = true ∧ msrExists s 0x1903 = false ∧ msrExists (withCfg lab catCfg) 0x1902 = false := by decide

/-- R10: where no rule fixes them, the reserved bits of an MSR are the configuration's, and so is whether 8BH exists. -/
def maskedCfg : Cfg := { profile with msrs := [⟨0x1A0, 2, 0, false⟩, ⟨0x1B00, 2, 0, false⟩] }
theorem test_configured_masks :
    msrReserved maskedCfg 0x1A0 = 2 ∧ msrReserved maskedCfg 0x1B00 = 0 ∧ msrReserved maskedCfg 0xC0000080 = 0 ∧
    msrReserved profile 0xC0000080 = 0xFFFFFFFFFFFFF2FE ∧
    msrExists (withCfg lab maskedCfg) 0x8B = false ∧ msrExists lab 0x8B = true := by decide

/-- NOP belongs to the base architecture (R8). -/
theorem test_decode_outside : decode mode64 (bytesOf [0x90]) = .error .outside := by decide

/-- The host's two doors: the decoder on a table word, and the step that runs it first after reset. -/
theorem test_table_word : decodeTableWord 16 0xA20F = some .cpuid := by decide
theorem test_fetch_word :
    after (step (State.reset.withFetchWord 16 0xA20F)) (fun t => (t.rip, t.reg .rcx)) = some (2, 0x6C65746E) := by decide

/-! ### Effects, by hand from the worked examples -/

/-- R408: FFFFFFFFH + 1 wraps to 0 without a flag, and the update is only posted. -/
def raoLab (v : List Byte) (c : W64) : State := withBytes (withRegs lab [(.rax, 0x5000), (.rcx, c)]) 0x5000 v

theorem test_aadd_wraps :
    after (exec (.aadd .o32 (at0 .rax) .rcx) (raoLab [0xFF, 0xFF, 0xFF, 0xFF] 1))
      (fun t => (readBytes t.mem (List.range' 0x5000 4), readBytes t.seen (List.range' 0x5000 5), t.rflags)) =
    some ([0xFF, 0xFF, 0xFF, 0xFF], [0, 0, 0, 0, 0], 2) := by decide

/-- R409. -/
theorem test_aand :
    after (exec (.aand .o32 (at0 .rax) .rcx) (raoLab [0x78, 0x56, 0x34, 0x12] 0xFFFF))
      (fun t => readBytes t.seen (List.range' 0x5000 4)) = some [0x78, 0x56, 0, 0] := by decide

/-- R410. -/
theorem test_aor :
    after (exec (.aor .o64 (at0 .rax) .rcx) (raoLab [1] 0x8000000000000000))
      (fun t => readBytes t.seen (List.range' 0x5000 8)) = some [1, 0, 0, 0, 0, 0, 0, 0x80] := by decide

/-- R411. -/
theorem test_axor :
    after (exec (.axor .o32 (at0 .rax) .rcx) (raoLab [0x0F, 0x0F, 0x0F, 0x0F] 0xFFFFFFFF))
      (fun t => readBytes t.seen (List.range' 0x5000 4)) = some [0xF0, 0xF0, 0xF0, 0xF0] := by decide

/-- R404: 5004H is not 8-byte aligned. -/
theorem test_rao_misaligned :
    taken (exec (.aadd .o64 (at0 .rax) .rcx) (withRegs lab [(.rax, 0x5004)])) =
      some (some (.exception 13 (some 0) 0x403000)) := by decide

/-- R421: AH takes the byte, the rest of RAX stays. -/
theorem test_movrs_high_byte :
    after (exec (.movrsB .ah (at0 .rbx)) (withBytes (withRegs lab [(.rax, 0x1122334455667788), (.rbx, 0x5000)]) 0x5000 [0xAB]))
      (·.reg .rax) = some 0x112233445566AB88 := by decide

/-- R422: a 16-bit destination keeps bits 63:16, a 32-bit one clears bits 63:32. -/
def movrsLab : State := withBytes (withRegs lab [(.rax, 0xFFFFFFFFFFFFFFFF), (.rbx, 0x5000)]) 0x5000 [0x34, 0x12, 0xCD, 0xAB]

theorem test_movrs_16 :
    after (exec (.movrsV .o16 .rax (at0 .rbx)) movrsLab) (·.reg .rax) = some 0xFFFFFFFFFFFF1234 := by decide
theorem test_movrs_32 :
    after (exec (.movrsV .o32 .rax (at0 .rbx)) movrsLab) (·.reg .rax) = some 0xABCD1234 := by decide

/-- R424: mask 0101B, merging into all-ones elements, then zeroing; bits 511:128 become zero. -/
def vmovrsLab : State :=
  { (withBytes (withRegs lab [(.rbx, 0x5000)]) 0x5000 [1, 0, 0, 0, 2, 0, 0, 0, 3, 0, 0, 0, 4]).setZmm 5 (BitVec.allOnes 512) with
    vec := { ((lab.setZmm 5 (BitVec.allOnes 512)).vec) with k := lab.vec.k.set 1 5 } }

theorem test_vmovrsd_merge :
    after (exec (.vmovrsD128 5 1 false (at0 .rbx)) vmovrsLab) (·.zmm 5) =
      some 0xFFFFFFFF00000003FFFFFFFF00000001 := by decide +kernel
theorem test_vmovrsd_zero :
    after (exec (.vmovrsD128 5 1 true (at0 .rbx)) vmovrsLab) (·.zmm 5) = some 0x00000000000000030000000000000001 := by decide +kernel
theorem test_vmovrsb_512 :
    after (exec (.vmovrsB512 5 0 false (at0 .rbx)) vmovrsLab) (·.zmm 5) = some 0x04000000030000000200000001 := by decide +kernel
theorem test_vmovrsw_256 :
    after (exec (.vmovrsW256 5 1 true (at0 .rbx)) vmovrsLab) (·.zmm 5) = some 0x0000000200000001 := by decide +kernel
theorem test_vmovrsq_128 :
    after (exec (.vmovrsQ128 5 1 true (at0 .rbx)) vmovrsLab) (·.zmm 5) = some 0x0000000200000001 := by decide +kernel

/-- A2: the vendor string. -/
theorem test_cpuid_vendor :
    after (exec .cpuid lab) (fun t => (t.reg .rbx, t.reg .rdx, t.reg .rcx)) = some (0x756E6547, 0x49656E69, 0x6C65746E) := by
  decide

/-- B1 vector 5: the AMX palette. -/
theorem test_cpuid_palette :
    after (exec .cpuid (withRegs lab [(.rax, 0x1D), (.rcx, 1)])) (fun t => (t.reg .rax, t.reg .rbx, t.reg .rcx, t.reg .rdx)) =
      some (0x04002000, 0x00080040, 0x10, 0) := by decide

/-- P2 part 1: WRMSRNS of IA32_USER_MSR_CTL. -/
def msrLab : State := withRegs { lab with ilen := 3 } [(.rcx, 0x1C), (.rax, 0x200001)]

theorem test_wrmsrns :
    after (exec .wrmsrns msrLab) (fun t => (t.msrVal 0x1C, t.reg .rax, t.rip)) = some (0x200001, 0x200001, 0x403003) := by decide

/-- P2 part 2: at privilege level 3, both bitmap bits of 1B00H set. -/
def userLab : State :=
  withRegs (user ((withBytes (withBytes lab 0x200360 [1]) 0x200B60 [1]).setMsr 0x1C 0x200001))
    [(.rax, 0x1041), (.rcx, 0x1B00)]

theorem test_uwrmsr_imm :
    after (exec (.uwrmsrImm 0x1B00 .rax) userLab) (fun t => (t.msrVal 0x1B00, t.userDeadline, t.userVector)) =
      some (0x1041, 0x1040, 1) := by decide
theorem test_urdmsr_imm :
    after (exec (.urdmsrImm .rbx 0x1B00) (userLab.setMsr 0x1B00 0x1041)) (·.reg .rbx) = some 0x1041 := by decide
theorem test_uwrmsr_register :
    after (exec (.uwrmsr .rcx .rax) userLab) (·.msrVal 0x1B00) = some 0x1041 := by decide
theorem test_urdmsr_register :
    after (exec (.urdmsr .rbx .rcx) (userLab.setMsr 0x1B00 0x1041)) (·.reg .rbx) = some 0x1041 := by decide

/-- P2 negative variant: UWRMSR 10H is #GP(0) whatever the bitmap. -/
theorem test_uwrmsr_table :
    taken (exec (.uwrmsrImm 0x10 .rax) (withBytes userLab 0x200802 [0xFF])) =
      some (some (.exception 13 (some 0) 0x403000)) := by decide

/-- R501: IA32_TSC by RDMSR. -/
theorem test_rdmsr_tsc :
    after (exec .rdmsr { withRegs lab [(.rcx, 0x10)] with tsc := 0x1122334455667788 }) (fun t => (t.reg .rax, t.reg .rdx)) =
      some (0x55667788, 0x11223344) := by decide
theorem test_rdmsr_imm :
    after (exec (.rdmsrImm .rbx 0x1B00) (lab.setMsr 0x1B00 0x1041)) (·.reg .rbx) = some 0x1041 := by decide
theorem test_wrmsrns_imm :
    after (exec (.wrmsrnsImm 0x1B00 .rax) userLab) State.delivered = some (some (.exception 13 (some 0) 0x403000)) := by decide

/-- P5 variant: KEYID 4 with the command byte out of range is #GP(0). -/
theorem test_pconfig_command :
    taken (exec .pconfig (withBytes (withRegs lab [(.rax, 1), (.rbx, 0x7000)]) 0x7000 [3, 0, 2, 1, 0])) =
      some (some (.exception 13 (some 0) 0x403000)) := by decide +kernel

/-- R452: a misaligned input structure. -/
theorem test_pbndkb_misaligned :
    taken (exec .pbndkb (withRegs lab [(.rbx, 0x7080), (.rcx, 0x8000)])) = some (some (.exception 13 (some 0) 0x403000)) := by
  decide

/-- R530: ECX bit 1 is reserved; an armed monitor is triggered after a wait. -/
theorem test_mwait_reserved :
    taken (exec .mwait (withRegs lab [(.rcx, 2)])) = some (some (.exception 13 (some 0) 0x403000)) := by decide
theorem test_mwait_triggers :
    after (exec .mwait { lab with monitor := ⟨true, 0x5000, 64⟩ }) (·.monitor.armed) = some false := by decide

/-- R536: the 64-byte line of 5044H. -/
theorem test_monitor_line :
    after (exec (.monitor none .a64) (withRegs lab [(.rax, 0x5044)])) State.monitor = some ⟨true, 0x5040, 64⟩ := by decide

/-- P4 instructions 1 and 2. -/
def sm4Lab : State :=
  (withBytes (withRegs lab [(.rsi, 0x6000)]) 0x6000
    [0x15, 0x0E, 0x07, 0x00, 0x31, 0x2A, 0x23, 0x1C, 0x4D, 0x46, 0x3F, 0x38, 0x69, 0x62, 0x5B, 0x54]).setZmm 0
    0xC42410CC99A12B0FDF01FEBFA292FFA1

theorem test_vsm4key4 :
    after (exec (.vsm4Key4Vex128 0 0 (.mem (at0 .rsi))) sm4Lab) (·.zmm 0) = some 0x7BA920775A6AB19A41662B61F12186F9 := by
  decide +kernel
theorem test_vsm4rnds4 :
    after (exec (.vsm4Rnds4Evex128 1 1 (.reg 0)) ((lab.setZmm 0 0x7BA920775A6AB19A41662B61F12186F9).setZmm 1
      0x76543210FEDCBA9889ABCDEF01234567)) (·.zmm 1) = some 0xCC13E2EE11C1E22AA18B4CB227FAD345 := by decide +kernel

/-- R547: the standard's example, the same words as key and plaintext. -/
def sm4Words (i : Nat) : W32 := [0x01234567, 0x89ABCDEF, 0xFEDCBA98, 0x76543210].getD i 0
theorem test_sm4_standard_keys : sm4RoundKey sm4Words 0 = 0xF12186F9 ∧ sm4RoundKey sm4Words 31 = 0x9124A012 := by
  decide +kernel
theorem test_sm4_standard_example :
    (List.range 4).map (sm4Encrypt sm4Words sm4Words) = [0x681EDF34, 0xD206965E, 0x86B3E94F, 0x536E4246] := by
  decide +kernel

/-- P3: the configuration image. -/
def cfgLab : State :=
  withBytes (withRegs lab [(.rax, 0x4000)]) 0x4000
    ([1, 0] ++ List.replicate 14 0 ++ [8, 0, 12] ++ List.replicate 29 0 ++ [3, 2])

theorem test_ldtilecfg :
    after (exec (.ldtilecfg (at0 .rax)) cfgLab)
      (fun t => (t.amx.palette, t.tileRows 0, t.tileColsb 0, t.tileRows 1, t.tileColsb 1, t.tileRows 2)) =
      some (1, 3, 8, 2, 12, 0) := by decide

/-- P3: tile 0 of 3 by 8 bytes, tile 1 of 2 by 12 bytes. -/
def tiles01 (r1 : List W512) : State :=
  { withRegs lab [(.rbx, 0x5000), (.rcx, 0x10), (.rdx, 2)] with
    amx := ⟨1, 0, perTile (fun n => [3, 2].getD n 0), perTile (fun n => [8, 12].getD n 0),
      (Vector.replicate 16 (Vector.replicate 16 0)).set 1 (tileOf r1.length (fun i => r1.getD i 0))⟩ }

theorem test_sttilecfg :
    after (exec (.sttilecfg (at0 .rbx)) (tiles01 [])) (fun t => readBytes t.mem [0x5000, 0x5010, 0x5012, 0x5030, 0x5031]) =
      some [1, 8, 12, 3, 2] := by decide

/-- P3 step 2. -/
theorem test_tileloaddrs :
    after (exec (.tileloaddrs 1 sib) (withBytes (withBytes (tiles01 []) 0x5000 [1, 0, 0, 0, 2, 0, 0, 0, 3, 0, 0, 0, 9])
      0x5010 [4, 0, 0, 0, 5, 0, 0, 0, 0xFA, 0xFF, 0xFF, 0xFF]))
      (fun t => (t.tileRow 1 0, t.tileRow 1 1)) =
    some (0x000000030000000200000001, 0xFFFFFFFA0000000500000004) := by decide +kernel

/-- R602: the configured bytes of both rows go to memory, the row distance is RCX. -/
theorem test_tilestored :
    after (exec (.tilestored sib 1) (tiles01 [0x000000030000000200000001, 0xFFFFFFFA0000000500000004]))
      (fun t => readBytes t.mem [0x5000, 0x5008, 0x500C, 0x5010, 0x5018, 0x501C]) = some [1, 3, 0, 4, 0xFA, 0] := by decide +kernel

/-- P3 step 3. -/
theorem test_ttransposed :
    after (exec (.ttransposed 0 1) (tiles01 [0x000000030000000200000001, 0xFFFFFFFA0000000500000004]))
      (fun t => [t.tileRow 0 0, t.tileRow 0 1, t.tileRow 0 2]) =
    some [0x0000000400000001, 0x0000000500000002, 0xFFFFFFFA00000003] := by decide +kernel

/-- P3 steps 5 and 6, on tile 1: row 1 by register, row 0 by immediate. -/
theorem test_tcvtrowd2ps :
    after (exec (.tcvtrowd2psR 0 1 .rcx) (withRegs (tiles01 [0, 0xFFFFFFFA00000003]) [(.rcx, 1)])) (·.zmm 0) =
      some 0xC0C0000040400000 := by decide +kernel
theorem test_tilemovrow :
    after (exec (.tilemovrowI 1 1 0) (tiles01 [0x0000000500000002])) (·.zmm 1) = some 0x0000000500000002 := by decide +kernel

/-- P3 negative variant: row 3 of 2. -/
theorem test_tcvtrow_range :
    taken (exec (.tcvtrowd2psI 0 1 3) (tiles01 [])) = some (some (.exception 13 (some 0) 0x403000)) := by decide

/-- R631, R633, R635, R637 on 1.0 and 1.5: BF16 3F80H and 3FC0H, FP16 3C00H and 3E00H. -/
theorem test_tcvtrow_halves :
    [Instr.tcvtrowps2pbf16hI 2 1 0, .tcvtrowps2pbf16lI 2 1 0, .tcvtrowps2phhI 2 1 0, .tcvtrowps2phlI 2 1 0].map
      (fun i => after (exec i (tiles01 [0x3FC000003F800000])) (·.zmm 2)) =
    [some 0x3FC000003F800000, some 0x00003FC000003F80, some 0x3E0000003C000000, some 0x00003E0000003C00] := by decide +kernel

/-- R599: everything zero. -/
theorem test_tilerelease :
    after (exec .tilerelease (tiles01 [1])) (fun t => (t.amx.palette, t.tileRows 0, t.tileRow 1 0)) = some (0, 0, 0) := by
  decide +kernel

/-- A11 on a small tile: TILEZERO clears every row. -/
theorem test_tilezero :
    after (exec (.tilezero 1) (tiles01 [1, 2])) (fun t => (t.tileRow 1 0, t.tileRow 1 1, t.tileRows 1)) = some (0, 0, 2) := by
  decide +kernel

/-- Eight tiles of one row of four bytes. -/
def unitTiles (a b c : W512) : State :=
  { lab with
    amx := ⟨1, 0, Vector.replicate 16 1, Vector.replicate 16 4,
      (((Vector.replicate 16 (Vector.replicate 16 0)).set 0 (tileOf 1 (fun _ => c))).set 1 (tileOf 1 (fun _ => a))).set 2
        (tileOf 1 (fun _ => b))⟩ }

/-- R642 to R645: bytes 3CH in BF8 are 1.0, 38H in HF8 are 1.0; four products of 1.0 added to 1.0 give 5.0. -/
theorem test_fp8 :
    [after (exec (.tdpbf8ps 0 1 2) (unitTiles 0x3C3C3C3C 0x3C3C3C3C 0x3F800000)) (·.tileRow 0 0),
     after (exec (.tdpbhf8ps 0 1 2) (unitTiles 0x3C3C3C3C 0x38383838 0x3F800000)) (·.tileRow 0 0),
     after (exec (.tdphbf8ps 0 1 2) (unitTiles 0x38383838 0x3C3C3C3C 0x3F800000)) (·.tileRow 0 0),
     after (exec (.tdphf8ps 0 1 2) (unitTiles 0x38383838 0x38383838 0x3F800000)) (·.tileRow 0 0)] =
    [some 0x40A00000, some 0x40A00000, some 0x40A00000, some 0x40A00000] := by decide +kernel

/-- R622, R623: (1 + 2i)(3 + 4i) = -5 + 10i in FP16 pairs, accumulated on 0; R661, R662 the same, and R625 with the
conjugate: (1 - 2i)(3 + 4i) = 11 - 2i. -/
theorem test_complex :
    [Instr.tcmmimfp16ps 0 1 2, .tcmmrlfp16ps 0 1 2, .ttcmmimfp16ps 0 1 2, .ttcmmrlfp16ps 0 1 2, .tconjtcmmimfp16ps 0 1 2].map
      (fun i => after (exec i (unitTiles 0x40003C00 0x44004200 0)) (·.tileRow 0 0)) =
    [some 0x41200000, some 0xC0A00000, some 0x41200000, some 0xC0A00000, some 0xC0000000] := by decide +kernel

/-- R650, R665, R663, R664: 2.0 * 3.0 + 1.0 = 7.0 in TF32; 1 * 3 + 2 * 4 + 1 = 12.0 in BF16 and FP16 pairs. -/
theorem test_pairs :
    [after (exec (.tmmultf32ps 0 1 2) (unitTiles 0x40000000 0x40400000 0x3F800000)) (·.tileRow 0 0),
     after (exec (.ttmmultf32ps 0 1 2) (unitTiles 0x40000000 0x40400000 0x3F800000)) (·.tileRow 0 0),
     after (exec (.ttdpbf16ps 0 1 2) (unitTiles 0x40003F80 0x40804040 0x3F800000)) (·.tileRow 0 0),
     after (exec (.ttdpfp16ps 0 1 2) (unitTiles 0x40003C00 0x44004200 0x3F800000)) (·.tileRow 0 0)] =
    [some 0x40E00000, some 0x40E00000, some 0x41400000, some 0x41400000] := by decide +kernel

/-- R626: the conjugate flips the sign of the imaginary half. -/
theorem test_tconjtfp16 :
    after (exec (.tconjtfp16 0 1) (unitTiles 0x40003C00 0 0)) (·.tileRow 0 0) = some 0xC0003C00 := by decide +kernel

/-- Tiles 0 and 1 of one row of 8 bytes, or tile 1 absent. -/
def pairTiles (second : Bool) : State :=
  { withBytes (withRegs lab [(.rbx, 0x5000), (.rcx, 0x10)]) 0x5000
      [1, 0, 2, 0, 3, 0, 4, 0, 5, 0, 6, 0, 7, 0, 8, 0, 9, 0, 10] with
    amx := ⟨1, 0, perTile (fun n => if n = 0 ∨ (second ∧ n = 1) then 1 else 0),
      perTile (fun n => if n = 0 then (if second then 64 else 8) else if second ∧ n = 1 then 8 else 0),
      Vector.replicate 16 (Vector.replicate 16 0)⟩ }

/-- R604: words of memory rows 0 and 1 interleave; the Z1 form has a row of zeros for row 1. -/
theorem test_pair_load :
    [Instr.t2rpntlvwZ0 0 sib, .t2rpntlvwZ1 0 sib].map (fun i => after (exec i (pairTiles false)) (·.tileRow 0 0)) =
    [some 0x000A000200090001, some 0x0000000200000001] := by decide +kernel

/-- R843, R844: deadline 1040H, vector 1, the TSC past it. -/
def timerLab (tsx : Bool) : State :=
  { user (lab.setMsr 0x1B00 0x1041) with
    tsc := 0x2000, uif := true, ctx := { lab.ctx with tsx := tsx }
    sys := { lab.sys with cpl := 3, cr4 := 0x2040020 } }

theorem test_user_timer :
    after (step (timerLab false)) (fun t => (t.uirr, t.msrVal 0x1B00, t.userInterrupt, t.rip)) =
      some (2, 0, true, 0x403000) := by decide

/-- P1: DEC from 1 gives ZF = PF = 1 and keeps CF; JNZ of 75 F1 at 40300DH goes to 403000H; SFENCE performs what is posted. -/
theorem test_base_dec :
    after (execBase (.dec .rdx) { withRegs lab [(.rdx, 1)] with rflags := 3, ilen := 2 })
      (fun t => (t.reg .rdx, t.rflags, t.rip)) = some (0, 0x47, 0x403002) := by decide +kernel
theorem test_base_jnz :
    after (execBase (.jnz 0xF1) { lab with rip := 0x40300D, ilen := 2 }) (·.rip) = some 0x403000 ∧
    after (execBase (.jnz 0xF1) { lab with rip := 0x40300D, ilen := 2, rflags := 0x42 }) (·.rip) = some 0x40300F := by
  decide +kernel
theorem test_base_sfence :
    after (execBase .sfence ((raoLab [1] 0).post ⟨.add, [0x5000], 1⟩)) (fun t => (readByte t.mem 0x5000, t.rao)) =
      some (2, []) := by decide +kernel

/-- R61: a halted processor waits. -/
theorem test_halted_waits :
    after (step { lab with ctx := { lab.ctx with activity := .hlt } }) (fun t => (t.rip, t.ctx.activity)) =
      some (0x403000, .hlt) := by decide

/-- R175: opcode DAH in map 1 is the base architecture's under VEX.66 only (VPMINUB), else #UD; F6H in map 2 under VEX.F2. -/
theorem test_vex_base :
    decode mode64 (bytesOf [0xC5, 0xF8, 0xDA, 0xC0]) = .error .ud ∧ decode mode64 (bytesOf [0xC5, 0xF9, 0xDA, 0xC0]) = .error .outside ∧
    decode mode64 (bytesOf [0xC4, 0xE2, 0x7B, 0xF6, 0xC0]) = .error .outside ∧
    decode mode64 (bytesOf [0xC4, 0xE2, 0x78, 0xF6, 0xC0]) = .error .ud := by decide

/-- R722, R334, R236: what stands between two registers is free for throttle registers; IA32_HRESET_ENABLE accepts what leaf 20H
names; R500: a row of `Cfg.msrs` does not speak of an MSR with rules of its own. -/
theorem test_msr_rules :
    takenHigh 0x17D3 = false ∧ takenHigh 0x1902 = false ∧ takenHigh 0x1903 = true ∧ msrReserved profile 0x17DA = ~~~0 ∧
    msrDesc { profile with msrs := [⟨0x1B00, 1, 1, true⟩] } 0x1B00 = none ∧ tseCapability profile = profile.tseCapability := by
  decide

/-! ### Witnesses: for every obligation with hypotheses, a concrete state and operands that meet all of them -/

/-- A memory operand with every part, and the widest registers. -/
def fullOp : MemOp := ⟨some .gs, .a32, .reg .r13, some .r12, 3, 0x80000000⟩

theorem test_premises_RoundTripTileRegisters :
    (Instr.tilezero 15).wf = true ∧ (∀ f ∈ mulForms ++ transposedForms, (f.1 15 0 9).wf = true) ∧
    (∀ f ∈ transposeForms, (f.1 15 8).wf = true) ∧ (∀ f ∈ rowRegForms, (f.1 31 16 .r15).wf = true) ∧
    (∀ f ∈ rowImmForms, (f.1 31 16 0xFF).wf = true) := by decide

theorem test_premises_RoundTripMemory :
    fullOp.wf = true ∧ (Instr.movrsB (.low .rsp) fullOp).wf = true ∧ (Instr.movrsB .bh (at0 .rbp)).wf = true ∧
    (Instr.movrsV .o16 .r15 fullOp).wf = true ∧ (Instr.prefetchrst2 fullOp).wf = true ∧
    (∀ f ∈ vmovrsForms, (f.2.2 31 7 true fullOp).wf = true) ∧
    (∀ f ∈ sm4Forms, (f.2.2.2 15 0 (.mem fullOp)).wf = true) ∧ (Instr.tilestored fullOp 15).wf = true ∧
    (∀ f ∈ tileLoadForms, (f.1 15 fullOp).wf = true) ∧ (∀ f ∈ pairLoadForms, (f.1 15 fullOp).wf = true) := by decide

theorem test_premises_RoundTripSystem : (Instr.monitor (some .fs) .a32).wf = true := by decide

theorem test_premises_DecodeReadsOnlyItsBytes : decode mode64 (bytesOf [0x0F, 0xA2, 0xFF]) = .ok (.cpuid, 2) := by decide

/-- Code at RIP. -/
def coded (l : List Byte) : State := withBytes lab 0x403000 l

theorem test_premises_StepRunsDecoded :
    (coded [0x0F, 0xA2]).delivered = none ∧ (coded [0x0F, 0xA2]).raoStep.guestTimerDue = false ∧
    (coded [0x0F, 0xA2]).raoStep.userTimerDue = false ∧ (coded [0x0F, 0xA2]).ctx.activity = .active ∧
    decode (coded [0x0F, 0xA2]).decMode (fetchBytes (coded [0x0F, 0xA2]).raoStep 15 0).1 = .ok (.cpuid, 2) ∧
    lab.msrVal 0x38F = 0 ∧ lab.pebs.pending = 0 := by decide

/-- A page that is not present follows the fetched byte; fifteen prefixes. -/
def cutShort : State := withCfg { coded [] with rip := 0x403FFF, mem := [(0x403FFF, 0x66)] }
  { profile with pages := [⟨0x404, 0, false, false, false, false, false, false, false⟩] }

theorem test_premises_StepStops_incomplete :
    decode cutShort.decMode (fetchBytes cutShort.raoStep 15 0).1 = .error .more ∧
    (fetchBytes cutShort.raoStep 15 0).1.length < 15 ∧ cutShort.delivered = none ∧ cutShort.raoStep.guestTimerDue = false ∧
    cutShort.raoStep.userTimerDue = false ∧
    decode (coded (List.replicate 15 0x66)).decMode (fetchBytes (coded (List.replicate 15 0x66)).raoStep 15 0).1 =
      .error .more ∧
    (fetchBytes (coded (List.replicate 15 0x66)).raoStep 15 0).1.length = 15 := by decide

theorem test_premises_StepStops :
    (coded [0xF0, 0x0F, 0xA2]).delivered = none ∧ (coded [0xF0, 0x0F, 0xA2]).raoStep.guestTimerDue = false ∧
    (coded [0xF0, 0x0F, 0xA2]).raoStep.userTimerDue = false ∧ (coded [0xF0, 0x0F, 0xA2]).ctx.activity = .active ∧
    decode (coded [0xF0, 0x0F, 0xA2]).decMode (fetchBytes (coded [0xF0, 0x0F, 0xA2]).raoStep 15 0).1 = .error .ud ∧
    decode (coded [0x90]).decMode (fetchBytes (coded [0x90]).raoStep 15 0).1 = .error .outside ∧
    decodeBase (coded [0x90]).decMode (fetchBytes (coded [0x90]).raoStep 15 0).1 = .error .outside ∧
    decode (coded [0xFF, 0xCA]).decMode (fetchBytes (coded [0xFF, 0xCA]).raoStep 15 0).1 = .error .outside ∧
    decodeBase (coded [0xFF, 0xCA]).decMode (fetchBytes (coded [0xFF, 0xCA]).raoStep 15 0).1 = .ok (.dec .rdx, 2) ∧
    { lab.ctx with activity := .hlt }.activity ≠ .active ∧
    (lab.takeTrap udTrap).delivered = some (.exception 6 none 0x403000) := by decide

theorem test_premises_StepKeepsStores : ∃ t, (coded [0x0F, 0xA2]).storesWf = true ∧ step (coded [0x0F, 0xA2]) = .next t :=
  (next_of_after (f := fun t => t.rip) (v := 0x403002) (by decide)).imp fun _ h => ⟨by decide, h.1⟩

theorem test_premises_StepKeepsConfiguration : ∃ t, step (coded [0x0F, 0xA2]) = .next t :=
  (next_of_after (f := fun t => t.rip) (v := 0x403002) (by decide)).imp fun _ h => h.1

theorem test_premises_FlagsFrame : ∃ t, Instr.cpuid ≠ .pbndkb ∧ Instr.cpuid ≠ .pconfig ∧ exec .cpuid lab = .next t :=
  (next_of_after (f := fun t => t.rip) (v := 0x403000) (by decide)).imp fun _ h => ⟨by decide, by decide, h.1⟩

theorem test_premises_GeneralRegisterFrame :
    ∃ t, lab.ctx.tsx = false ∧ exec .cpuid lab = .next t ∧ Gpr.rsi ∉ gprDest .cpuid :=
  (next_of_after (f := fun t => t.rip) (v := 0x403000) (by decide)).imp fun _ h => ⟨by decide, h.1, by decide⟩

theorem test_premises_MemoryFrame :
    ∃ t, storesMemory (.movrsV .o32 .rax (at0 .rbx)) = false ∧ exec (.movrsV .o32 .rax (at0 .rbx)) movrsLab = .next t :=
  (next_of_after (f := fun t => t.rip) (v := 0x403000) (by decide)).imp fun _ h => ⟨by decide, h.1⟩

theorem test_premises_VectorAndTileFrame :
    ∃ t, exec (.movrsV .o32 .rax (at0 .rbx)) movrsLab = .next t ∧ zmmDest (.movrsV .o32 .rax (at0 .rbx)) ≠ some 0 ∧
      isAmx (.movrsV .o32 .rax (at0 .rbx)) = false :=
  (next_of_after (f := fun t => t.rip) (v := 0x403000) (by decide)).imp fun _ h => ⟨h.1, by decide, by decide⟩

theorem test_premises_SystemFrame :
    ∃ t, writesMsr .mwait = false ∧ exec .mwait lab = .next t ∧ Instr.mwait ≠ .pconfig :=
  (next_of_after (f := fun t => t.rip) (v := 0x403000) (by decide)).imp fun _ h => ⟨by decide, h.1, by decide⟩

theorem test_premises_ExceptionsArePrecise :
    ∃ t, lab.delivered = none ∧ exec .rdmsr (user lab) = .next t ∧
      t.delivered = some (.exception 13 (some 0) 0x403000) ∧ restartable .rdmsr = false :=
  (next_of_after (f := State.delivered) (v := some (.exception 13 (some 0) 0x403000)) (by decide)).imp
    fun _ h => ⟨by decide, h.1, h.2, by decide⟩

/-- A tile load and a tile store stop at row 1, whose page is not present. -/
def halfMapped : State :=
  withCfg (withRegs { tiles01 [1, 2] with delivered := none } [(.rbx, 0x5000), (.rcx, 0x1000)])
    { profile with pages := [⟨6, 6, false, false, false, false, false, false, false⟩] }

theorem test_premises_ExceptionsArePrecise_restart :
    (after (exec (.tileloadd 1 sib) halfMapped) (fun t => (t.delivered, t.sys.cr2, t.amx.startRow)) =
      some (some (.exception 14 (some 0) 0x403000), 0x6000, 1)) ∧
    (after (exec (.tilestored sib 1) halfMapped) (fun t => (t.delivered, t.sys.cr2, t.amx.startRow)) =
      some (some (.exception 14 (some 2) 0x403000), 0x6000, 1)) ∧
    accessBytes halfMapped (segOf sib) (halfMapped.rowAddr sib 0) (halfMapped.tileColsb 1) .write false =
      .ok (List.range' 0x5000 12) := by decide +kernel

/-- Compatibility mode. -/
def compat : State := { lab with sys := { lab.sys with csL := false, csD := true } }

/-- A configuration without any feature, and one that enumerates AMX-TILE alone. -/
def bareCfg : Cfg := { profile with cpuid := [] }
def tileOnlyCfg : Cfg := { profile with cpuid := [cpuRow 0 7 0 0 0, cpuSub 7 0 0 0 0 (bitsOf [24])] }

theorem test_premises_FeatureTraps :
    hasRaoInt bareCfg = false ∧ hasPbndkb bareCfg = false ∧ hasPconfig bareCfg = false ∧ hasMsr bareCfg = false ∧
    hasWrmsrns bareCfg = false ∧ hasMsrImm bareCfg = false ∧ hasApx profile = false ∧
    monitorFlag (withCfg lab bareCfg) = false ∧ mwaitFlag (withCfg lab bareCfg) = false ∧
    (let g := { lab with ctx := { lab.ctx with vmx := .nonRoot } }; g.nonRoot = true ∧ g.tertiary 9 = false) ∧
    monitorEnabled (lab.setMsr 0x1A0 0) = false ∧ isAmx (.tilezero 0) = true ∧ hasAmxTile bareCfg = false ∧
    hasAmxTile tileOnlyCfg = true ∧ bitAt State.reset.sys.cr4 18 = false ∧ State.reset.sys.xcr0 &&& 0x60000 ≠ 0x60000 ∧
    (∀ f ∈ mulForms ++ transposedForms, f.2.1 tileOnlyCfg = false) ∧ (∀ f ∈ transposeForms, f.2.1 tileOnlyCfg = false) ∧
    (∃ f ∈ tileLoadForms, f.2 tileOnlyCfg = false) ∧ (∀ f ∈ pairLoadForms, f.2.1 tileOnlyCfg = false) ∧
    hasAmxAvx512 tileOnlyCfg = false ∧ hasAvx102 tileOnlyCfg = false := by decide

theorem test_premises_OutsideLongMode : longModeOnly (.tilezero 0) = true ∧ compat.is64 = false := by decide

/-- A configuration that enumerates APX_F as well. -/
def apxCfg : Cfg :=
  { profile with cpuid := cpuSub 7 1 (bitsOf [19]) 0 (bitsOf [5]) (bitsOf [21]) :: profile.cpuid }

theorem test_premises_PrivilegeTraps :
    (user (withCfg lab apxCfg)).cpl ≠ 0 ∧ hasMsr apxCfg = true ∧ hasWrmsrns apxCfg = true ∧
    (user (withCfg lab apxCfg)).is64 = true ∧ hasMsrImm apxCfg = true ∧ hasApx apxCfg = true := by decide

/-- In a transaction. -/
def inTsx : State := { withRegs lab [(.rax, 0x5000)] with ctx := { lab.ctx with tsx := true } }

theorem test_premises_TransactionsAndAlignment :
    (∃ t, isAmx .tilerelease = true ∧ inTsx.ctx.tsx = true ∧ exec .tilerelease inTsx = .next t) ∧
    hasRaoInt inTsx.cfg = true ∧ raoCheck inTsx (at0 .rax) 4 = .ok [0x5000, 0x5001, 0x5002, 0x5003] ∧
    ∃ t, lab.delivered = none ∧ exec .tilerelease lab = .next t :=
  ⟨(next_of_after (f := fun t => t.rip) (v := 0x403000) (by decide)).imp fun _ h => ⟨by decide, by decide, h.1⟩,
    by decide, by decide, (next_of_after (f := fun t => t.rip) (v := 0x403000) (by decide)).imp fun _ h => ⟨by decide, h.1⟩⟩

theorem test_premises_TileDataDisabled :
    ∃ t, touchesTileData (.tilezero 0) = true ∧ (lab.setMsr 0x1C4 0x40000).ctx.tsx = false ∧
      bitAt ((lab.setMsr 0x1C4 0x40000).msrVal 0x1C4) 18 = true ∧
      exec (.tilezero 0) (lab.setMsr 0x1C4 0x40000) = .next t ∧ t.delivered = some (.exception 7 none 0x403000) :=
  (next_of_after (f := State.delivered) (v := some (.exception 7 none 0x403000)) (by decide)).imp
    fun _ h => ⟨by decide, by decide, by decide, h.1, h.2⟩

/-- RAX addresses the last aligned doubleword of a page. -/
def raoEdge : State := withRegs lab [(.rax, 0x5FFC)]

theorem test_premises_RaoPosts :
    hasRaoInt raoEdge.cfg = true ∧ raoEdge.ctx.tsx = false ∧
    checkLinear raoEdge (segOf (at0 .rax)) (raoEdge.ea (at0 .rax)) (raoWidth .o32) true = .ok 0x5FFC ∧
    (0x5FFC : W64).toNat % raoWidth .o32 = 0 ∧
    translateBytes raoEdge .write false (raoWidth .o32) 0x5FFC = .ok [0x5FFC, 0x5FFD, 0x5FFE, 0x5FFF] ∧
    (∀ a ∈ [0x5FFC, 0x5FFD, 0x5FFE, 0x5FFF], memType raoEdge.cfg a = .wb) := by decide

/-- Page 5 is uncacheable. -/
def ucEdge : State := withCfg raoEdge { profile with memTypes := [(5, .uc)] }

theorem test_premises_RaoTraps :
    hasRaoInt raoEdge.cfg = true ∧ raoEdge.ctx.tsx = false ∧
    checkLinear raoEdge (segOf (at0 .rax)) (raoEdge.ea (at0 .rax)) (raoWidth .o64) true = .ok 0x5FFC ∧
    translateBytes raoEdge .write false (raoWidth .o64) 0x5FFC = .ok (List.range' 0x5FFC 8) ∧
    (0x5FFC : W64).toNat % raoWidth .o64 ≠ 0 ∧
    hasRaoInt ucEdge.cfg = true ∧ ucEdge.ctx.tsx = false ∧
    checkLinear ucEdge (segOf (at0 .rax)) (ucEdge.ea (at0 .rax)) (raoWidth .o32) true = .ok 0x5FFC ∧
    (0x5FFC : W64).toNat % raoWidth .o32 = 0 ∧
    translateBytes ucEdge .write false (raoWidth .o32) 0x5FFC = .ok [0x5FFC, 0x5FFD, 0x5FFE, 0x5FFF] ∧
    (∃ a ∈ [0x5FFC, 0x5FFD, 0x5FFE, 0x5FFF], memType ucEdge.cfg a ≠ .wb) := by decide

/-- In a transaction, or with page 5 not present: the last clause of TransactionsAndAlignment. -/
def tsxOn (s : State) : State := { s with ctx := { s.ctx with tsx := true } }
def noPage : State := withCfg raoEdge { profile with pages := [⟨5, 0, false, false, false, false, false, false, false⟩] }

theorem test_premises_TransactionsAndAlignment_rao :
    (tsxOn raoEdge).ctx.tsx = true ∧ hasRaoInt (tsxOn raoEdge).cfg = true ∧
    checkLinear (tsxOn raoEdge) (segOf (at0 .rax)) ((tsxOn raoEdge).ea (at0 .rax)) (raoWidth .o64) true = .ok 0x5FFC ∧
    (0x5FFC : W64).toNat % raoWidth .o64 ≠ 0 ∧ hasRaoInt noPage.cfg = true ∧
    checkLinear noPage (segOf (at0 .rax)) (noPage.ea (at0 .rax)) (raoWidth .o64) true = .ok 0x5FFC ∧
    translateBytes noPage .write false (raoWidth .o64) 0x5FFC = .error (.page 0x5FFC 2) ∧
    hasRaoInt (tsxOn ucEdge).cfg = true ∧
    checkLinear (tsxOn ucEdge) (segOf (at0 .rax)) ((tsxOn ucEdge).ea (at0 .rax)) (raoWidth .o32) true = .ok 0x5FFC ∧
    (0x5FFC : W64).toNat % raoWidth .o32 = 0 ∧ (tsxOn ucEdge).ctx.tsx = true ∧
    translateBytes (tsxOn ucEdge) .write false (raoWidth .o32) 0x5FFC = .ok [0x5FFC, 0x5FFD, 0x5FFE, 0x5FFF] ∧
    (∃ a ∈ [0x5FFC, 0x5FFD, 0x5FFE, 0x5FFF], memType (tsxOn ucEdge).cfg a ≠ .wb) := by decide

/-- An RAO destination whose page is not present, aligned, and one that is not canonical, in and out of a transaction. -/
theorem test_premises_TransactionsAndAlignment_fails :
    translateBytes noPage .write false (raoWidth .o32) 0x5FFC = .error (.page 0x5FFC 2) ∧
    checkLinear noPage (segOf (at0 .rax)) (noPage.ea (at0 .rax)) (raoWidth .o32) true = .ok 0x5FFC ∧
    raoCheck noPage (at0 .rax) (raoWidth .o32) = .error (.page 0x5FFC 2) ∧
    (∀ s ∈ [raoEdge.setReg .rax 0x800000000000, tsxOn (raoEdge.setReg .rax 0x800000000000)], hasRaoInt s.cfg = true ∧
      checkLinear s (segOf (at0 .rax)) (s.ea (at0 .rax)) (raoWidth .o32) true = .error (gpTrap s)) := by decide

theorem test_premises_PostedUpdates : (RaoEntry.mk .add [0x5000, 0x5001, 0x5002, 0x5003] 1).bytes.Nodup := by decide

theorem test_premises_MovrsLoads :
    movrsLab.is64 = true ∧ hasMovrs movrsLab.cfg = true ∧
    accessBytes movrsLab (segOf (at0 .rbx)) (movrsLab.ea (at0 .rbx)) 1 .read true = .ok [0x5000] ∧
    accessBytes movrsLab (segOf (at0 .rbx)) (movrsLab.ea (at0 .rbx)) (opWidth .o16) .read true = .ok [0x5000, 0x5001] ∧
    accessBytes movrsLab (segOf (at0 .rbx)) (movrsLab.ea (at0 .rbx)) (opWidth .o32) .read true =
      .ok [0x5000, 0x5001, 0x5002, 0x5003] := by decide

/-- RBX holds the first address that is not canonical. -/
def wild : State := withRegs lab [(.rbx, 0x0000800000000000)]

/-- Alignment checking at privilege level 3, RBX misaligned. -/
def askew : State :=
  user { withRegs lab [(.rbx, 0x5001)] with rflags := 0x40002, sys := { lab.sys with cr0 := 0x80040011 } }

/-- Page 5 is not present. -/
def unmapped : State :=
  withCfg (withRegs lab [(.rbx, 0x5000)])
    { profile with pages := [⟨5, 5, false, false, false, false, false, false, false⟩] }

/-- RBX holds the last canonical address: a wider operand runs out of the canonical space. -/
def edge : State := withRegs lab [(.rbx, 0x00007FFFFFFFFFFF)]

/-- At a non-canonical address, the mask k1 selecting element 0 alone. -/
def vmovrsWild : State := { wild with vec := { wild.vec with k := wild.vec.k.set 1 1 } }

theorem test_premises_MovrsTraps :
    (withCfg lab { profile with cpuid := [] }).is64 = true ∧ hasMovrs { profile with cpuid := [] } = false ∧
    wild.is64 = true ∧ hasMovrs wild.cfg = true ∧ canonical wild.cfg (wild.linear (segOf (at0 .rbx)) (wild.ea (at0 .rbx))) = false ∧
    canonical edge.cfg (edge.linear (segOf (at0 .rbx)) (edge.ea (at0 .rbx))) = true ∧
    canonical edge.cfg (edge.linear (segOf (at0 .rbx)) (edge.ea (at0 .rbx)) + BitVec.ofNat 64 (opWidth .o16 - 1)) = false ∧
    askew.is64 = true ∧ canonical askew.cfg (askew.linear (segOf (at0 .rbx)) (askew.ea (at0 .rbx))) = true ∧
    askew.acEnabled = true ∧ (askew.linear (segOf (at0 .rbx)) (askew.ea (at0 .rbx))).toNat % opWidth .o32 ≠ 0 ∧
    unmapped.is64 = true ∧ unmapped.acEnabled = false ∧
    translateBytes unmapped .read false (opWidth .o32) (unmapped.linear (segOf (at0 .rbx)) (unmapped.ea (at0 .rbx))) =
      .error (.page 0x5000 0) := by decide

theorem test_premises_MovrsTraps_vector :
    vmovrsOk vmovrsWild 128 = true ∧ bitAt vmovrsWild.sys.cr0 3 = false ∧ vmovrsWild.maskBit 1 0 = true ∧
    vmovrsWild.maskBit 1 1 = false ∧
    canonical vmovrsWild.cfg (vmovrsWild.linear (segOf (at0 .rbx)) (vmovrsWild.ea (at0 .rbx))) = false ∧
    vmovrsOk askew 512 = true ∧ (askew.linear (segOf (at0 .rbx)) (askew.ea (at0 .rbx))).toNat % 64 ≠ 0 ∧
    vmovrsOk unmapped 256 = true ∧ unmapped.maskBit 0 0 = true ∧
    translateBytes unmapped .read false 4 (unmapped.linear (segOf (at0 .rbx)) (unmapped.ea (at0 .rbx))) =
      .error (.page 0x5000 0) ∧
    vmovrsOk { lab with sys := { lab.sys with cr0 := lab.sys.cr0 ||| 8 } } 128 = true := by decide

theorem test_premises_PageFaults :
    translateBytes unmapped .write false 4 0x4FFE = .error (.page 0x5000 2) := by decide

theorem test_premises_VmovrsLoads :
    vmovrsOk vmovrsLab 128 = true ∧ bitAt vmovrsLab.sys.cr0 3 = false ∧ vmovrsLab.acEnabled = false ∧
    (∀ j < 4, vmovrsLab.maskBit 1 j = true →
      checkLinear vmovrsLab (segOf (at0 .rbx)) (vmovrsLab.ea (at0 .rbx) + BitVec.ofNat 64 (j * (32 / 8))) (32 / 8) false =
        .ok (BitVec.ofNat 64 (0x5000 + j * 4)) ∧
      translateBytes vmovrsLab .read false (32 / 8)
        (vmovrsLab.linear (segOf (at0 .rbx)) (vmovrsLab.ea (at0 .rbx)) + BitVec.ofNat 64 (j * (32 / 8))) =
        .ok (List.range' (0x5000 + j * 4) 4)) ∧ vmovrsLab.maskBit 1 0 = true ∧ vmovrsLab.maskBit 1 1 = false := by decide

theorem test_premises_CpuidAnswers :
    maxBasic lab < 0x40000000 ∧
    ¬ (0x80000000 ≤ 0x40000000 ∧ 0x40000000 ≤ (cpuidCfg lab.cfg 0x80000000 0).eax.toNat) ∧
    maxBasic lab < 0x80000009 ∧ ¬ (0x80000000 ≤ 0x80000009 ∧ 0x80000009 ≤ (cpuidCfg lab.cfg 0x80000000 0).eax.toNat) ∧
    1 ≤ maxBasic lab ∧ 7 ≤ maxBasic lab ∧ (cpuidAnswer lab 7 0).eax.toNat < 3 ∧
    bitAt (cpuidLeaf lab 7 1).edx 13 = true ∧ monitorFlag lab = true ∧ mwaitFlag lab = true ∧
    bitAt (cpuidLeaf lab 7 0).ebx 15 = true ∧ bitAt (cpuidLeaf lab 7 0).edx 18 = true ∧
    bitAt (cpuidLeaf lab 7 1).eax 8 = true ∧ bitAt (cpuidLeaf lab 7 1).edx 19 = true ∧
    (let s := withCfg lab (leavesCfg 0x20)
     bitAt (cpuidLeaf s 7 0).ebx 2 = true ∧ bitAt (cpuidLeaf s 7 0).edx 15 = true ∧ bitAt (cpuidLeaf s 7 1).eax 22 = true) := by
  decide

/-- A bind structure of zeros at 7000H, the output at 8000H. -/
def bindLab : State := withRegs lab [(.rbx, 0x7000), (.rcx, 0x8000)]

theorem test_premises_PbndkbBinds :
    hasPbndkb bindLab.cfg = true ∧ bindLab.cpl = 0 ∧ bindLab.is64 = true ∧ bindLab.nonRoot = false ∧
    (bindLab.reg .rbx).toNat % 256 = 0 ∧ (bindLab.reg .rcx).toNat % 256 = 0 ∧ bindLab.reg .rbx ≠ bindLab.reg .rcx ∧
    accessBytes bindLab .ds (bindLab.reg .rbx) 256 .read false = .ok (List.range' 0x7000 256) ∧
    canonical bindLab.cfg (bindLab.reg .rbx) = true ∧
    accessBytes bindLab .ds (bindLab.reg .rcx) 256 .write false = .ok (List.range' 0x8000 256) ∧
    canonical bindLab.cfg (bindLab.reg .rcx) = true ∧ bindOk (readBytes bindLab.seen (List.range' 0x7000 256)) = true := by
  decide +kernel

theorem test_premises_PbndkbBinds_distinct : (List.range' 0x8000 256).Nodup := List.nodup_range'

/-- P5: KEYID 3, command 0, algorithm 1, at 7000H. -/
def tseLab : State := withBytes (withRegs lab [(.rax, 1), (.rbx, 0x7000)]) 0x7000 [3, 0, 0, 1, 0]

/-- The bind structure of zeros at 7000H for KEYID 3, algorithm 1. -/
def wrappedLab : State := withRegs lab [(.rax, 2), (.rbx, 0x1000003), (.rcx, 0x7000)]

theorem test_premises_PconfigPrograms :
    hasPconfig tseLab.cfg = true ∧ tseLab.cpl = 0 ∧ tseLab.is64 = true ∧ pconfigTarget tseLab.cfg 2 = true ∧
    tseLab.reg32 .rax = 1 ∧ (tseLab.reg .rbx).toNat % 256 = 0 ∧
    accessBytes tseLab .ds (tseLab.reg .rbx) 192 .read false = .ok (List.range' 0x7000 192) ∧
    tseOk tseLab (readBytes tseLab.seen (List.range' 0x7000 192)) = true ∧
    wrappedLab.is64 = true ∧ wrappedLab.cpl = 0 ∧ wrappedLab.reg32 .rax = 2 ∧ wrappedArgsOk wrappedLab = true ∧
    accessBytes wrappedLab .ds (wrappedLab.reg .rcx) 256 .read false = .ok (List.range' 0x7000 256) ∧
    bindOk (readBytes wrappedLab.seen (List.range' 0x7000 256)) = true := by decide +kernel

/-- TME active with four KeyID bits and algorithm 0; KEYID 15, the last one, command 0, algorithm 1. -/
def tmeLab : State :=
  (withBytes (withRegs lab [(.rbx, 0x7000)]) 0x7000 [15, 0, 0, 1, 0]).setMsr 0x982 0x0001000400000003

theorem test_premises_PconfigPrograms_mktme :
    hasPconfig tmeLab.cfg = true ∧ tmeLab.cpl = 0 ∧ tmeLab.mode ≠ .v86 ∧ tmeLab.reg32 .rax = 0 ∧
    pconfigTarget tmeLab.cfg 1 = true ∧ tmeReady tmeLab = true ∧
    (tmeLab.linear .ds (tmeLab.pconfigOff .rbx)).toNat % 256 = 0 ∧
    accessBytes tmeLab .ds (tmeLab.pconfigOff .rbx) 192 .read false = .ok (List.range' 0x7000 192) ∧
    mktmeOk tmeLab (readBytes tmeLab.seen (List.range' 0x7000 192)) = true ∧
    2 < ((withRegs lab [(.rax, 3)]).reg32 .rax).toNat := by decide +kernel

theorem test_premises_RdmsrReads :
    hasMsr (withCfg lab apxCfg).cfg = true ∧ implicitOk lab = true ∧ lab.msrExits (lab.reg32 .rcx).toNat false = false ∧
    msrExists (withRegs lab [(.rcx, 0x10)]) 0x10 = true ∧ msrExists lab (lab.reg32 .rcx).toNat = false ∧
    (withCfg lab apxCfg).is64 = true ∧ hasMsrImm apxCfg = true ∧ (withCfg lab apxCfg).cpl = 0 ∧
    (withCfg lab apxCfg).msrExits 0x10 false = false ∧ msrExists (withCfg lab apxCfg) 0x10 = true ∧ hasApx apxCfg = true ∧
    (withCfg lab apxCfg).msrExits 0x17 false = false ∧ msrExists (withCfg lab apxCfg) 0x17 = false := by
  decide

theorem test_premises_WrmsrnsWrites :
    hasWrmsrns msrLab.cfg = true ∧ implicitOk msrLab = true ∧ msrLab.msrExits (msrLab.reg32 .rcx).toNat true = false ∧
    msrWriteOk msrLab (msrLab.reg32 .rcx).toNat msrLab.edxEax = true ∧
    msrWriteOk (msrLab.setReg .rax 0x800) 0x1C (msrLab.setReg .rax 0x800).edxEax = false ∧
    (withCfg msrLab apxCfg).is64 = true ∧ hasMsrImm apxCfg = true ∧ (withCfg msrLab apxCfg).cpl = 0 ∧
    (withCfg msrLab apxCfg).msrExits 0xC0000082 true = false ∧
    msrWriteOk (withCfg msrLab apxCfg) 0xC0000082 ((withCfg msrLab apxCfg).reg .rax) = true ∧ hasApx apxCfg = true ∧
    (withCfg msrLab apxCfg).msrExits 0x17 true = false ∧
    msrWriteOk (withCfg msrLab apxCfg) 0x17 ((withCfg msrLab apxCfg).reg .rax) = false := by decide

/-- Throttle level 8 of class 1 is above the profile's largest level, 7: the vector of R723. -/
theorem test_premises_WrmsrnsWrites_ordinary :
    ordinaryMsr (msrHome 0x1C) ∧ ordinaryMsr (msrHome 0xC1) ∧ msrHome 0xC1 ≠ msrHome 0x1C ∧ msrDesc lab.cfg (msrHome 0x1C) = none ∧
    cbaMsr lab.cfg 0xE00 = true ∧ msrWriteOk lab 0xE00 0x707 = true ∧
    msrWriteOk lab 0xE00 0x807 = false := by
  unfold ordinaryMsr; decide

theorem test_premises_UserMsrAccess :
    userMsrOk userLab = true ∧ 0x1B00 < 0x4000 ∧ bitmapBit userLab false 0x1B00 true ∧ msrExists userLab 0x1B00 = true ∧
    userLab.userMsrExits 0x1B00 false = false ∧ userLab.reg .rcx = BitVec.ofNat 64 0x1B00 :=
  ⟨by decide, by decide, ⟨[0x200360], by decide, by decide⟩, by decide, by decide, by decide⟩

theorem test_premises_UserMsrAccess_write :
    userMsrOk userLab = true ∧ bitmapBit userLab true 0x1B00 true ∧ msrWriteOk userLab 0x1B00 (userLab.reg .rax) = true ∧
    userLab.userMsrExits 0x1B00 true = false ∧ userLab.reg .rcx = BitVec.ofNat 64 0x1B00 :=
  ⟨by decide, ⟨[0x200B60], by decide, by decide⟩, by decide, by decide, by decide⟩

theorem test_premises_UserMsrTraps :
    userMsrOk lab = false ∧ userMsrOk (userLab.setReg .rcx 0x4000) = true ∧
    0x4000 ≤ ((userLab.setReg .rcx 0x4000).reg .rcx).toNat ∧
    ((userLab.setReg .rcx 0x3FFF).reg .rcx).toNat < 0x4000 ∧ userMsrOk (userLab.setReg .rcx 0x3FFF) = true ∧
    bitmapBit (userLab.setReg .rcx 0x3FFF) false 0x3FFF false ∧ bitmapBit (userLab.setReg .rcx 0x3FFF) true 0x3FFF false ∧
    bitmapBit (withBytes userLab 0x200802 [1]) true 0x10 true :=
  ⟨by decide, by decide, by decide, by decide, by decide, ⟨[0x2007FF], by decide, by decide⟩,
    ⟨[0x200FFF], by decide, by decide⟩, ⟨[0x200802], by decide, by decide⟩⟩

/-- The page of the bitmap is not present. -/
def noMap : State := withCfg userLab { profile with pages := [⟨0x200, 0, false, false, false, false, false, false, false⟩] }

/-- MSR 17H does not exist; IA32_UARCH_MISC_CTL accepts only its bit 0. -/
theorem test_premises_UserMsrTraps_msr :
    userMsrOk noMap = true ∧
    (∃ e, translateBytes noMap .read true 1 ((noMap.msrVal 0x1C &&& 0xFFFFFFFFFFFFF000) + BitVec.ofNat 64 (0 + 0x1B00 / 8)) = .error e) ∧
    bitmapBit (withBytes userLab 0x200002 [0x80]) false 0x17 true ∧ msrExists (withBytes userLab 0x200002 [0x80]) 0x17 = false ∧
    bitmapBit (withBytes userLab 0x200B60 [2]) true 0x1B01 true ∧
    msrWriteOk (withBytes userLab 0x200B60 [2]) 0x1B01 2 = false :=
  ⟨by decide, ⟨_, rfl⟩, ⟨[0x200002], by decide, by decide⟩, by decide, ⟨[0x200B60], by decide, by decide⟩, by decide⟩

/-- A guest without MSR bitmaps, both bits of the user bitmap set; in an enclave or not. -/
def exitLab (e : EnclaveMode) : State :=
  { userLab with ctx := { userLab.ctx with vmx := .nonRoot, enclave := e }, vmcs := { userLab.vmcs with useMsrBitmaps := false } }

theorem test_premises_MsrExits :
    userMsrOk (exitLab .none) = true ∧ (exitLab .none).nonRoot = true ∧ bitmapBit (exitLab .none) false 0x1B00 true ∧
    bitmapBit (exitLab .none) true 0x1B00 true ∧ msrExists (exitLab .none) 0x1B00 = true ∧
    (exitLab .none).reg .rcx = BitVec.ofNat 64 0x1B00 ∧ (exitLab .none).vmcs.useMsrBitmaps = false ∧
    msrWriteOk (exitLab .none) 0x1B00 ((exitLab .none).reg .rax) = true ∧ (exitLab .none).ctx.enclave = .none ∧
    (exitLab .production).ctx.enclave ≠ .none ∧ userMsrOk (exitLab .production) = true ∧
    bitmapBit (exitLab .production) false 0x1B00 true :=
  ⟨by decide, by decide, ⟨[0x200360], by decide, by decide⟩, ⟨[0x200B60], by decide, by decide⟩, by decide, by decide,
    by decide, by decide, by decide, by decide, by decide, ⟨[0x200360], by decide, by decide⟩⟩

theorem test_premises_MsrExits_kernel :
    { exitLab .none with sys := lab.sys }.cpl = 0 ∧ { exitLab .none with sys := lab.sys }.mode ≠ .v86 ∧
    ({ exitLab .none with sys := lab.sys }.reg32 .rcx).toNat = 0x1B00 ∧ hasMsr lab.cfg = true ∧ hasWrmsrns lab.cfg = true ∧
    hasMsrImm lab.cfg = true ∧ { exitLab .none with sys := lab.sys }.is64 = true := by decide

/-- With bitmaps: the bit of MSR 10H for reads and that of C0000082H for writes. -/
def bitmapLab : State :=
  { withBytes (withBytes (withCfg lab apxCfg) 0x300002 [1]) 0x300C10 [4] with
    ctx := { lab.ctx with vmx := .nonRoot }, vmcs := { lab.vmcs with useMsrBitmaps := true, msrBitmap := 0x300000 } }

theorem test_premises_MsrExits_bitmap :
    exitsByBitmap bitmapLab 0x10 0 1024 ∧ exitsByBitmap bitmapLab 0xC0000082 2048 3072 ∧ hasApx bitmapLab.cfg = true ∧
    bitmapLab.nonRoot = true ∧ bitmapLab.cpl = 0 ∧ bitmapLab.mode ≠ .v86 ∧ bitmapLab.is64 = true ∧
    hasMsrImm bitmapLab.cfg = true ∧ ¬ exitsByBitmap bitmapLab 0x11 0 1024 := by
  unfold exitsByBitmap; decide

theorem test_premises_UserTimerMsr :
    hasUtmr lab.cfg = true ∧ lab.nonRoot = false ∧
    hasUtmr { profile with cpuid := [] } = false := by decide

theorem test_premises_MwaitAndMonitor :
    mwaitOk lab = true ∧ mwaitArgsOk lab = true ∧ bitAt lab.mwaitExt 2 = false ∧
    mwaitArgsOk (withRegs lab [(.rcx, 4)]) = true ∧ mwaitArgsOk (withRegs lab [(.rcx, 2)]) = false ∧
    lab.mode ≠ .v86 ∧ monitorEnabled lab = true ∧ monitorFlag lab = true ∧ lab.cpl = 0 ∧
    accessBytes lab .ds (truncAddr .a64 (lab.reg .rax)) 1 .read false = .ok [0] ∧ memType lab.cfg 0 = .wb ∧
    after (exec (.monitor none .a64) lab) (fun t => t.monitor.armed && decide (0 < t.monitor.size)) = some true ∧
    fieldOf (cpuidLeaf lab 5 0).eax 15 0 ≤ fieldOf (cpuidLeaf lab 5 0).ebx 15 0 := by decide

theorem test_premises_Sm4Rounds :
    sm4VexOk sm4Lab = true ∧ sm4EvexOk sm4Lab 512 = true ∧ bitAt sm4Lab.sys.cr0 3 = false ∧
    sm4EvexOk { lab with sys := { lab.sys with cr0 := lab.sys.cr0 ||| 8 } } 256 = true ∧
    bitAt (lab.sys.cr0 ||| 8) 3 = true ∧ State.reset.sys.xcr0 &&& 6 ≠ 6 ∧
    sourceIs sm4Lab 128 (.reg 0) 0xC42410CC99A12B0FDF01FEBFA292FFA1 ∧
    sourceIs sm4Lab 128 (.mem (at0 .rsi)) (ofBytes (readBytes sm4Lab.seen (List.range' 0x6000 16))) :=
  ⟨by decide +kernel, by decide +kernel, by decide +kernel, by decide +kernel, by decide +kernel, by decide +kernel,
    (show 0xC42410CC99A12B0FDF01FEBFA292FFA1 = sm4Lab.zmm 0 by decide +kernel), ⟨List.range' 0x6000 16, by decide +kernel, rfl⟩⟩

/-- Four consecutive state words of the standard's recurrence, from word `i` on. -/
def sm4Window (mk x : Nat → W32) : Nat → W32 × W32 × W32 × W32
  | 0 => (x 0, x 1, x 2, x 3)
  | i + 1 =>
    let (a, b, c, d) := sm4Window mk x i
    (b, c, d, sm4F lRnd a b c d (sm4RoundKey mk i))

theorem test_premises_Sm4Rounds_cipher :
    let y := fun i => (sm4Window sm4Words sm4Words i).1
    (∀ i, i < 4 → y i = sm4Words i) ∧
    ∀ i, y (i + 4) = sm4F lRnd (y i) (y (i + 1)) (y (i + 2)) (y (i + 3)) (sm4RoundKey sm4Words i) :=
  ⟨by decide, fun _ => rfl⟩

theorem test_premises_TileConfigLoads :
    amxReady (fun _ => true) cfgLab ∧
    accessBytes cfgLab (segOf (at0 .rax)) (cfgLab.ea (at0 .rax)) 64 .read false = .ok (List.range' 0x4000 64) ∧
    cfgOk cfgLab (readBytes cfgLab.seen (List.range' 0x4000 64)) = true ∧
    cfgOk cfgLab (readBytes (withBytes cfgLab 0x4002 [1]).seen (List.range' 0x4000 64)) = false :=
  ⟨⟨by decide, by decide, by decide⟩, by decide, by decide, by decide⟩

theorem test_premises_TileConfigStores :
    amxReady (fun _ => true) (tiles01 []) ∧
    accessBytes (tiles01 []) (segOf (at0 .rbx)) ((tiles01 []).ea (at0 .rbx)) 64 .write false = .ok (List.range' 0x5000 64) ∧
    (List.range' 0x5000 64).Nodup ∧ (tiles01 []).amx.palette = 1 ∧ maxPalette (tiles01 []).cfg = 1 ∧
    xcr0SupportsPalette (tiles01 []) 1 = true ∧
    (∀ q : Tmm, q.val < 16 →
      if q.val < maxNames (tiles01 []).cfg 1 then
        (tiles01 []).tileRows q ≤ maxRows (tiles01 []).cfg 1 ∧ (tiles01 []).tileColsb q ≤ bytesPerRow (tiles01 []).cfg 1 ∧
          ((tiles01 []).tileRows q = 0 ↔ (tiles01 []).tileColsb q = 0)
      else (tiles01 []).tileRows q = 0 ∧ (tiles01 []).tileColsb q = 0) :=
  ⟨⟨by decide, by decide, by decide⟩, by decide, List.nodup_range', by decide, by decide, by decide, by decide⟩

theorem test_premises_TileReleaseAndZero :
    amxReady (fun _ => true) (tiles01 []) ∧ tileDataOn (tiles01 []) ∧ (tiles01 []).tilesConfigured = true ∧
    (tiles01 []).tileValid 1 = true := ⟨⟨by decide, by decide, by decide⟩, by decide, by decide, by decide⟩

/-- The physical bytes of row `i` of a tile at 5000H with a row distance of 16. -/
def rowsAt (n i : Nat) : List Nat := List.range' (0x5000 + 16 * i) n

theorem test_premises_TileLoads :
    (∀ f ∈ tileLoadForms, amxReady f.2 (tiles01 [])) ∧ tileDataOn (tiles01 []) ∧ tileMemOk (tiles01 []) 1 = true ∧
    (∀ i, (tiles01 []).amx.startRow.toNat ≤ i → i < (tiles01 []).tileRows 1 →
      accessBytes (tiles01 []) (segOf sib) ((tiles01 []).rowAddr sib i) ((tiles01 []).tileColsb 1) .read false =
        .ok (rowsAt 12 i)) :=
  ⟨by decide, by decide, by decide, fun i _ h =>
    match i, (h : i < 2) with
    | 0, _ => by decide
    | 1, _ => by decide⟩

theorem test_premises_TileStores :
    amxReady (fun _ => true) (tiles01 []) ∧ tileDataOn (tiles01 []) ∧ tileMemOk (tiles01 []) 1 = true ∧
    (∀ i, (tiles01 []).amx.startRow.toNat ≤ i → i < (tiles01 []).tileRows 1 →
      accessBytes (tiles01 []) (segOf sib) ((tiles01 []).rowAddr sib i) ((tiles01 []).tileColsb 1) .write false =
        .ok (rowsAt 12 i)) :=
  ⟨⟨by decide, by decide, by decide⟩, by decide, by decide, fun i _ h =>
    match i, (h : i < 2) with
    | 0, _ => by decide
    | 1, _ => by decide⟩

theorem test_premises_PairLoads :
    (∀ f ∈ pairLoadForms, amxReady f.2.1 (pairTiles true)) ∧ tileDataOn (pairTiles true) ∧ pairOk (pairTiles true) 1 = true ∧
    pairOk (pairTiles false) 0 = true ∧
    (∀ i, (pairTiles true).amx.startRow.toNat ≤ i → i < 2 * (pairTiles true).tileRows (pairBase 1) - 0 →
      accessBytes (pairTiles true) (segOf sib) ((pairTiles true).rowAddr sib i)
        (((pairTiles true).tileColsb (pairBase 1) + (pairTiles true).tileColsb (pairNext 1)) / 2) .read false =
        .ok (rowsAt 36 i)) :=
  ⟨by decide, by decide, by decide, by decide, fun i _ h =>
    match i, (h : i < 2) with
    | 0, _ => by decide
    | 1, _ => by decide⟩

theorem test_premises_TileMultiplies :
    (∀ f ∈ mulForms, amxReady f.2.1 (unitTiles 0 0 0)) ∧ tileDataOn (unitTiles 0 0 0) ∧ tmulOk (unitTiles 0 0 0) 0 1 2 = true :=
  ⟨by decide, by decide, by decide⟩

theorem test_premises_TransposedMultiplies :
    (∀ f ∈ transposedForms, amxReady f.2.1 (unitTiles 0 0 0)) ∧ tileDataOn (unitTiles 0 0 0) ∧
    tmulTransposedOk (unitTiles 0 0 0) 0 1 2 = true :=
  ⟨by decide, by decide, by decide⟩

theorem test_premises_TileTransposes :
    (∀ f ∈ transposeForms, amxReady f.2.1 (tiles01 [])) ∧ tileDataOn (tiles01 []) ∧ transposeOk (tiles01 []) 0 1 = true :=
  ⟨by decide, by decide, by decide⟩

theorem test_premises_RowMoves :
    amxReady hasAmxAvx512 (tiles01 []) ∧ rowMoveEnabled (tiles01 []) = true ∧ bitAt (tiles01 []).sys.cr0 3 = false ∧
    tileDataOn (tiles01 []) ∧ (tiles01 []).tilesConfigured = true ∧ (tiles01 []).tileDwords 1 = true ∧
    fieldOf ((tiles01 []).reg32 .rax) 15 0 < (tiles01 []).tileRows 1 ∧
    fieldOf ((tiles01 []).reg32 .rax) 31 16 * 64 < (tiles01 []).tileColsb 1 ∧
    (tiles01 []).tileRows 1 ≤ fieldOf ((tiles01 []).reg32 .rdx) 15 0 ∧
    fieldOf (1 : Byte) 5 0 < (tiles01 []).tileRows 1 ∧ fieldOf (1 : Byte) 7 6 * 64 < (tiles01 []).tileColsb 1 ∧
    (tiles01 []).tileColsb 1 ≤ fieldOf (0x40 : Byte) 7 6 * 64 :=
  ⟨⟨by decide, by decide, by decide⟩, by decide⟩

/-- Nothing is configured in `lab`; in `tiles01` tiles 0 and 1 have other shapes. -/
theorem test_premises_AmxClassChecks :
    amxEnabled lab = true ∧ lab.ctx.tsx = false ∧ tileDataOn lab ∧ lab.tilesConfigured = false ∧
    (tiles01 []).tilesConfigured = true ∧ (tiles01 []).tileValid 2 = false ∧ tileDataOn (tiles01 []) ∧
    (∀ f ∈ mulForms, amxReady f.2.1 (tiles01 [])) ∧ (∀ f ∈ transposedForms, amxReady f.2.1 (tiles01 [])) ∧
    (tiles01 []).tileColsb 0 ≠ (tiles01 []).tileColsb 1 ∧ (∀ f ∈ transposeForms, amxReady f.2.1 (tiles01 [])) ∧
    (∀ f ∈ pairLoadForms, amxReady f.2.1 (tiles01 [])) ∧ (tiles01 []).tileColsb (pairNext 0) % 8 ≠ 0 ∧
    amxReady hasAmxAvx512 (tiles01 []) ∧ rowMoveEnabled (tiles01 []) = true :=
  ⟨by decide, by decide, by decide, by decide, by decide, by decide, by decide, by decide, by decide, by decide, by decide,
    by decide, by decide, by decide, by decide⟩

/-- At the boundaries: 65520 rounds to infinity, 65519 does not; the largest pattern below infinity is packed as itself. -/
theorem test_premises_RoundsToNearestEven :
    packMag 10 125 0x7C00 (65519 * 2 ^ 149) < 0x7C00 ∧ 65520 * 2 ^ 149 ≤ fMag 0x477FF000 ∧
    fNan 0x477FF000 = false ∧ fMag 0x477FEFFF < 65520 * 2 ^ 149 ∧ fDenormal 0x477FEFFF = false ∧ fDenormal 1 = true ∧
    fInf 0xFF800000 = true ∧ fNan 0x7F800001 = true ∧ fExp 0x7F7FFFFF ≠ 255 ∧ fieldOf (0x7BFF : BitVec 16) 14 10 ≠ 31 := by
  decide +kernel

/-- Exactly at the overflow bound: the largest finite number plus half a unit of its last place; 1 - 1 is an exact zero. -/
theorem test_premises_FusedMultiplyAdd :
    fExp 0x7F7FFFFF ≠ 255 ∧ fExp 0x73000000 ≠ 255 ∧
    (fInt 0x73000000 * fInt 0x3F800000 + fInt 0x7F7FFFFF * 2 ^ 149).natAbs = (2 ^ 25 - 1) * 2 ^ 401 ∧
    (fInt 0x72FFFFFF * fInt 0x3F800000 + fInt 0x7F7FFFFF * 2 ^ 149).natAbs < (2 ^ 25 - 1) * 2 ^ 401 ∧
    fInt 0xBF800000 * fInt 0x3F800000 + fInt 0x3F800000 * 2 ^ 149 = 0 ∧ fDenormal 0x80000001 = true ∧
    fNan 0x7F800001 = true ∧ (fInf 0x7F800000 && fZero 0) = true ∧ fInf 0xFF800000 = true := by decide +kernel

/-- The chains of one concrete pair of lanes, (1 + i) by (1 + i) for every k. -/
theorem test_premises_PairAndTf32Elements :
    let a : Lane := fun _ => 0x3C003C00
    let e := evenSum imagTerm a a
    let o := oddSum imagTerm a a
    let t := tf32Sum a a
    e 0 = 0 ∧ o 0 = 0 ∧ t 0 = 0 ∧
    (∀ k, e (k + 1) = fma32 (e k) (imagTerm (a k) (a k)).e1 (imagTerm (a k) (a k)).e2 true true) ∧
    (∀ k, o (k + 1) = fma32 (o k) (imagTerm (a k) (a k)).o1 (imagTerm (a k) (a k)).o2 true true) ∧
    (∀ k, t (k + 1) = fma32 (t k) (toTf32 (a k)) (toTf32 (a k)) true true) ∧
    e 2 = 0x40000000 ∧ fNan 0x7F800001 = true ∧ fNan 0x3F801FFF = false :=
  ⟨rfl, rfl, rfl, fun _ => rfl, fun _ => rfl, fun _ => rfl, by decide +kernel, by decide, by decide⟩

/-- One k, BF8 by BF8: 1.0 by 1.0 four times; infinity by one, by zero, and by both signs; a NaN. -/
theorem test_premises_Fp8Elements :
    fp8Elem .bf8 .bf8 1 (fun _ => 0x3C3C3C3C) (fun _ => 0x3C3C3C3C) 0 = 0x40800000 ∧
    fp8Elem .bf8 .bf8 1 (fun _ => 0x7C) (fun _ => 0x3C) 0 = 0x7F800000 ∧
    fp8Elem .bf8 .bf8 1 (fun _ => 0x7C) (fun _ => 0x3C) 0xFF800000 = 0xFFC00000 ∧
    fp8Elem .bf8 .bf8 1 (fun _ => 0x7C) (fun _ => 0) 0 = 0xFFC00000 ∧
    fp8Elem .bf8 .bf8 1 (fun _ => 0xFC7C) (fun _ => 0x3C3C) 0 = 0xFFC00000 ∧
    fp8Elem .bf8 .hf8 1 (fun _ => 0) (fun _ => 0x7F) 0 = 0xFFC00000 := by decide +kernel

theorem test_premises_UserTimerEvent :
    ∀ tsx, (timerLab tsx).delivered = none ∧ (timerLab tsx).raoStep.guestTimerDue = false ∧
      (timerLab tsx).raoStep.userTimerDue = true ∧ (timerLab tsx).ctx.tsx = tsx := by decide

/-- The boundary: the deadline is 1040H. -/
theorem test_premises_UserTimerEvent_ready :
    userTimerReady { timerLab false with tsc := 0x1040 } ∧ (timerLab false).ctx.shadow = false ∧
    ¬ userTimerReady { timerLab false with tsc := 0x103F } := by
  unfold userTimerReady; decide

/-- A guest whose deadline has come, under "APIC-timer virtualization", with a scaled and offset time-stamp counter. -/
def guestLab : State :=
  { lab with
    tsc := 0x2000, guestDeadline := 0x1000, ctx := { lab.ctx with vmx := .nonRoot }
    vmcs := { lab.vmcs with activateTertiary := true, tertiary := 0x100, virtIntDelivery := true, tscScaling := true,
                            tscOffsetting := true, tscOffset := 0x10, tscMultiplier := 0x0001000000000000 } }

theorem test_premises_VirtualTimers :
    guestLab.delivered = none ∧ guestLab.guestDeadline ≠ 0 ∧ guestLab.guestDeadline.toNat ≤ guestLab.tsc.toNat ∧
    guestLab.ctx.activity = .active ∧ hasUtmr guestLab.cfg = true ∧ guestLab.nonRoot = true ∧
    guestLab.timerVirtualized = true ∧
    (0x1000 - 0x10) * 2 ^ 48 + 2 ^ 48 + guestLab.vmcs.tscMultiplier.toNat ≤ 2 ^ 64 * guestLab.vmcs.tscMultiplier.toNat ∧
    guestLab.tertiary 8 = true ∧
    { guestLab with vmcs := { guestLab.vmcs with virtTimerVector := 256 } }.vmcs.virtTimerVector.toNat = 256 ∧
    { lab with vmcs := { lab.vmcs with activateTertiary := false } }.vmEntryOk = true := by decide

/-- Counter 0 is enabled for trace triggers and both of the first two trigger units fire on its increments: unit 0 asks for a
pause, unit 1 for a resume and the instruction count. -/
def triggerLab : State :=
  { ((lab.setMsr 0x38F 1).setMsr 0x1901 0x4000430000).setMsr 0x568 0xD000A000 with
    pt := { lab.pt with traceEn := true, branchEn := true, triggerEn := true, contextEn := true, filterEn := true } }

theorem test_premises_TriggerUnits :
    hasPttt triggerLab.cfg = true ∧ firedUnits triggerLab ⟨[0], []⟩ 0 = [0, 1] ∧ triggerLab.ptPaused = false ∧
    singleAction triggerLab 0 ∧ singleAction triggerLab 1 ∧ asksCount triggerLab triggerLab 1 ∧
    ¬ asksCount triggerLab triggerLab 0 ∧ firedUnits lab ⟨[0], []⟩ 0 = [] ∧
    (runTriggers triggerLab triggerLab ⟨[0], []⟩).pt.packets = [0xD9, 0x40, 0x03, 1, 0] ∧
    (runTriggers triggerLab triggerLab ⟨[0], []⟩).ptPaused = false := by
  unfold singleAction asksCount; decide +kernel

/-- Unit 0 fires on the overflow of counter 0, and unit 1 is set for breakpoint register 0. -/
def overflowLab : State := { triggerLab.setMsr 0x568 0x8040A020 with sys := { lab.sys with dr7 := 0x100000401 } }

theorem test_premises_TriggerUnits_inputs :
    0 < 4 * nTriggerCfg overflowLab.cfg ∧ bitAt (triggerUnit overflowLab 0) 15 = true ∧
    (triggerUnit overflowLab 0).toNat % 128 = 0x20 ∧ counting overflowLab 0 = true ∧
    bitAt (overflowLab.msrVal (evtSelAddr 0)) 38 = true ∧ unitFires overflowLab ⟨[], [0]⟩ 0 0 = true ∧
    unitFires overflowLab ⟨[0], []⟩ 0 0 = false ∧ bitAt (triggerUnit overflowLab 1) 15 = true ∧
    (triggerUnit overflowLab 1).toNat % 128 = 0x40 ∧ breakpointInput overflowLab 0 := by
  unfold breakpointInput; decide +kernel

/-- R749: from an instruction that sent an IP indication, such as a JNZ with its TNT bit, the count is 0. -/
theorem test_icnt_after_tnt :
    after (execBase (.jnz 0) triggerLab) (fun t => t.pt.anchored) = some true ∧
    after (execBase (.jnz 0) lab) (fun t => t.pt.anchored) = some false ∧
    (runTriggers triggerLab triggerLab.anchor ⟨[0], []⟩).pt.packets = [0xD9, 0x40, 0x03, 0, 0] := by decide +kernel

/-- Counter 1 samples into a buffer of one page; the write offset and FULL as given. -/
def pebsLab (index : W64) : State := ((lab.setMsr 0x3F4 0x100000).setMsr 0x3F5 index).setMsr 0x1907 0x80000000FFFFFC00

/-- THRESH_EN, with the threshold at the end of the record. -/
theorem test_premises_PebsRecord_threshold :
    bitAt ((pebsLab 0x4100000000).msrVal 0x3F5) 32 = true ∧ pebsThreshold (pebsLab 0x4100000000) = 0x40 ∧
    pebsThreshold (pebsLab 0x4100000000) ≤ pebsOffset (pebsLab 0x4100000000) + (pebsRecord (pebsLab 0x4100000000) 1 0 0).length ∧
    pebsOffset (pebsLab 0x5100000000) + (pebsRecord (pebsLab 0x5100000000) 1 0 0).length < pebsThreshold (pebsLab 0x5100000000) := by
  decide +kernel

theorem test_premises_PebsRecord :
    bitAt ((pebsLab 0x80000000).msrVal 0x3F5) 31 = true ∧ bitAt ((pebsLab 0).msrVal 0x3F5) 31 = false ∧
    pebsOffset (pebsLab 0) + (pebsRecord (pebsLab 0) 1 0 0).length ≤ pebsLimit (pebsLab 0) ∧
    bitAt ((pebsLab 0xFD0).msrVal 0x3F5) 31 = false ∧
    pebsLimit (pebsLab 0xFD0) < pebsOffset (pebsLab 0xFD0) + (pebsRecord (pebsLab 0xFD0) 1 0 0).length := by decide

/-- At the boundary the record's end is the limit: it is written, and FULL is set. -/
theorem test_premises_PebsRecord_boundary :
    bitAt ((pebsLab 0xFC0).msrVal 0x3F5) 31 = false ∧
    pebsOffset (pebsLab 0xFC0) + (pebsRecord (pebsLab 0xFC0) 1 (eventingIp lab (pebsLab 0xFC0) 1)
      (memoryAccessAddress lab (pebsLab 0xFC0) 1 [])).length = pebsLimit (pebsLab 0xFC0) ∧
    ((List.range 64).map (fun j => pebsPhys (pebsLab 0xFC0) (pebsBase (pebsLab 0xFC0) + pebsOffset (pebsLab 0xFC0) + j))).Nodup := by
  decide +kernel

end Sys2Proof.Tests
end

/-! ## Properties that every step keeps

A property of the state that depends on the configuration and the sparse stores only, and that every write to a store
keeps, is kept by every step: proved once, along the structure of the instructions' actions, for any such property. -/

namespace Sys2Proof.Machine

/-! ### Properties kept by an action -/

/-- The state that an action ends in, whether it completes or stops with a trap. -/
def Act.final {α : Type} (a : Act α) (s : State) : State :=
  match a s with
  | .ok _ t => t
  | .error _ t => t

/-- An action keeps a property of the state. -/
def Act.Keeps {α : Type} (P : State → Prop) (a : Act α) : Prop := ∀ s, P s → P (Act.final a s)

namespace Act.Keeps

variable {α β : Type} {P : State → Prop}

theorem pure (a : α) : Act.Keeps P (pure a : Act α) := fun _ h => h

theorem throw (t : Trap) : Act.Keeps P (throw t : Act α) := fun _ h => h

theorem set {t : State} (h : P t) : Act.Keeps P (set t : Act Unit) := fun _ _ => h

theorem modify {f : State → State} (h : ∀ s, P s → P (f s)) : Act.Keeps P (modify f : Act Unit) := h

theorem bind {x : Act α} {f : α → Act β} (hx : Act.Keeps P x) (hf : ∀ a, Act.Keeps P (f a)) :
    Act.Keeps P (x >>= f) := by
  intro s h
  have hs := hx s h
  simp only [Act.final, Act.bind_run] at hs ⊢
  cases hr : x s with
  | ok a t => rw [hr] at hs; exact hf a t hs
  | error e t => rw [hr] at hs; exact hs

/-- After reading the state, what the rest of the action makes of it may rely on the property. -/
theorem getBind {f : State → Act β} (hf : ∀ s, P s → Act.Keeps P (f s)) : Act.Keeps P (get >>= f) :=
  fun s h => hf s h s h

theorem ite {c : Prop} [Decidable c] {x y : Act α} (hx : Act.Keeps P x) (hy : Act.Keeps P y) :
    Act.Keeps P (if c then x else y) := iteInduction (fun _ => hx) fun _ => hy

theorem need (c : Bool) (t : Trap) : Act.Keeps P (need c t) := ite (pure _) (throw t)

theorem liftE (x : Except Trap α) : Act.Keeps P (liftE x) :=
  match x with
  | .ok a => pure a
  | .error t => throw t

theorem amxBegin (ok : Cfg → Bool) : Act.Keeps P (amxBegin ok) :=
  getBind fun _ _ => bind (need _ _) fun _ => need _ _

theorem tileDataEnabled : Act.Keeps P tileDataEnabled := getBind fun _ _ => need _ _

end Act.Keeps

/-! ### Invariants of the stores -/

/-- The configuration and the sparse stores of a state. -/
def State.stores (s : State) : Cfg × Store Byte × Store W64 × Store KeySlot × Store KeySlot :=
  (s.cfg, s.mem, s.msr, s.tmemk, s.tse)

/-- A property of the configuration and the sparse stores that every write to a store keeps. -/
structure StoreInvariant (P : State → Prop) : Prop where
  congr : ∀ {s t : State}, P s → t.stores = s.stores → P t
  writeByte : ∀ {s : State} (a : Nat) (b : Byte), P s → P { s with mem := writeByte s.mem a b }
  setMsr : ∀ {s : State} (a : Nat) (v : W64), P s → P (s.setMsr a v)
  setTmemk : ∀ {s : State} (k : Nat) (v : KeySlot), P s → P (s.setTmemk k v)
  setTse : ∀ {s : State} (k : Nat) (v : KeySlot), P s → P (s.setTse k v)
  clearTmemk : ∀ {s : State}, P s → P { s with tmemk := [] }

/-- To have a given configuration (R10) is one. -/
theorem storeInvariant_cfg (c : Cfg) : StoreInvariant (fun s => s.cfg = c) where
  congr h e := (congrArg Prod.fst e).trans h
  writeByte _ _ h := h
  setMsr _ _ h := h
  setTmemk _ _ h := h
  setTse _ _ h := h
  clearTmemk h := h

theorem State.stores_setReg8 (s : State) (d : Reg8) (v : Byte) : (s.setReg8 d v).stores = s.stores := by
  cases d <;> rfl

theorem State.stores_setRegSized (s : State) (sz : OpSize) (g : Gpr) (v : W64) :
    (s.setRegSized sz g v).stores = s.stores := by
  cases sz <;> rfl

theorem State.stores_setPconfigRax (s : State) (v : Nat) : (s.setPconfigRax v).stores = s.stores := by
  unfold State.setPconfigRax; split <;> rfl

theorem State.stores_loadConfig (s : State) (b : List Byte) : (s.loadConfig b).stores = s.stores := by
  unfold State.loadConfig; split <;> rfl

theorem State.stores_pairPrologue (s : State) (t : Tmm) (n : Nat) : (s.pairPrologue t n).stores = s.stores := by
  unfold State.pairPrologue; dsimp only; split <;> rfl

theorem State.stores_pairRow (s : State) (t : Tmm) (i base : Nat) (v : W512) :
    (s.pairRow t i base v).stores = s.stores := by
  unfold State.pairRow; split <;> rfl

theorem State.stores_armAt (s : State) (a : Nat) : (s.armAt a).stores = s.stores := by
  unfold State.armAt; split <;> rfl

theorem State.stores_mwaitEffect (s : State) : (mwaitEffect s).stores = s.stores := by
  unfold mwaitEffect; split <;> rfl

theorem State.stores_sendTnt (s : State) : s.sendTnt.stores = s.stores := by
  rcases s.sendTnt_eq with h | h <;> rw [h]; rfl

theorem State.stores_baseIndication (s pre : State) : (s.baseIndication pre).stores = s.stores := by
  rcases s.baseIndication_eq pre with h | h <;> rw [h]; rfl

theorem State.stores_pauseIndication (s before : State) : (s.pauseIndication before).stores = s.stores := by
  rcases s.pauseIndication_eq before with h | h <;> rw [h]; rfl

theorem State.stores_emitTrig (pre s : State) (l : List Nat) : (emitTrig pre s l).stores = s.stores := by
  unfold emitTrig
  split
  · split <;> rfl
  · rfl

namespace StoreInvariant

section

variable {P : State → Prop} (hP : StoreInvariant P)
include hP

/-! ### Memory and posted updates -/

theorem writeBytes {s : State} (as : List Nat) (bs : List Byte) (h : P s) :
    P { s with mem := writeBytes s.mem as bs } := by
  induction as generalizing s bs with
  | nil => exact h
  | cons a as ih =>
    cases bs with
    | nil => exact h
    | cons b bs => exact ih bs (hP.writeByte a b h)

theorem drawn {s : State} (n : Nat) (h : P s) : P (s.drawn n) := hP.congr h rfl

theorem tick {s : State} (h : P s) : P s.tick := hP.congr h rfl

theorem store {s : State} (as : List Nat) (bs : List Byte) (h : P s) : P (s.store as bs) :=
  hP.congr (hP.writeBytes as bs h) rfl

theorem raoPerformAll {s : State} (l : List RaoEntry) (h : P s) : P { s with mem := raoPerformAll s.mem l } := by
  induction l generalizing s with
  | nil => exact h
  | cons e l ih => exact ih (hP.writeBytes e.bytes _ h)

theorem raoForce {s : State} (fp : List Nat) (h : P s) : P (s.raoForce fp) := by
  unfold State.raoForce
  split
  · exact h
  · exact hP.congr (hP.raoPerformAll _ h) rfl

theorem raoDrain {s : State} (h : P s) : P s.raoDrain := hP.congr (hP.raoPerformAll s.rao h) rfl

theorem raoStep {s : State} (h : P s) : P s.raoStep := by
  unfold State.raoStep
  split
  · exact h
  · exact hP.congr (hP.raoPerformAll _ h) rfl

theorem loadPhys (as : List Nat) : Act.Keeps P (loadPhys as) := fun _ h => hP.raoForce as h

theorem storePhys (as : List Nat) (bs : List Byte) : Act.Keeps P (storePhys as bs) :=
  .modify fun _ h => hP.store as bs (hP.raoForce as h)

theorem memRead (seg : Seg) (off : W64) (n : Nat) (ac : Bool) : Act.Keeps P (memRead seg off n ac) :=
  .getBind fun _ _ => .bind (.liftE _) fun as => hP.loadPhys as

theorem memWrite (seg : Seg) (off : W64) (bs : List Byte) (ac : Bool) : Act.Keeps P (memWrite seg off bs ac) :=
  .getBind fun _ _ => .bind (.liftE _) fun as => hP.storePhys as bs

theorem loadOp (m : MemOp) (n : Nat) (ac : Bool) : Act.Keeps P (loadOp m n ac) :=
  .getBind fun _ _ => hP.memRead _ _ _ _

theorem storeOp (m : MemOp) (bs : List Byte) (ac : Bool) : Act.Keeps P (storeOp m bs ac) :=
  .getBind fun _ _ => hP.memWrite _ _ _ _

/-! ### Traps and the end of an instruction -/

theorem tsxAbort {s : State} (h : P s) : P s.tsxAbort := hP.congr h rfl

theorem takeTrap {s : State} (e : Trap) (h : P s) : P (s.takeTrap e) := by
  cases e with
  | exn e code => exact hP.congr h rfl
  | page la code => exact hP.congr h rfl
  | xfd => exact hP.congr (hP.setMsr _ _ h) rfl
  | exit reason qual info => exact hP.congr h rfl
  | abort => exact hP.tsxAbort h

theorem settle {a : Act Unit} (ha : Act.Keeps P a) {s t : State} (ht : settle a s = .next t) (h : P s) : P t := by
  have hs := ha s h
  obtain ⟨u, hu, he⟩ | ⟨e, u, hu, he⟩ := settle_run a s <;> rw [he] at ht <;> cases ht <;>
    simp only [Act.final, hu] at hs
  · exact hP.congr hs rfl
  · exact hP.takeTrap e hs

/-! ### CPUID, RAO, MOVRS and SM4 -/

theorem cpuidEffect {s : State} (h : P s) : P (cpuidEffect s) :=
  hP.congr (hP.raoDrain (hP.setMsr 0x8B _ h)) rfl

theorem raoPost (op : RaoOp) (sz : RaoSize) (m : MemOp) (r : Gpr) : Act.Keeps P (raoPost op sz m r) :=
  .getBind fun _ h => .bind (.need _ _) fun _ => .bind (.liftE _) fun _ => .bind (.need _ _) fun _ =>
    .set (hP.congr h rfl)

theorem movrsByte (d : Reg8) (m : MemOp) : Act.Keeps P (movrsByte d m) :=
  .getBind fun _ _ => .bind (.need _ _) fun _ => .bind (hP.loadOp m 1 true) fun _ =>
    .modify fun s h => hP.congr h (s.stores_setReg8 d _)

theorem movrsWide (sz : OpSize) (d : Gpr) (m : MemOp) : Act.Keeps P (movrsWide sz d m) :=
  .getBind fun _ _ => .bind (.need _ _) fun _ => .bind (hP.loadOp m _ true) fun _ =>
    .modify fun s h => hP.congr h (s.stores_setRegSized sz d _)

theorem vmovrs (e vl : Nat) (d : VReg) (k : KReg) (z : Bool) (m : MemOp) : Act.Keeps P (vmovrs e vl d k z m) :=
  .getBind fun _ _ => .bind (.need _ _) fun _ => .bind (.need _ _) fun _ => .bind (.liftE _) fun _ =>
    .bind (.modify fun _ h => hP.raoForce _ h) fun _ => .modify fun _ h => hP.congr h rfl

theorem vecSrc (vl : Nat) (v : VecSrc) : Act.Keeps P (vecSrc vl v) := by
  cases v with
  | reg r => exact .getBind fun _ _ => .pure _
  | mem m => exact .bind (hP.loadOp m _ true) fun _ => .pure _

theorem sm4 (ok : State → Bool) (l : W32 → W32) (vl : Nat) (d s1 : VReg) (s2 : VecSrc) :
    Act.Keeps P (sm4 ok l vl d s1 s2) :=
  .getBind fun _ _ => .bind (.need _ _) fun _ => .bind (.need _ _) fun _ => .bind (hP.vecSrc vl s2) fun _ =>
    .modify fun _ h => hP.congr h rfl

/-! ### PBNDKB and PCONFIG -/

theorem keyFailure (reason : Nat) : Act.Keeps P (keyFailure reason) := .modify fun _ h => hP.congr h rfl

theorem keySuccess : Act.Keeps P keySuccess := .modify fun _ h => hP.congr h rfl

theorem rng : Act.Keeps P rng := .getBind fun _ h => .bind (.set (hP.drawn 1 h)) fun _ => .pure _

theorem tryLock : Act.Keeps P tryLock := .getBind fun _ h => .bind (.set (hP.drawn 1 h)) fun _ => .pure _

theorem bindKeys (t : List Byte) : Act.Keeps P (bindKeys t) :=
  .ite (.bind hP.rng fun _ => .bind hP.rng fun _ => .ite (.pure _) (.pure _)) (.pure _)

theorem bindWrite (out : W64) (t : List Byte) : Act.Keeps P (bindWrite out t) :=
  .bind (hP.bindKeys t) fun
    | none => hP.keyFailure 1
    | some _ => .bind hP.rng fun _ =>
      .ite (.bind (hP.memWrite _ _ _ _) fun _ => hP.keySuccess) (hP.keyFailure 1)

theorem bindKey : Act.Keeps P bindKey := by
  refine .getBind fun s _ => .bind (.need _ _) fun _ => .bind (.need _ _) fun _ => .bind (.need _ _) fun _ =>
    .bind (.need _ _) fun _ => .bind (hP.memRead _ _ _ _) fun t => .bind (.need _ _) fun _ => ?_
  cases platformFailure s with
  | none => exact hP.bindWrite _ t
  | some r => exact .bind (.modify fun _ h => hP.congr h rfl) fun _ => hP.keyFailure _

theorem pconfigFailure (reason : Nat) : Act.Keeps P (pconfigFailure reason) :=
  .modify fun s h => hP.congr h (s.stores_setPconfigRax reason)

theorem pconfigSuccess : Act.Keeps P pconfigSuccess :=
  .modify fun s h => hP.congr h (s.stores_setPconfigRax 0)

/-- A key slot of the TME-MK table is written, and PCONFIG succeeds. -/
theorem programTmemk (k : Nat) (v : KeySlot) :
    Act.Keeps P (do modify (·.setTmemk k v); Machine.pconfigSuccess) :=
  .bind (.modify fun _ h => hP.setTmemk k v h) fun _ => hP.pconfigSuccess

theorem programTse (k : Nat) (v : KeySlot) : Act.Keeps P (do modify (·.setTse k v); Machine.pconfigSuccess) :=
  .bind (.modify fun _ h => hP.setTse k v h) fun _ => hP.pconfigSuccess

theorem mktmeCommand (t : List Byte) : Act.Keeps P (mktmeCommand t) := by
  unfold Machine.mktmeCommand
  split
  · exact hP.programTmemk _ _
  · exact .bind hP.rng fun _ => .ite
      (.bind hP.rng fun _ => .ite (hP.programTmemk _ _) (hP.pconfigFailure 2)) (hP.pconfigFailure 2)
  · exact hP.programTmemk _ _
  · exact hP.programTmemk _ _

theorem mktmeProgram : Act.Keeps P mktmeProgram :=
  .getBind fun _ _ => .bind (.need _ _) fun _ => .bind (.need _ _) fun _ => .bind (.need _ _) fun _ =>
    .bind (hP.memRead _ _ _ _) fun t => .bind (.need _ _) fun _ => .bind hP.tryLock fun _ =>
      .ite (hP.mktmeCommand t) (hP.pconfigFailure 5)

theorem tseProgram : Act.Keeps P tseProgram :=
  .getBind fun _ _ => .bind (.need _ _) fun _ => .bind (.need _ _) fun _ => .bind (.need _ _) fun _ =>
    .bind (hP.memRead _ _ _ _) fun _ => .bind (.need _ _) fun _ => .bind hP.tryLock fun _ =>
      .ite (hP.programTse _ _) (hP.pconfigFailure 5)

theorem tseProgramWrapped : Act.Keeps P tseProgramWrapped :=
  .getBind fun _ _ => .bind (.need _ _) fun _ => .bind (.need _ _) fun _ => .bind (hP.memRead _ _ _ _) fun _ =>
    .bind (.need _ _) fun _ => .ite
      (.bind hP.tryLock fun _ => .ite (hP.programTse _ _) (hP.pconfigFailure 5)) (hP.pconfigFailure 7)

theorem configure : Act.Keeps P configure := by
  refine .getBind fun s _ => .bind (.need _ _) fun _ => ?_
  split
  · exact hP.mktmeProgram
  · exact hP.tseProgram
  · exact hP.tseProgramWrapped
  · exact .throw _

/-! ### MSRs, MONITOR and MWAIT -/

theorem msrRead (a : Nat) : Act.Keeps P (msrRead a) :=
  .getBind fun _ h => .bind (.need _ _) fun _ =>
    .bind (.set (iteInduction (fun _ => h) fun _ => hP.drawn 1 h)) fun _ => .pure _

theorem writeUserTimer {s : State} (v : W64) (h : P s) : P (s.writeUserTimer v) := by
  unfold State.writeUserTimer
  split
  · exact hP.congr (hP.setMsr _ _ h) rfl
  · exact hP.setMsr _ _ h

theorem writeTscDeadline {s : State} (v : W64) (h : P s) : P (s.writeTscDeadline v) := by
  unfold State.writeTscDeadline
  split
  · exact hP.congr h rfl
  · exact hP.setMsr _ _ h

/-- IA32_TME_ACTIVATE: activation clears the table of TME-MK. -/
theorem activateTme {s : State} (v : W64) (h : P s) :
    P { s.setMsr 0x982 v with tmemk := if bitAt v 1 then [] else s.tmemk } := by
  split
  · exact hP.clearTmemk (hP.setMsr 0x982 v h)
  · exact hP.setMsr 0x982 v h

theorem msrStore {s : State} (a : Nat) (v : W64) (h : P s) : P (msrStore s a v) :=
  iteInduction (fun _ => hP.congr h rfl) fun _ =>
  iteInduction (fun _ => hP.setMsr _ _ h) fun _ =>
  iteInduction (fun _ => hP.setMsr _ _ h) fun _ =>
  iteInduction (fun _ => hP.setMsr _ _ h) fun _ =>
  iteInduction (fun _ => hP.congr (hP.setMsr 0x570 _ h) rfl) fun _ =>
  iteInduction (fun _ => hP.setMsr _ _ h) fun _ =>
  iteInduction (fun _ => hP.writeTscDeadline v h) fun _ =>
  iteInduction (fun _ => hP.activateTme v h) fun _ =>
  iteInduction (fun _ => hP.congr h rfl) fun _ =>
  iteInduction (fun _ => hP.writeUserTimer v h) fun _ =>
  iteInduction (fun _ => hP.congr h rfl) fun _ =>
  iteInduction (fun _ => hP.congr h rfl) fun _ =>
  iteInduction (fun _ => hP.congr h rfl) fun _ => hP.setMsr _ _ h

theorem msrWrite (a : Nat) (v : W64) : Act.Keeps P (msrWrite a v) :=
  .getBind fun _ h => .bind (.need _ _) fun _ => .set (hP.msrStore _ v h)

theorem msrExit {s : State} (a : Nat) (write : Bool) (q : W64) (h : P s) : Act.Keeps P (msrExit s a write q) :=
  .ite (.bind (.set (hP.drawn 1 h)) fun _ => .throw _) (.pure _)

theorem userMsrBit (write : Bool) (a : Nat) : Act.Keeps P (userMsrBit write a) :=
  .getBind fun _ _ => .bind (.liftE _) fun as => .bind (hP.loadPhys as) fun _ => .pure _

theorem userMsrAllowed (write : Bool) (a : W64) : Act.Keeps P (userMsrAllowed write a) :=
  .getBind fun _ _ => .bind (.need _ _) fun _ => .bind (hP.userMsrBit write _) fun _ =>
    .getBind fun _ _ => .need _ _

theorem userMsrExit (g : Gpr) (a : Nat) (write : Bool) : Act.Keeps P (userMsrExit g a write) :=
  .getBind fun _ h => .ite (.ite (.bind (.set (hP.drawn 1 h)) fun _ => .throw _) (.throw _)) (.pure _)

theorem readMsrImplicit : Act.Keeps P readMsrImplicit :=
  .getBind fun _ h => .bind (.need _ _) fun _ => .bind (.need _ _) fun _ => .bind (hP.msrExit _ _ _ h) fun _ =>
    .bind (hP.msrRead _) fun _ => .modify fun _ h => hP.congr h rfl

theorem readMsrImm (apx : Bool) (d : Gpr) (imm : W32) : Act.Keeps P (readMsrImm apx d imm) :=
  .getBind fun _ h => .bind (.need _ _) fun _ => .bind (.need _ _) fun _ => .bind (hP.msrExit _ _ _ h) fun _ =>
    .bind (hP.msrRead _) fun _ => .modify fun _ h => hP.congr h rfl

theorem writeMsrImplicit : Act.Keeps P writeMsrImplicit :=
  .getBind fun _ h => .bind (.need _ _) fun _ => .bind (.need _ _) fun _ => .bind (hP.msrExit _ _ _ h) fun _ =>
    hP.msrWrite _ _

theorem writeMsrImm (apx : Bool) (imm : W32) (g : Gpr) : Act.Keeps P (writeMsrImm apx imm g) :=
  .getBind fun _ h => .bind (.need _ _) fun _ => .bind (.need _ _) fun _ => .bind (hP.msrExit _ _ _ h) fun _ =>
    hP.msrWrite _ _

theorem userRead (d : Gpr) (a : W64) : Act.Keeps P (userRead d a) :=
  .getBind fun _ _ => .bind (.need _ _) fun _ => .bind (hP.userMsrAllowed false a) fun _ =>
    .getBind fun _ _ => .bind (.need _ _) fun _ => .bind (hP.userMsrExit _ _ _) fun _ =>
      .bind (hP.msrRead _) fun _ => .modify fun _ h => hP.congr h rfl

theorem userWrite (a : W64) (g : Gpr) : Act.Keeps P (userWrite a g) :=
  .getBind fun _ _ => .bind (.need _ _) fun _ => .bind (hP.userMsrAllowed true a) fun _ =>
    .getBind fun _ _ => .bind (.need _ _) fun _ => .bind (.need _ _) fun _ => .bind (hP.userMsrExit _ _ _) fun _ =>
      hP.msrWrite _ _

theorem waitOnMonitor : Act.Keeps P waitOnMonitor :=
  .getBind fun s h => .bind (.need _ _) fun _ => .bind (.need _ _) fun _ => .set (hP.congr h s.stores_mwaitEffect)

theorem armMonitor (seg : Option Seg) (asz : AddrSize) : Act.Keeps P (armMonitor seg asz) :=
  .getBind fun _ _ => .bind (.need _ _) fun _ => .bind (.liftE _) fun as => .bind (hP.loadPhys as) fun _ =>
    .modify fun s h => hP.congr h (s.stores_armAt _)

/-! ### AMX -/

theorem zeroStartRow : Act.Keeps P zeroStartRow := .modify fun _ h => hP.congr h rfl

theorem tmul (ok : Cfg → Bool) (op : ElemOp) (c a b : Tmm) : Act.Keeps P (tmul ok op c a b) :=
  .bind (.amxBegin ok) fun _ => .bind .tileDataEnabled fun _ => .getBind fun _ h => .bind (.need _ _) fun _ =>
    .set (hP.congr h rfl)

theorem tmulTransposed (ok : Cfg → Bool) (op : ElemOp) (c a b : Tmm) : Act.Keeps P (tmulTransposed ok op c a b) :=
  .bind (.amxBegin ok) fun _ => .bind .tileDataEnabled fun _ => .getBind fun _ h => .bind (.need _ _) fun _ =>
    .set (hP.congr h rfl)

theorem tileTranspose (ok : Cfg → Bool) (f : W32 → W32) (d a : Tmm) : Act.Keeps P (tileTranspose ok f d a) :=
  .bind (.amxBegin ok) fun _ => .bind .tileDataEnabled fun _ => .getBind fun _ h => .bind (.need _ _) fun _ =>
    .set (hP.congr h rfl)

theorem rowToZmm (f : W32 → W32) (d : VReg) (t : Tmm) (sel : RowSel) : Act.Keeps P (rowToZmm f d t sel) :=
  .getBind fun _ _ => .bind (.need _ _) fun _ => .bind (.amxBegin _) fun _ => .getBind fun _ h =>
    .bind (.need _ _) fun _ => .bind .tileDataEnabled fun _ => .bind (.need _ _) fun _ => .bind (.need _ _) fun _ =>
      .set (hP.congr h rfl)

theorem loadTileConfig (m : MemOp) : Act.Keeps P (loadTileConfig m) :=
  .bind (.amxBegin _) fun _ => .bind (hP.loadOp m 64 false) fun b => .getBind fun s h => .bind (.need _ _) fun _ =>
    .set (hP.congr h (s.stores_loadConfig b))

theorem storeTileConfig (m : MemOp) : Act.Keeps P (storeTileConfig m) :=
  .bind (.amxBegin _) fun _ => .getBind fun _ _ => hP.storeOp m _ false

theorem releaseTileConfig : Act.Keeps P releaseTileConfig :=
  .bind (.amxBegin _) fun _ => .modify fun _ h => hP.congr h rfl

theorem zeroTile (t : Tmm) : Act.Keeps P (zeroTile t) :=
  .bind (.amxBegin _) fun _ => .bind .tileDataEnabled fun _ => .getBind fun _ h => .bind (.need _ _) fun _ =>
    .set (hP.congr h rfl)

theorem readRow (m : MemOp) (i n : Nat) : Act.Keeps P (readRow m i n) :=
  .bind (.modify fun _ h => hP.congr h rfl) fun _ => .getBind fun _ _ => .bind (hP.memRead _ _ _ _) fun _ => .pure _

theorem loadRows (t : Tmm) (m : MemOp) (nbytes n i : Nat) : Act.Keeps P (loadRows t m nbytes n i) := by
  induction n generalizing i with
  | zero => exact .pure _
  | succ n ih =>
    exact .bind (hP.readRow m i nbytes) fun _ => .bind (.modify fun _ h => hP.congr h rfl) fun _ => ih (i + 1)

theorem tileLoad (ok : Cfg → Bool) (t : Tmm) (m : MemOp) : Act.Keeps P (tileLoad ok t m) :=
  .bind (.amxBegin ok) fun _ => .bind .tileDataEnabled fun _ => .getBind fun _ _ => .bind (.need _ _) fun _ =>
    .bind (.modify fun _ h => hP.congr h rfl) fun _ => .bind (hP.loadRows _ _ _ _ _) fun _ => hP.zeroStartRow

theorem storeRows (t : Tmm) (m : MemOp) (nbytes n i : Nat) : Act.Keeps P (storeRows t m nbytes n i) := by
  induction n generalizing i with
  | zero => exact .pure _
  | succ n ih =>
    exact .bind (.modify fun _ h => hP.congr h rfl) fun _ => .getBind fun _ _ =>
      .bind (hP.memWrite _ _ _ _) fun _ => ih (i + 1)

theorem tileStore (m : MemOp) (t : Tmm) : Act.Keeps P (tileStore m t) :=
  .bind (.amxBegin _) fun _ => .bind .tileDataEnabled fun _ => .getBind fun _ _ => .bind (.need _ _) fun _ =>
    .bind (hP.storeRows _ _ _ _ _) fun _ => hP.zeroStartRow

theorem pairRead (m : MemOp) (i limit nbytes : Nat) : Act.Keeps P (pairRead m i limit nbytes) :=
  .ite (hP.readRow m i nbytes) (.pure _)

theorem pairRows (a b : Tmm) (m : MemOp) (limit n i : Nat) : Act.Keeps P (pairRows a b m limit n i) := by
  induction n generalizing i with
  | zero => exact .pure _
  | succ n ih =>
    exact .getBind fun _ _ => .bind (hP.pairRead _ _ _ _) fun _ =>
      .bind (.modify fun _ h =>
        hP.congr h ((State.stores_pairRow _ b i _ _).trans (State.stores_pairRow _ a i 0 _))) fun _ => ih (i + 1)

theorem pairLoad (ok : Cfg → Bool) (pad : Nat) (t : Tmm) (m : MemOp) : Act.Keeps P (pairLoad ok pad t m) :=
  .bind (.amxBegin ok) fun _ => .bind .tileDataEnabled fun _ => .getBind fun _ _ => .bind (.need _ _) fun _ =>
    .bind (.modify fun _ h =>
      hP.congr h ((State.stores_pairPrologue _ _ _).trans (State.stores_pairPrologue _ _ _))) fun _ =>
      .bind (hP.pairRows _ _ _ _ _ _) fun _ => hP.zeroStartRow

/-! ### Instructions -/

/-- Every instruction of the table keeps the invariant. -/
theorem exec (i : Instr) {s t : State} (ht : exec i s = .next t) (h : P s) : P t := by
  cases i with
  | cpuid => exact hP.settle (.modify fun _ h => hP.cpuidEffect h) ht h
  | aadd sz m r | aand sz m r | aor sz m r | axor sz m r => exact hP.settle (hP.raoPost _ sz m r) ht h
  | movrsB d m => exact hP.settle (hP.movrsByte d m) ht h
  | movrsV sz d m => exact hP.settle (hP.movrsWide sz d m) ht h
  | vmovrsB128 d k z m | vmovrsB256 d k z m | vmovrsB512 d k z m | vmovrsW128 d k z m | vmovrsW256 d k z m
  | vmovrsW512 d k z m | vmovrsD128 d k z m | vmovrsD256 d k z m | vmovrsD512 d k z m | vmovrsQ128 d k z m
  | vmovrsQ256 d k z m | vmovrsQ512 d k z m => exact hP.settle (hP.vmovrs _ _ d k z m) ht h
  | prefetchrst2 m => exact hP.settle (.pure ()) ht h
  | pbndkb => exact hP.settle hP.bindKey ht h
  | pconfig => exact hP.settle hP.configure ht h
  | rdmsr => exact hP.settle hP.readMsrImplicit ht h
  | rdmsrImm d imm | rdmsrImmApx d imm => exact hP.settle (hP.readMsrImm _ d imm) ht h
  | urdmsr d a | urdmsrImm d a => exact hP.settle (hP.userRead d _) ht h
  | uwrmsr a v | uwrmsrImm a v => exact hP.settle (hP.userWrite _ v) ht h
  | wrmsrns => exact hP.settle hP.writeMsrImplicit ht h
  | wrmsrnsImm imm v | wrmsrnsImmApx imm v => exact hP.settle (hP.writeMsrImm _ imm v) ht h
  | mwait => exact hP.settle hP.waitOnMonitor ht h
  | monitor seg asz => exact hP.settle (hP.armMonitor seg asz) ht h
  | vsm4Key4Vex128 d a b | vsm4Key4Vex256 d a b | vsm4Key4Evex128 d a b | vsm4Key4Evex256 d a b
  | vsm4Key4Evex512 d a b | vsm4Rnds4Vex128 d a b | vsm4Rnds4Vex256 d a b | vsm4Rnds4Evex128 d a b
  | vsm4Rnds4Evex256 d a b | vsm4Rnds4Evex512 d a b => exact hP.settle (hP.sm4 _ _ _ d a b) ht h
  | ldtilecfg m => exact hP.settle (hP.loadTileConfig m) ht h
  | sttilecfg m => exact hP.settle (hP.storeTileConfig m) ht h
  | tilerelease => exact hP.settle hP.releaseTileConfig ht h
  | tilezero t => exact hP.settle (hP.zeroTile t) ht h
  | tileloadd t m | tileloaddT1 t m | tileloaddrs t m | tileloaddrsT1 t m => exact hP.settle (hP.tileLoad _ t m) ht h
  | tilestored m t => exact hP.settle (hP.tileStore m t) ht h
  | t2rpntlvwZ0 t m | t2rpntlvwZ0T1 t m | t2rpntlvwZ1 t m | t2rpntlvwZ1T1 t m | t2rpntlvwZ0RS t m
  | t2rpntlvwZ0RST1 t m | t2rpntlvwZ1RS t m | t2rpntlvwZ1RST1 t m => exact hP.settle (hP.pairLoad _ _ t m) ht h
  | tcmmimfp16ps d a b | tcmmrlfp16ps d a b | tdpbf8ps d a b | tdpbhf8ps d a b | tdphbf8ps d a b | tdphf8ps d a b
  | tmmultf32ps d a b => exact hP.settle (hP.tmul _ _ d a b) ht h
  | tconjtcmmimfp16ps d a b | ttcmmimfp16ps d a b | ttcmmrlfp16ps d a b | ttdpbf16ps d a b | ttdpfp16ps d a b
  | ttmmultf32ps d a b => exact hP.settle (hP.tmulTransposed _ _ d a b) ht h
  | tconjtfp16 d a | ttransposed d a => exact hP.settle (hP.tileTranspose _ _ d a) ht h
  | tcvtrowd2psR d t r | tcvtrowd2psI d t r | tcvtrowps2pbf16hR d t r | tcvtrowps2pbf16hI d t r
  | tcvtrowps2pbf16lR d t r | tcvtrowps2pbf16lI d t r | tcvtrowps2phhR d t r | tcvtrowps2phhI d t r
  | tcvtrowps2phlR d t r | tcvtrowps2phlI d t r | tilemovrowR d t r | tilemovrowI d t r =>
    exact hP.settle (hP.rowToZmm _ d t _) ht h

theorem baseMovzx (d : Gpr) (m : MemOp) : Act.Keeps P (baseMovzx d m) :=
  .bind (hP.loadOp m 1 false) fun _ => .modify fun _ h => hP.congr h rfl

theorem baseJnz (rel : Byte) : Act.Keeps P (baseJnz rel) :=
  .getBind fun s h => .ite (.set (hP.congr h s.stores_sendTnt))
    (.bind (.need _ _) fun _ => .set (hP.congr h s.stores_sendTnt))

theorem baseAct (i : BaseInstr) : Act.Keeps P (baseAct i) := by
  cases i with
  | movImm d imm | xorReg d r | inc d | dec d => exact .modify fun _ h => hP.congr h rfl
  | movzx d m => exact hP.baseMovzx d m
  | jnz rel => exact hP.baseJnz rel
  | sfence => exact .modify fun _ h => hP.raoDrain h
  | reservedNop => exact .pure ()

/-- Every base instruction keeps the invariant. -/
theorem execBase (i : BaseInstr) {s t : State} (ht : execBase i s = .next t) (h : P s) : P t :=
  hP.settle (hP.baseAct i) ht h

/-! ### The boundary after an instruction -/

theorem countOne {s : State} (r : CountReport) (c : Nat) (h : P s) : P (countOne s r c).1 := by
  have hv := hP.setMsr (counterAddr c)
    (BitVec.ofNat 64 (((s.msrVal (counterAddr c)).toNat + Config.pmcIncrement c s.draws) % 2 ^ counterWidth s.cfg c)) h
  unfold Machine.countOne
  dsimp only
  split <;> split
  · exact hP.congr (hP.setMsr 0x38E _ (hP.congr hv rfl)) rfl
  · exact hP.setMsr 0x38E _ (hP.congr hv rfl)
  · exact hP.congr hv rfl
  · exact hP.congr hv rfl

theorem countAll (pre : State) {s : State} (h : P s) : P (countAll pre s).1 := by
  unfold Machine.countAll
  split
  · exact h
  · exact List.foldlRecOn (motive := fun p : State × CountReport => P p.1) _ _ h fun p hp c _ => hP.countOne p.2 c hp

theorem triggerAction {s : State} (f : BitVec 16) (h : P s) : P (triggerAction s f) := by
  unfold Machine.triggerAction
  dsimp only
  split
  · exact h
  · exact hP.setMsr _ _ h

theorem runTriggers (pre : State) {s : State} (r : CountReport) (h : P s) : P (runTriggers pre s r) := by
  have ht : P { s with pt := s.pt.retired } := hP.congr h rfl
  unfold Machine.runTriggers
  dsimp only
  split
  · split
    · exact ht
    · exact hP.drawn 1 (List.foldlRecOn _ _ (hP.congr ht (State.stores_emitTrig pre _ _))
        fun _ hp f _ => hP.triggerAction f hp)
  · exact ht

theorem writeRecordByte {s : State} (a : Nat) (b : Byte) (h : P s) : P (writeRecordByte s a b) :=
  iteInduction (fun _ => h) fun _ => hP.store _ _ (hP.raoForce _ h)

theorem writeRecord {s : State} (a : Nat) (r : Rec) (h : P s) : P (writeRecord s a r) := by
  induction r generalizing s a with
  | nil => exact h
  | cons x r ih =>
    cases x with
    | none => exact ih (a + 1) h
    | some b => exact ih (a + 1) (hP.writeRecordByte a b h)

theorem afterRecord {s : State} (c size : Nat) (h : P s) : P (afterRecord s c size) := by
  have hi := fun v => hP.setMsr 0x3F5 v h
  unfold Machine.afterRecord
  dsimp only
  refine hP.setMsr _ _ ?_
  split <;> split
  · exact hP.setMsr _ _ (hP.congr (hP.setMsr 0x38E _ (hi _)) rfl)
  · exact hP.setMsr _ _ (hi _)
  · exact hP.congr (hP.setMsr 0x38E _ (hi _)) rfl
  · exact hi _

theorem sampleOne (pre : State) (touched : List W64) {s : State} (c : Nat) (h : P s) :
    P (sampleOne pre touched s c) := by
  unfold Machine.sampleOne
  dsimp only
  split
  · split <;> exact hP.congr h rfl
  · split
    · exact hP.setMsr _ _ (hP.congr h rfl)
    · exact hP.drawn 1 (hP.afterRecord _ _ (hP.writeRecord _ _ (hP.congr h rfl)))

theorem runPebs (pre : State) (touched : List W64) {s : State} (h : P s) : P (runPebs pre touched s) := by
  unfold Machine.runPebs
  split_ifs
  · exact h
  · exact h
  · exact hP.congr h rfl
  · exact List.foldlRecOn _ _ h fun _ hp c _ => hP.sampleOne pre touched c hp

theorem retire (touched : List W64) (pre : State) {s : State} (h : P s) : P (retire touched pre s) :=
  have hc : P ((Machine.countAll pre s).1.baseIndication pre) :=
    hP.congr (hP.countAll pre h) (State.stores_baseIndication _ pre)
  hP.runPebs pre touched (hP.congr (hP.runTriggers pre _ hc) (State.stores_pauseIndication _ _))

theorem finish (touched : List W64) (pre : State) {s : State} (h : P s) : P (finish touched pre s) := by
  unfold Machine.finish
  dsimp only
  split
  · exact hP.congr (hP.retire touched pre h) rfl
  · exact hP.congr h rfl

/-! ### Timer events -/

theorem aex {s : State} (h : P s) : P s.aex :=
  iteInduction (fun _ => hP.runPebs _ _ (hP.congr h rfl)) fun _ => hP.congr h rfl

theorem userTimerEffect {s : State} (h : P s) : P s.userTimerEffect := by
  unfold State.userTimerEffect
  dsimp only
  split <;> exact hP.congr (hP.setMsr 0x1B00 0 h) rfl

theorem processUserTimer {s : State} (h : P s) : P s.processUserTimer :=
  have ht : P s.wake.aex.userTimerEffect := hP.userTimerEffect (hP.aex (hP.congr h rfl))
  iteInduction (fun _ => hP.tsxAbort ht) fun _ => ht

theorem guestTimerEffect {s : State} (h : P s) : P s.guestTimerEffect :=
  hP.congr (hP.store [s.virrByte s.timerVector]
    [setBitTo (readByte (s.raoForce [s.virrByte s.timerVector]).mem (s.virrByte s.timerVector)) (s.timerVector % 8) true]
    (hP.raoForce _ h)) rfl

theorem processGuestTimer {s : State} (h : P s) : P s.processGuestTimer :=
  have ht : P s.wake.aex.guestTimerEffect := hP.guestTimerEffect (hP.aex (hP.congr h rfl))
  iteInduction (fun _ => hP.tsxAbort (hP.drawn 1 ht)) fun _ => iteInduction (fun _ => hP.drawn 1 ht) fun _ => ht

/-! ### The step -/

theorem stepFetch {s t : State} (ht : stepFetch s = .next t) (h : P s) : P t := by
  have hn : ∀ n, P { s with ilen := n } := fun n => hP.congr h rfl
  obtain ⟨i, n, v, _, hv, rfl⟩ | ⟨i, n, v, _, hv, rfl⟩ | ⟨e, _, rfl⟩ := stepFetch_next s ht
  · exact hP.finish _ _ (hP.exec i hv (hn n))
  · exact hP.finish _ _ (hP.execBase i hv (hn n))
  · exact hP.tick (hP.takeTrap e h)

/-- Every step keeps an invariant of the stores. -/
theorem step {s t : State} (ht : step s = .next t) (h : P s) : P t := by
  have hr : P s.raoStep := hP.raoStep h
  obtain ⟨_, ⟨_, rfl⟩ | ⟨_, _, rfl⟩ | ⟨_, hf⟩ | ⟨_, rfl⟩⟩ := step_next s ht
  · exact hP.tick (hP.processGuestTimer hr)
  · exact hP.tick (hP.processUserTimer hr)
  · exact hP.stepFetch hf hr
  · exact hP.tick hr

end

end StoreInvariant

end Sys2Proof.Machine

namespace Sys2Proof.Claims

open Sys2Proof.Machine

/-- Settles O10: having the configuration of `s` is an invariant of the stores (R10). -/
theorem stepKeepsConfiguration : Obligations.StepKeepsConfiguration :=
  fun s _ h => (storeInvariant_cfg s.cfg).step h rfl

end Sys2Proof.Claims

/-! ## What a step does where it runs no instruction of the table -/

namespace Sys2Proof.Machine

/-! ### Where the bytes of a fetch end (R170) -/

/-- A fetch answers all the bytes it was asked for, or ends at the first place whose address cannot be fetched from,
with that place's trap. -/
theorem fetchBytes_end (s : State) (n k : Nat) :
    ((fetchBytes s n k).1.length = n ∧ (fetchBytes s n k).2 = none) ∨
    ((fetchBytes s n k).1.length < n ∧ ∃ e, fetchAddr s (k + (fetchBytes s n k).1.length) = .error e ∧
      (fetchBytes s n k).2 = some e) := by
  induction n generalizing k with
  | zero => exact .inl ⟨rfl, rfl⟩
  | succ n ih =>
    unfold fetchBytes
    cases ha : fetchAddr s k with
    | error e => exact .inr ⟨n.succ_pos, e, ha, rfl⟩
    | ok a =>
      obtain ⟨hlen, hnone⟩ | ⟨hlen, e, he, hsome⟩ := ih (k + 1)
      · exact .inl ⟨congrArg Nat.succ hlen, hnone⟩
      · refine .inr ⟨Nat.succ_lt_succ hlen, e, ?_, hsome⟩
        rw [← he, List.length_cons, Nat.add_assoc, Nat.add_comm 1]

/-! ### What a fetch finds -/

variable {s : State}

theorem fetch_of_decode_error {e : DecErr} (h : decode s.decMode (fetchBytes s 15 0).1 = .error e)
    (he : e ≠ .outside) : fetch s = fetchedErr s (fetchBytes s 15 0).2 e := by
  unfold fetch decodeFetched
  rw [h]
  cases e with
  | outside => exact absurd rfl he
  | ud | more => rfl

theorem fetch_of_decodeBase_error {e : DecErr} (h : decode s.decMode (fetchBytes s 15 0).1 = .error .outside)
    (hb : decodeBase s.decMode (fetchBytes s 15 0).1 = .error e) :
    fetch s = fetchedErr s (fetchBytes s 15 0).2 e := by
  unfold fetch decodeFetched
  rw [h]
  dsimp only
  rw [hb]

theorem fetch_of_decodeBase_ok {i : BaseInstr} {n : Nat}
    (h : decode s.decMode (fetchBytes s 15 0).1 = .error .outside)
    (hb : decodeBase s.decMode (fetchBytes s 15 0).1 = .ok (i, n)) : fetch s = .base i n := by
  unfold fetch decodeFetched
  rw [h]
  dsimp only
  rw [hb]

/-! ### The step at an instruction boundary -/

theorem stepFetch_of_trap {e : Trap} (h : fetch s = .trap e) : stepFetch s = .next (s.takeTrap e).tick := by
  unfold stepFetch; rw [h]

theorem stepFetch_of_outside (h : fetch s = .outside) : stepFetch s = .refused .baseArchitecture := by
  unfold stepFetch; rw [h]

/-- A base instruction never faults and is never refused. -/
theorem execBase_next (i : BaseInstr) (s : State) : ∃ t, execBase i s = .next t := by
  obtain ⟨t, _, h⟩ | ⟨e, t, _, h⟩ := settle_run (baseAct i) s
  · exact ⟨t.advance, h⟩
  · exact ⟨t.takeTrap e, h⟩

theorem stepFetch_of_base {i : BaseInstr} {n : Nat} (h : fetch s = .base i n) :
    ∃ t, execBase i { s with ilen := n } = .next t ∧
      stepFetch s = .next (finish (i.accessed { s with ilen := n }) s t) := by
  obtain ⟨t, ht⟩ := execBase_next i { s with ilen := n }
  refine ⟨t, ht, ?_⟩
  unfold stepFetch
  rw [h]
  dsimp only [stepBase]
  rw [ht]
  rfl

/-- An incomplete instruction (R124, R170): #GP(0) where there are fifteen bytes, else the trap of the fetch that ended
them. -/
theorem stepFetch_of_more (h : fetch s = fetchedErr s (fetchBytes s 15 0).2 .more) :
    ((fetchBytes s 15 0).1.length = 15 → stepFetch s = .next (s.takeTrap (gpTrap s)).tick) ∧
    ((fetchBytes s 15 0).1.length < 15 → ∃ e, fetchAddr s (fetchBytes s 15 0).1.length = .error e ∧
      stepFetch s = .next (s.takeTrap e).tick) := by
  obtain ⟨hlen, hnone⟩ | ⟨hlen, e, he, hsome⟩ := fetchBytes_end s 15 0
  · rw [hnone] at h
    exact ⟨fun _ => stepFetch_of_trap h, fun hlt => absurd hlen hlt.ne⟩
  · rw [hsome] at h
    rw [Nat.zero_add] at he
    exact ⟨fun heq => absurd heq hlen.ne, fun _ => ⟨e, he, stepFetch_of_trap h⟩⟩

/-! ### The whole step -/

@[simp] theorem State.decMode_raoStep (s : State) : s.raoStep.decMode = s.decMode := by
  simp [State.decMode, State.is64, State.mode]

@[simp] theorem gpTrap_raoStep (s : State) : gpTrap s.raoStep = gpTrap s := by
  simp [gpTrap, State.mode]

theorem step_of_active (hd : s.delivered = none) (hg : s.raoStep.guestTimerDue = false)
    (hu : s.raoStep.userTimerDue = false) (ha : s.ctx.activity = .active) : step s = stepFetch s.raoStep := by
  simp [step, stepActive, hd, hg, hu, ha]

theorem step_of_waiting (hd : s.delivered = none) (hg : s.raoStep.guestTimerDue = false)
    (hu : s.raoStep.userTimerDue = false) (ha : s.ctx.activity ≠ .active) : step s = .next s.raoStep.tick := by
  simp [step, stepActive, hd, hg, hu, ha]

theorem step_of_delivered {d : Delivered} (hd : s.delivered = some d) : step s = .fault .delivered := by
  unfold step; rw [hd]

end Sys2Proof.Machine

namespace Sys2Proof.Claims

open Sys2Proof.Machine

/-- Settles O7, by what the fetch finds in the state in which the posted updates of the boundary are performed. -/
theorem stepStops : Obligations.StepStops := by
  refine ⟨fun s hd hg hu => ⟨fun ha => ?_, step_of_waiting hd hg hu⟩, fun _ _ => step_of_delivered⟩
  rw [step_of_active hd hg hu ha, ← s.decMode_raoStep, ← gpTrap_raoStep s]
  refine ⟨fun h => ?_, fun h => ?_, fun h => ⟨fun hb => ?_, fun hb => ?_, fun hb => ?_, fun i n hb => ?_⟩⟩
  · exact stepFetch_of_trap (fetch_of_decode_error h (by decide))
  · exact stepFetch_of_more (fetch_of_decode_error h (by decide))
  · exact stepFetch_of_outside (fetch_of_decodeBase_error h hb)
  · exact stepFetch_of_trap (fetch_of_decodeBase_error h hb)
  · exact stepFetch_of_more (fetch_of_decodeBase_error h hb)
  · exact stepFetch_of_base (fetch_of_decodeBase_ok h hb)

end Sys2Proof.Claims

/-! ## What an instruction may change

The frames of the whole machine. A property of the state that every change which instruction `i` may make keeps is kept
by `exec i`: proved once, along the structure of the instructions' actions, for any such property. -/

namespace Sys2Proof.Machine

/-! ### Properties kept up to the end of an instruction -/

/-- What an action leaves to the instruction: the state it completes in, or the state in which its trap has been taken.
Unlike `Act.final` it tells which trap was taken, so that a transaction abort can be excluded outside a transaction. -/
def Act.outcome {α : Type} (a : Act α) (s : State) : State :=
  match a s with
  | .ok _ t => t
  | .error e t => t.takeTrap e

/-- An action keeps a property of the state, and so does the trap that it stops with. -/
def Act.Preserves {α : Type} (P : State → Prop) (a : Act α) : Prop := ∀ s, P s → P (Act.outcome a s)

namespace Act.Preserves

variable {α β : Type} {P : State → Prop}

theorem pure (a : α) : Act.Preserves P (pure a : Act α) := fun _ h => h

theorem throw {e : Trap} (h : ∀ s, P s → P (s.takeTrap e)) : Act.Preserves P (throw e : Act α) := h

theorem set {t : State} (h : P t) : Act.Preserves P (set t : Act Unit) := fun _ _ => h

theorem modify {f : State → State} (h : ∀ s, P s → P (f s)) : Act.Preserves P (modify f : Act Unit) := h

theorem bind {x : Act α} {f : α → Act β} (hx : Act.Preserves P x) (hf : ∀ a, Act.Preserves P (f a)) :
    Act.Preserves P (x >>= f) := by
  intro s h
  have hs := hx s h
  simp only [Act.outcome, Act.bind_run] at hs ⊢
  cases hr : x s with
  | ok a t => rw [hr] at hs; exact hf a t hs
  | error e t => rw [hr] at hs; exact hs

/-- After reading the state, what the rest of the action makes of it may rely on the property. -/
theorem getBind {f : State → Act β} (hf : ∀ s, P s → Act.Preserves P (f s)) : Act.Preserves P (get >>= f) :=
  fun s h => hf s h s h

theorem ite {c : Prop} [Decidable c] {x y : Act α} (hx : Act.Preserves P x) (hy : Act.Preserves P y) :
    Act.Preserves P (if c then x else y) := iteInduction (fun _ => hx) fun _ => hy

theorem need {c : Bool} {e : Trap} (h : c = false → ∀ s, P s → P (s.takeTrap e)) :
    Act.Preserves P (need c e) := by
  cases c with
  | true => exact pure ()
  | false => exact throw (h rfl)

/-- A pure stage: the traps that it can stop with keep the property. -/
theorem liftE {x : Except Trap α} (h : ∀ e, x = .error e → ∀ s, P s → P (s.takeTrap e)) :
    Act.Preserves P (liftE x) :=
  match x, h with
  | .ok a, _ => pure a
  | .error e, h => throw (h e rfl)

/-- An instruction ends with RIP advanced or with its trap taken. -/
theorem settle {a : Act Unit} (ha : Act.Preserves P a) (hadv : ∀ s, P s → P s.advance) {s t : State}
    (ht : settle a s = .next t) (h : P s) : P t := by
  have hs := ha s h
  obtain ⟨u, hu, he⟩ | ⟨e, u, hu, he⟩ := settle_run a s <;> rw [he] at ht <;> cases ht <;>
    simp only [Act.outcome, hu] at hs
  · exact hadv u hs
  · exact hs

end Act.Preserves

/-! ### Checks never abort a transaction -/

/-- The stage stops with no transaction abort. -/
def NoAbort {α : Type} (x : Except Trap α) : Prop := x ≠ .error .abort

namespace NoAbort

variable {α β : Type}

theorem ok (a : α) : NoAbort (.ok a : Except Trap α) := nofun

theorem error {e : Trap} (h : e ≠ .abort) : NoAbort (.error e : Except Trap α) :=
  fun he => h (Except.error.inj he)

theorem bind {x : Except Trap α} {f : α → Except Trap β} (hx : NoAbort x) (hf : ∀ a, NoAbort (f a)) :
    NoAbort (x >>= f) := by
  cases x with
  | ok a => exact hf a
  | error e => exact error fun he => hx (congrArg Except.error he)

theorem ite {c : Prop} [Decidable c] {x y : Except Trap α} (hx : NoAbort x) (hy : NoAbort y) :
    NoAbort (if c then x else y) := iteInduction (fun _ => hx) fun _ => hy

theorem gp (s : State) : NoAbort (.error (gpTrap s) : Except Trap α) := error nofun

theorem ac : NoAbort (.error acTrap : Except Trap α) := error nofun

theorem seg (s : State) (g : Seg) : NoAbort (.error (segTrap s g) : Except Trap α) :=
  error (by unfold segTrap; split <;> nofun)

theorem checkLinear (s : State) (g : Seg) (off : W64) (n : Nat) (write : Bool) :
    NoAbort (checkLinear s g off n write) :=
  .ite (.ite (.ok _) (.seg s g))
    (.ite (.seg s g) (.ite (.gp s) (.ite (.seg s g) (.ite (.gp s) (.ok _)))))

theorem translate (s : State) (la : W64) (k : Access) (sup : Bool) : NoAbort (translate s la k sup) := by
  unfold Machine.translate
  refine .ite (.ok _) ?_
  split
  · exact .ok _
  · exact .ite (.ok _) (.error nofun)

theorem translateBytes (s : State) (k : Access) (sup : Bool) (n : Nat) (la : W64) :
    NoAbort (translateBytes s k sup n la) := by
  induction n generalizing la with
  | zero => exact .ok _
  | succ n ih => exact .bind (.translate s la k sup) fun _ => .bind (ih _) fun _ => .ok _

theorem accessBytes (s : State) (g : Seg) (off : W64) (n : Nat) (k : Access) (ac : Bool) :
    NoAbort (accessBytes s g off n k ac) :=
  .bind (.checkLinear s g off n _) fun _ => .ite .ac (.translateBytes s k false n _)

theorem checkElems (s : State) (g : Seg) (off : W64) (eb : Nat) (l : List Nat) :
    NoAbort (checkElems s g off eb l) := by
  induction l with
  | nil => exact .ok _
  | cons j r ih => exact .bind (.checkLinear s g _ eb false) fun _ => ih

theorem translateElems (s : State) (la : W64) (eb : Nat) (l : List Nat) :
    NoAbort (translateElems s la eb l) := by
  induction l with
  | nil => exact .ok _
  | cons j r ih => exact .bind (.translateBytes s _ _ eb _) fun _ => .bind ih fun _ => .ok _

theorem vectorAccess (s : State) (g : Seg) (off : W64) (eb n : Nat) (l : List Nat) :
    NoAbort (vectorAccess s g off eb n l) :=
  .bind (.checkElems s g off eb l) fun _ => .ite .ac (.translateElems s _ eb l)

theorem raoCheck (s : State) (m : MemOp) (n : Nat) : NoAbort (raoCheck s m n) :=
  .bind (.checkLinear s _ _ n true) fun _ => .ite (.gp s)
    (.bind (.translateBytes s _ _ n _) fun _ => .ite (.ok _) (.gp s))

end NoAbort

/-! ### What an MSR write may change -/

/-- The state that a program computes in: general registers, flags, vector registers, tiles, and whether a transaction is
open. -/
def State.program (s : State) : Gprs × W64 × VecState × Amx × Bool := (s.gpr, s.rflags, s.vec, s.amx, s.ctx.tsx)

/-- The state that privileged software keeps: system registers, MSRs, UIRR and the key tables. -/
def State.privileged (s : State) : Sys × Store W64 × W64 × Store KeySlot × Store KeySlot :=
  (s.sys, s.msr, s.uirr, s.tmemk, s.tse)

/-- What the operating mode is computed from besides the flags (R34): of IA32_EFER the bit LMA, which no write changes. -/
def State.modeBits (s : State) : W64 × Bool × Bool × Bool := (s.sys.cr0, s.sys.csL, s.sys.csD, bitAt s.sys.efer 10)

/-- The state that no MSR stands for: a program's state, memory with its posted updates and its monitor, and where the
program is and in which mode. -/
def State.besidesMsr (s : State) :
    (Gprs × W64 × VecState × Amx × Ctx) × (Store Byte × List RaoEntry × Monitor) × (W64 × Option Delivered × Nat) ×
      (W64 × Bool × Bool × Bool) :=
  ((s.gpr, s.rflags, s.vec, s.amx, s.ctx), (s.mem, s.rao, s.monitor), (s.rip, s.delivered, s.ilen), s.modeBits)

/-- `t` is `s` but for what MSR `a` stands for, and IA32_PERF_GLOBAL_STATUS, which has write ports (R60). -/
def State.MsrFrame (s : State) (a : Nat) (t : State) : Prop :=
  t.besidesMsr = s.besidesMsr ∧ ∀ b, b ≠ a → b ≠ 0x38E → t.msrVal b = s.msrVal b

theorem State.MsrFrame.of_msr_eq {s t : State} {a : Nat} (h : t.besidesMsr = s.besidesMsr) (hm : t.msr = s.msr) :
    s.MsrFrame a t :=
  ⟨h, fun b _ _ => congrArg (Store.get 0 · b) hm⟩

theorem State.MsrFrame.of_msr_put {s t : State} {a x : Nat} {w : W64} (hx : a = x ∨ x = 0x38E)
    (h : t.besidesMsr = s.besidesMsr) (hm : t.msr = (s.setMsr x w).msr) : s.MsrFrame a t := by
  refine ⟨h, fun b hba hbs => ?_⟩
  have hbx : b ≠ x := by rintro rfl; exact hx.elim (fun e => hba e.symm) hbs
  calc t.msrVal b = (s.setMsr x w).msrVal b := congrArg (Store.get 0 · b) hm
    _ = s.msrVal b := by rw [State.msrVal_setMsr, if_neg hbx]

theorem State.msrFrame_writeUserTimer (s : State) (v : W64) : s.MsrFrame 0x1B00 (s.writeUserTimer v) :=
  iteInduction (fun _ => .of_msr_put (.inl rfl) rfl rfl) fun _ => .of_msr_put (.inl rfl) rfl rfl

theorem State.msrFrame_writeTscDeadline (s : State) (v : W64) : s.MsrFrame 0x6E0 (s.writeTscDeadline v) :=
  iteInduction (fun _ => .of_msr_eq rfl rfl) fun _ => .of_msr_put (.inl rfl) rfl rfl

theorem State.msrFrame_writeEfer (s : State) (v : W64) :
    s.MsrFrame 0xC0000080 { s with sys := { s.sys with efer := setBitTo v 10 (bitAt s.sys.efer 10) } } :=
  .of_msr_eq (by simp [State.besidesMsr, State.modeBits, bitAt_setBitTo]) rfl

/-- A permitted MSR write changes what its MSR stands for (R44, R500); nothing posted is performed (R133, R522). -/
theorem State.msrFrame_msrStore (s : State) (a : Nat) (v : W64) : s.MsrFrame a (msrStore s a v) :=
  iteInduction (fun _ => .of_msr_eq rfl rfl) fun _ =>
  iteInduction (fun h => .of_msr_put (.inl h) rfl rfl) fun _ =>
  iteInduction (fun _ => .of_msr_put (.inr rfl) rfl rfl) fun _ =>
  iteInduction (fun _ => .of_msr_put (.inr rfl) rfl rfl) fun _ =>
  iteInduction (fun h => .of_msr_put (.inl h) rfl rfl) fun _ =>
  iteInduction (fun h => .of_msr_put (.inl h) rfl rfl) fun _ =>
  iteInduction (fun h => h ▸ s.msrFrame_writeTscDeadline v) fun _ =>
  iteInduction (fun h => .of_msr_put (.inl h) rfl rfl) fun _ =>
  iteInduction (fun _ => .of_msr_eq rfl rfl) fun _ =>
  iteInduction (fun h => h ▸ s.msrFrame_writeUserTimer v) fun _ =>
  iteInduction (fun h => h ▸ s.msrFrame_writeEfer v) fun _ =>
  iteInduction (fun _ => .of_msr_eq rfl rfl) fun _ =>
  iteInduction (fun _ => .of_msr_eq rfl rfl) fun _ => .of_msr_put (.inl rfl) rfl rfl

theorem State.program_msrStore (s : State) (a : Nat) (v : W64) : (msrStore s a v).program = s.program := by
  obtain ⟨h, -⟩ := s.msrFrame_msrStore a v
  simp only [State.besidesMsr, Prod.mk.injEq] at h
  simp [State.program, h]

/-- An MSR write leaves the address of the next instruction, also where it changes IA32_EFER. -/
theorem State.nextRip_msrStore (s : State) (a : Nat) (v : W64) : (msrStore s a v).nextRip = s.nextRip := by
  obtain ⟨h, -⟩ := s.msrFrame_msrStore a v
  simp only [State.besidesMsr, State.modeBits, Prod.mk.injEq] at h
  have hmode : (msrStore s a v).mode = s.mode := by simp only [State.mode, h]
  have his64 : (msrStore s a v).is64 = s.is64 := by simp only [State.is64, hmode]
  simp only [State.nextRip, his64, h]

/-! ### Properties that an instruction keeps -/

/-- A property of the state that every change which instruction `i` may make keeps: of general and vector registers those
to its destinations, of flags those of the key instructions, of tiles those of AMX, of system state those of the MSR
writes; and besides, what a trap changes. -/
structure InstrFrame (i : Instr) (P : State → Prop) : Prop where
  congr : ∀ {s t : State}, P s → t.program = s.program → t.privileged = s.privileged → P t
  setReg : ∀ {s : State} {g : Gpr} (v : W64), g ∈ gprDest i → P s → P (s.setReg g v)
  keyFlags : ∀ {s : State} (b : Bool), i = .pbndkb ∨ i = .pconfig → P s → P (s.keyFlags b)
  setZmm : ∀ {s : State} {r : VReg} (v : W512), zmmDest i = some r → P s → P (s.setZmm r v)
  setAmx : ∀ {s : State} (a : Amx), isAmx i = true → P s → P { s with amx := a }
  system : ∀ {s t : State}, writesMsr i = true → P s → t.program = s.program → P t
  setTmemk : ∀ {s : State} (k : Nat) (v : KeySlot), i = .pconfig → P s → P (s.setTmemk k v)
  setTse : ∀ {s : State} (k : Nat) (v : KeySlot), i = .pconfig → P s → P (s.setTse k v)
  setCr2 : ∀ {s : State} (v : W64), P s → P { s with sys := { s.sys with cr2 := v } }
  setXfdErr : ∀ {s : State} (v : W64), P s → P (s.setMsr 0x1C5 v)
  abort : ∀ {s t : State}, P s → s.ctx.tsx = true → P t → P t.tsxAbort

namespace InstrFrame

section

variable {i : Instr} {P : State → Prop} (hP : InstrFrame i P)
include hP

/-! ### Traps and checks -/

/-- A trap other than an abort changes CR2 or IA32_XFD_ERR at most. -/
theorem takeTrap {s : State} {e : Trap} (he : e ≠ .abort) (h : P s) : P (s.takeTrap e) := by
  cases e with
  | exn e code => exact hP.congr h rfl rfl
  | page la code => exact hP.congr (hP.setCr2 la h) rfl rfl
  | xfd => exact hP.congr (hP.setXfdErr _ h) rfl rfl
  | exit reason qual info => exact hP.congr h rfl rfl
  | abort => exact absurd rfl he

theorem throw {α : Type} {e : Trap} (he : e ≠ .abort := by nofun) : Act.Preserves P (throw e : Act α) :=
  .throw fun _ => hP.takeTrap he

theorem need {c : Bool} {e : Trap} (he : e ≠ .abort := by nofun) : Act.Preserves P (need c e) :=
  .need fun _ _ => hP.takeTrap he

theorem liftE {α : Type} {x : Except Trap α} (hx : NoAbort x) : Act.Preserves P (liftE x) :=
  .liftE fun _ hxe _ => hP.takeTrap fun he => hx (hxe.trans (congrArg Except.error he))

/-- Only inside a transaction does an instruction abort one. -/
theorem needOutside {s : State} (h : P s) : Act.Preserves P (Machine.need (!s.ctx.tsx) .abort) :=
  .need fun hc _ ht => hP.abort h (by simpa using hc) ht

theorem settle {a : Act Unit} (ha : Act.Preserves P a) {s t : State} (ht : settle a s = .next t) (h : P s) : P t :=
  ha.settle (fun _ h => hP.congr h rfl rfl) ht h

/-! ### Memory and posted updates -/

theorem raoForce {s : State} (fp : List Nat) (h : P s) : P (s.raoForce fp) :=
  hP.congr h (by unfold State.raoForce; split <;> rfl) (by unfold State.raoForce; split <;> rfl)

theorem loadPhys (as : List Nat) : Act.Preserves P (loadPhys as) := fun _ h => hP.raoForce as h

theorem storePhys (as : List Nat) (bs : List Byte) : Act.Preserves P (storePhys as bs) :=
  .modify fun _ h => hP.congr (hP.raoForce as h) rfl rfl

theorem memRead (seg : Seg) (off : W64) (n : Nat) (ac : Bool) : Act.Preserves P (memRead seg off n ac) :=
  .getBind fun _ _ => .bind (hP.liftE (.accessBytes _ _ _ _ _ _)) fun as => hP.loadPhys as

theorem memWrite (seg : Seg) (off : W64) (bs : List Byte) (ac : Bool) : Act.Preserves P (memWrite seg off bs ac) :=
  .getBind fun _ _ => .bind (hP.liftE (.accessBytes _ _ _ _ _ _)) fun as => hP.storePhys as bs

theorem loadOp (m : MemOp) (n : Nat) (ac : Bool) : Act.Preserves P (loadOp m n ac) :=
  .getBind fun _ _ => hP.memRead _ _ _ _

theorem storeOp (m : MemOp) (bs : List Byte) (ac : Bool) : Act.Preserves P (storeOp m bs ac) :=
  .getBind fun _ _ => hP.memWrite _ _ _ _

/-! ### CPUID, RAO, MOVRS and SM4 -/

theorem cpuidEffect (hg : ∀ g ∈ [Gpr.rax, .rbx, .rcx, .rdx], g ∈ gprDest i) (hw : writesMsr i = true) {s : State}
    (h : P s) : P (cpuidEffect s) :=
  have hs : P s.loadSignature.raoDrain := hP.system hw h rfl
  hP.setReg _ (hg .rdx (by decide)) (hP.setReg _ (hg .rcx (by decide))
    (hP.setReg _ (hg .rbx (by decide)) (hP.setReg _ (hg .rax (by decide)) hs)))

theorem raoPost (op : RaoOp) (sz : RaoSize) (m : MemOp) (r : Gpr) : Act.Preserves P (raoPost op sz m r) :=
  .getBind fun _ h => .bind hP.need fun _ => .bind (hP.liftE (.raoCheck _ m _)) fun _ =>
    .bind (hP.needOutside h) fun _ => .set (hP.congr h rfl rfl)

theorem setReg8 (d : Reg8) (v : Byte) (hd : byteRegFull d ∈ gprDest i) {s : State} (h : P s) : P (s.setReg8 d v) := by
  cases d with
  | low g | ah | ch | dh | bh => exact hP.setReg _ hd h

theorem setRegSized (sz : OpSize) {d : Gpr} (v : W64) (hd : d ∈ gprDest i) {s : State} (h : P s) :
    P (s.setRegSized sz d v) := by
  cases sz with
  | o16 | o32 | o64 => exact hP.setReg _ hd h

theorem movrsByte (d : Reg8) (m : MemOp) (hd : byteRegFull d ∈ gprDest i) : Act.Preserves P (movrsByte d m) :=
  .getBind fun _ _ => .bind hP.need fun _ => .bind (hP.loadOp m 1 true) fun _ => .modify fun _ h => hP.setReg8 d _ hd h

theorem movrsWide (sz : OpSize) (d : Gpr) (m : MemOp) (hd : d ∈ gprDest i) : Act.Preserves P (movrsWide sz d m) :=
  .getBind fun _ _ => .bind hP.need fun _ => .bind (hP.loadOp m _ true) fun _ =>
    .modify fun _ h => hP.setRegSized sz _ hd h

theorem vmovrs (e vl : Nat) (d : VReg) (k : KReg) (z : Bool) (m : MemOp) (hd : zmmDest i = some d) :
    Act.Preserves P (vmovrs e vl d k z m) :=
  .getBind fun _ _ => .bind hP.need fun _ => .bind hP.need fun _ =>
    .bind (hP.liftE (.vectorAccess _ _ _ _ _ _)) fun _ => .bind (.modify fun _ h => hP.raoForce _ h) fun _ =>
      .modify fun _ h => hP.setZmm _ hd h

theorem vecSrc (vl : Nat) (v : VecSrc) : Act.Preserves P (vecSrc vl v) := by
  cases v with
  | reg r => exact .getBind fun _ _ => .pure _
  | mem m => exact .bind (hP.loadOp m _ true) fun _ => .pure _

theorem sm4 (ok : State → Bool) (l : W32 → W32) (vl : Nat) (d s1 : VReg) (s2 : VecSrc) (hd : zmmDest i = some d) :
    Act.Preserves P (sm4 ok l vl d s1 s2) :=
  .getBind fun _ _ => .bind hP.need fun _ => .bind hP.need fun _ => .bind (hP.vecSrc vl s2) fun _ =>
    .modify fun _ h => hP.setZmm _ hd h

/-! ### PBNDKB and PCONFIG -/

theorem drawn {s : State} (n : Nat) (h : P s) : P (s.drawn n) := hP.congr h rfl rfl

theorem rng : Act.Preserves P rng := .getBind fun _ h => .bind (.set (hP.drawn 1 h)) fun _ => .pure _

theorem tryLock : Act.Preserves P tryLock := .getBind fun _ h => .bind (.set (hP.drawn 1 h)) fun _ => .pure _

theorem keyFailure (hi : i = .pbndkb) (reason : Nat) : Act.Preserves P (keyFailure reason) :=
  .modify fun _ h => hP.keyFlags true (.inl hi) (hP.setReg _ (by simp [hi, gprDest]) h)

theorem keySuccess (hi : i = .pbndkb) : Act.Preserves P keySuccess :=
  .modify fun _ h => hP.keyFlags false (.inl hi) (hP.setReg _ (by simp [hi, gprDest]) h)

theorem bindKeys (t : List Byte) : Act.Preserves P (bindKeys t) :=
  .ite (.bind hP.rng fun _ => .bind hP.rng fun _ => .ite (.pure _) (.pure _)) (.pure _)

theorem bindWrite (hi : i = .pbndkb) (out : W64) (t : List Byte) : Act.Preserves P (bindWrite out t) :=
  .bind (hP.bindKeys t) fun
    | none => hP.keyFailure hi 1
    | some _ => .bind hP.rng fun _ =>
      .ite (.bind (hP.memWrite _ _ _ _) fun _ => hP.keySuccess hi) (hP.keyFailure hi 1)

theorem bindKey (hi : i = .pbndkb) : Act.Preserves P bindKey := by
  refine .getBind fun s _ => .bind hP.need fun _ => .bind hP.need fun _ => .bind hP.need fun _ =>
    .bind hP.need fun _ => .bind (hP.memRead _ _ _ _) fun t => .bind hP.need fun _ => ?_
  cases platformFailure s with
  | none => exact hP.bindWrite hi _ t
  | some r => exact .bind (.modify fun _ h => hP.drawn 1 h) fun _ => hP.keyFailure hi _

theorem setPconfigRax (hi : i = .pconfig) {s : State} (v : Nat) (h : P s) : P (s.setPconfigRax v) :=
  have hg : Gpr.rax ∈ gprDest i := by simp [hi, gprDest]
  iteInduction (fun _ => hP.setReg _ hg h) fun _ => hP.setReg _ hg h

theorem pconfigFailure (hi : i = .pconfig) (reason : Nat) : Act.Preserves P (pconfigFailure reason) :=
  .modify fun _ h => hP.keyFlags true (.inr hi) (hP.setPconfigRax hi reason h)

theorem pconfigSuccess (hi : i = .pconfig) : Act.Preserves P pconfigSuccess :=
  .modify fun _ h => hP.keyFlags false (.inr hi) (hP.setPconfigRax hi 0 h)

theorem programTmemk (hi : i = .pconfig) (k : Nat) (v : KeySlot) :
    Act.Preserves P (do modify (·.setTmemk k v); Machine.pconfigSuccess) :=
  .bind (.modify fun _ h => hP.setTmemk k v hi h) fun _ => hP.pconfigSuccess hi

theorem programTse (hi : i = .pconfig) (k : Nat) (v : KeySlot) :
    Act.Preserves P (do modify (·.setTse k v); Machine.pconfigSuccess) :=
  .bind (.modify fun _ h => hP.setTse k v hi h) fun _ => hP.pconfigSuccess hi

theorem mktmeCommand (hi : i = .pconfig) (t : List Byte) : Act.Preserves P (mktmeCommand t) := by
  unfold Machine.mktmeCommand
  split
  · exact hP.programTmemk hi _ _
  · exact .bind hP.rng fun _ => .ite
      (.bind hP.rng fun _ => .ite (hP.programTmemk hi _ _) (hP.pconfigFailure hi 2)) (hP.pconfigFailure hi 2)
  · exact hP.programTmemk hi _ _
  · exact hP.programTmemk hi _ _

theorem mktmeProgram (hi : i = .pconfig) : Act.Preserves P mktmeProgram :=
  .getBind fun _ _ => .bind hP.need fun _ => .bind hP.need fun _ => .bind hP.need fun _ =>
    .bind (hP.memRead _ _ _ _) fun t => .bind hP.need fun _ => .bind hP.tryLock fun _ =>
      .ite (hP.mktmeCommand hi t) (hP.pconfigFailure hi 5)

theorem tseProgram (hi : i = .pconfig) : Act.Preserves P tseProgram :=
  .getBind fun _ _ => .bind hP.need fun _ => .bind hP.need fun _ => .bind hP.need fun _ =>
    .bind (hP.memRead _ _ _ _) fun _ => .bind hP.need fun _ => .bind hP.tryLock fun _ =>
      .ite (hP.programTse hi _ _) (hP.pconfigFailure hi 5)

theorem tseProgramWrapped (hi : i = .pconfig) : Act.Preserves P tseProgramWrapped :=
  .getBind fun _ _ => .bind hP.need fun _ => .bind hP.need fun _ => .bind (hP.memRead _ _ _ _) fun _ =>
    .bind hP.need fun _ => .ite
      (.bind hP.tryLock fun _ => .ite (hP.programTse hi _ _) (hP.pconfigFailure hi 5)) (hP.pconfigFailure hi 7)

theorem configure (hi : i = .pconfig) : Act.Preserves P configure := by
  refine .getBind fun s _ => .bind hP.need fun _ => ?_
  split
  · exact hP.mktmeProgram hi
  · exact hP.tseProgram hi
  · exact hP.tseProgramWrapped hi
  · exact hP.throw

/-! ### MSRs, MONITOR and MWAIT -/

theorem msrRead (a : Nat) : Act.Preserves P (msrRead a) :=
  .getBind fun _ h => .bind hP.need fun _ =>
    .bind (.set (iteInduction (fun _ => h) fun _ => hP.drawn 1 h)) fun _ => .pure _

theorem msrWrite (hw : writesMsr i = true) (a : Nat) (v : W64) : Act.Preserves P (msrWrite a v) :=
  .getBind fun s h => .bind hP.need fun _ => .set (hP.system hw h (s.program_msrStore _ v))

theorem msrExit {s : State} (a : Nat) (write : Bool) (q : W64) (h : P s) : Act.Preserves P (msrExit s a write q) :=
  .ite (.bind (.set (hP.drawn 1 h)) fun _ => hP.throw) (.pure _)

theorem userMsrBit (write : Bool) (a : Nat) : Act.Preserves P (userMsrBit write a) :=
  .getBind fun _ _ => .bind (hP.liftE (.translateBytes _ _ _ _ _)) fun as => .bind (hP.loadPhys as) fun _ => .pure _

theorem userMsrAllowed (write : Bool) (a : W64) : Act.Preserves P (userMsrAllowed write a) :=
  .getBind fun _ _ => .bind hP.need fun _ => .bind (hP.userMsrBit write _) fun _ => .getBind fun _ _ => hP.need

theorem userMsrExit (g : Gpr) (a : Nat) (write : Bool) : Act.Preserves P (userMsrExit g a write) :=
  .getBind fun _ h => .ite (.ite (.bind (.set (hP.drawn 1 h)) fun _ => hP.throw) hP.throw) (.pure _)

theorem readMsrImplicit (ha : .rax ∈ gprDest i) (hd : .rdx ∈ gprDest i) : Act.Preserves P readMsrImplicit :=
  .getBind fun _ h => .bind hP.need fun _ => .bind hP.need fun _ => .bind (hP.msrExit _ _ _ h) fun _ =>
    .bind (hP.msrRead _) fun _ => .modify fun _ h => hP.setReg _ hd (hP.setReg _ ha h)

theorem readMsrImm (apx : Bool) (d : Gpr) (imm : W32) (hd : d ∈ gprDest i) : Act.Preserves P (readMsrImm apx d imm) :=
  .getBind fun _ h => .bind hP.need fun _ => .bind hP.need fun _ => .bind (hP.msrExit _ _ _ h) fun _ =>
    .bind (hP.msrRead _) fun _ => .modify fun _ h => hP.setReg _ hd h

theorem writeMsrImplicit (hw : writesMsr i = true) : Act.Preserves P writeMsrImplicit :=
  .getBind fun _ h => .bind hP.need fun _ => .bind hP.need fun _ => .bind (hP.msrExit _ _ _ h) fun _ =>
    hP.msrWrite hw _ _

theorem writeMsrImm (apx : Bool) (imm : W32) (g : Gpr) (hw : writesMsr i = true) :
    Act.Preserves P (writeMsrImm apx imm g) :=
  .getBind fun _ h => .bind hP.need fun _ => .bind hP.need fun _ => .bind (hP.msrExit _ _ _ h) fun _ =>
    hP.msrWrite hw _ _

theorem userRead (d : Gpr) (a : W64) (hd : d ∈ gprDest i) : Act.Preserves P (userRead d a) :=
  .getBind fun _ _ => .bind hP.need fun _ => .bind (hP.userMsrAllowed false a) fun _ =>
    .getBind fun _ _ => .bind hP.need fun _ => .bind (hP.userMsrExit _ _ _) fun _ =>
      .bind (hP.msrRead _) fun _ => .modify fun _ h => hP.setReg _ hd h

theorem userWrite (a : W64) (g : Gpr) (hw : writesMsr i = true) : Act.Preserves P (userWrite a g) :=
  .getBind fun _ _ => .bind hP.need fun _ => .bind (hP.userMsrAllowed true a) fun _ =>
    .getBind fun _ _ => .bind hP.need fun _ => .bind hP.need fun _ => .bind (hP.userMsrExit _ _ _) fun _ =>
      hP.msrWrite hw _ _

theorem waitOnMonitor : Act.Preserves P waitOnMonitor :=
  .getBind fun _ h => .bind hP.need fun _ => .bind hP.need fun _ =>
    .set (iteInduction (fun _ => hP.congr h rfl rfl) fun _ => hP.congr h rfl rfl)

theorem armMonitor (seg : Option Seg) (asz : AddrSize) : Act.Preserves P (armMonitor seg asz) :=
  .getBind fun _ _ => .bind hP.need fun _ => .bind (hP.liftE (.accessBytes _ _ _ _ _ _)) fun as =>
    .bind (hP.loadPhys as) fun _ =>
      .modify fun _ h => iteInduction (fun _ => hP.congr h rfl rfl) fun _ => hP.congr h rfl rfl

/-! ### AMX -/

theorem amxBegin (ok : Cfg → Bool) : Act.Preserves P (amxBegin ok) :=
  .getBind fun _ h => .bind hP.need fun _ => hP.needOutside h

theorem tileDataEnabled : Act.Preserves P tileDataEnabled := .getBind fun _ _ => hP.need

section

variable (ha : isAmx i = true)
include ha

theorem zeroStartRow : Act.Preserves P zeroStartRow := .modify fun _ h => hP.setAmx _ ha h

theorem setResult {s : State} (c : Tmm) (f : Nat → Nat → W32) (h : P s) : P (s.setResult c f) :=
  hP.setAmx _ ha (hP.setAmx _ ha h)

theorem tmul (ok : Cfg → Bool) (op : ElemOp) (c a b : Tmm) : Act.Preserves P (tmul ok op c a b) :=
  .bind (hP.amxBegin ok) fun _ => .bind hP.tileDataEnabled fun _ => .getBind fun _ h => .bind hP.need fun _ =>
    .set (hP.setResult ha _ _ h)

theorem tmulTransposed (ok : Cfg → Bool) (op : ElemOp) (c a b : Tmm) : Act.Preserves P (tmulTransposed ok op c a b) :=
  .bind (hP.amxBegin ok) fun _ => .bind hP.tileDataEnabled fun _ => .getBind fun _ h => .bind hP.need fun _ =>
    .set (hP.setResult ha _ _ h)

theorem tileTranspose (ok : Cfg → Bool) (f : W32 → W32) (d a : Tmm) : Act.Preserves P (tileTranspose ok f d a) :=
  .bind (hP.amxBegin ok) fun _ => .bind hP.tileDataEnabled fun _ => .getBind fun _ h => .bind hP.need fun _ =>
    .set (hP.setResult ha _ _ h)

theorem rowToZmm (f : W32 → W32) (d : VReg) (t : Tmm) (sel : RowSel) (hd : zmmDest i = some d) :
    Act.Preserves P (rowToZmm f d t sel) :=
  .getBind fun _ _ => .bind hP.need fun _ => .bind (hP.amxBegin _) fun _ => .getBind fun _ h =>
    .bind hP.need fun _ => .bind hP.tileDataEnabled fun _ => .bind hP.need fun _ => .bind hP.need fun _ =>
      .set (hP.setAmx _ ha (hP.setZmm _ hd h))

theorem loadTileConfig (m : MemOp) : Act.Preserves P (loadTileConfig m) :=
  .bind (hP.amxBegin _) fun _ => .bind (hP.loadOp m 64 false) fun _ => .getBind fun _ h => .bind hP.need fun _ =>
    .set (iteInduction (fun _ => hP.setAmx _ ha h) fun _ => hP.setAmx _ ha h)

omit ha in
theorem storeTileConfig (m : MemOp) : Act.Preserves P (storeTileConfig m) :=
  .bind (hP.amxBegin _) fun _ => .getBind fun _ _ => hP.storeOp m _ false

theorem releaseTileConfig : Act.Preserves P releaseTileConfig :=
  .bind (hP.amxBegin _) fun _ => .modify fun _ h => hP.setAmx _ ha h

theorem zeroTile (t : Tmm) : Act.Preserves P (zeroTile t) :=
  .bind (hP.amxBegin _) fun _ => .bind hP.tileDataEnabled fun _ => .getBind fun _ h => .bind hP.need fun _ =>
    .set (hP.setAmx _ ha (hP.setAmx _ ha h))

theorem readRow (m : MemOp) (r n : Nat) : Act.Preserves P (readRow m r n) :=
  .bind (.modify fun _ h => hP.setAmx _ ha h) fun _ => .getBind fun _ _ => .bind (hP.memRead _ _ _ _) fun _ => .pure _

theorem loadRows (t : Tmm) (m : MemOp) (nbytes n r : Nat) : Act.Preserves P (loadRows t m nbytes n r) := by
  induction n generalizing r with
  | zero => exact .pure _
  | succ n ih =>
    exact .bind (hP.readRow ha m r nbytes) fun _ => .bind (.modify fun _ h => hP.setAmx _ ha h) fun _ => ih (r + 1)

theorem tileLoad (ok : Cfg → Bool) (t : Tmm) (m : MemOp) : Act.Preserves P (tileLoad ok t m) :=
  .bind (hP.amxBegin ok) fun _ => .bind hP.tileDataEnabled fun _ => .getBind fun _ _ => .bind hP.need fun _ =>
    .bind (.modify fun _ h => hP.setAmx _ ha h) fun _ => .bind (hP.loadRows ha _ _ _ _ _) fun _ => hP.zeroStartRow ha

theorem storeRows (t : Tmm) (m : MemOp) (nbytes n r : Nat) : Act.Preserves P (storeRows t m nbytes n r) := by
  induction n generalizing r with
  | zero => exact .pure _
  | succ n ih =>
    exact .bind (.modify fun _ h => hP.setAmx _ ha h) fun _ => .getBind fun _ _ =>
      .bind (hP.memWrite _ _ _ _) fun _ => ih (r + 1)

theorem tileStore (m : MemOp) (t : Tmm) : Act.Preserves P (tileStore m t) :=
  .bind (hP.amxBegin _) fun _ => .bind hP.tileDataEnabled fun _ => .getBind fun _ _ => .bind hP.need fun _ =>
    .bind (hP.storeRows ha _ _ _ _ _) fun _ => hP.zeroStartRow ha

theorem pairPrologue {s : State} (t : Tmm) (n : Nat) (h : P s) : P (s.pairPrologue t n) :=
  iteInduction (fun _ => hP.setAmx _ ha (hP.setAmx _ ha h)) fun _ => hP.setAmx _ ha h

theorem pairRow {s : State} (t : Tmm) (r base : Nat) (v : W512) (h : P s) : P (s.pairRow t r base v) :=
  iteInduction (fun _ => hP.setAmx _ ha h) fun _ => h

theorem pairRead (m : MemOp) (r limit nbytes : Nat) : Act.Preserves P (pairRead m r limit nbytes) :=
  .ite (hP.readRow ha m r nbytes) (.pure _)

theorem pairRows (a b : Tmm) (m : MemOp) (limit n r : Nat) : Act.Preserves P (pairRows a b m limit n r) := by
  induction n generalizing r with
  | zero => exact .pure _
  | succ n ih =>
    exact .getBind fun _ _ => .bind (hP.pairRead ha _ _ _ _) fun _ =>
      .bind (.modify fun _ h => hP.pairRow ha b r _ _ (hP.pairRow ha a r 0 _ h)) fun _ => ih (r + 1)

theorem pairLoad (ok : Cfg → Bool) (pad : Nat) (t : Tmm) (m : MemOp) : Act.Preserves P (pairLoad ok pad t m) :=
  .bind (hP.amxBegin ok) fun _ => .bind hP.tileDataEnabled fun _ => .getBind fun _ _ => .bind hP.need fun _ =>
    .bind (.modify fun _ h => hP.pairPrologue ha _ _ (hP.pairPrologue ha _ _ h)) fun _ =>
      .bind (hP.pairRows ha _ _ _ _ _ _) fun _ => hP.zeroStartRow ha

end

end

/-! ### Instructions -/

/-- An instruction keeps every property that the changes it may make keep. -/
theorem exec {i : Instr} {P : State → Prop} (hP : InstrFrame i P) {s t : State} (ht : exec i s = .next t) (h : P s) :
    P t := by
  cases i with
  | cpuid => exact hP.settle (.modify fun _ => hP.cpuidEffect (fun _ hg => hg) rfl) ht h
  | aadd sz m r | aand sz m r | aor sz m r | axor sz m r => exact hP.settle (hP.raoPost _ sz m r) ht h
  | movrsB d m => exact hP.settle (hP.movrsByte d m (List.mem_singleton_self _)) ht h
  | movrsV sz d m => exact hP.settle (hP.movrsWide sz d m (List.mem_singleton_self _)) ht h
  | vmovrsB128 d k z m | vmovrsB256 d k z m | vmovrsB512 d k z m | vmovrsW128 d k z m | vmovrsW256 d k z m
  | vmovrsW512 d k z m | vmovrsD128 d k z m | vmovrsD256 d k z m | vmovrsD512 d k z m | vmovrsQ128 d k z m
  | vmovrsQ256 d k z m | vmovrsQ512 d k z m => exact hP.settle (hP.vmovrs _ _ d k z m rfl) ht h
  | prefetchrst2 m => exact hP.settle (.pure ()) ht h
  | pbndkb => exact hP.settle (hP.bindKey rfl) ht h
  | pconfig => exact hP.settle (hP.configure rfl) ht h
  | rdmsr => exact hP.settle (hP.readMsrImplicit (.head _) (.tail _ (.head _))) ht h
  | rdmsrImm d imm | rdmsrImmApx d imm =>
    exact hP.settle (hP.readMsrImm _ d imm (List.mem_singleton_self _)) ht h
  | urdmsr d a | urdmsrImm d a => exact hP.settle (hP.userRead d _ (List.mem_singleton_self _)) ht h
  | uwrmsr a v | uwrmsrImm a v => exact hP.settle (hP.userWrite _ v rfl) ht h
  | wrmsrns => exact hP.settle (hP.writeMsrImplicit rfl) ht h
  | wrmsrnsImm imm v | wrmsrnsImmApx imm v => exact hP.settle (hP.writeMsrImm _ imm v rfl) ht h
  | mwait => exact hP.settle hP.waitOnMonitor ht h
  | monitor seg asz => exact hP.settle (hP.armMonitor seg asz) ht h
  | vsm4Key4Vex128 d a b | vsm4Key4Vex256 d a b | vsm4Key4Evex128 d a b | vsm4Key4Evex256 d a b
  | vsm4Key4Evex512 d a b | vsm4Rnds4Vex128 d a b | vsm4Rnds4Vex256 d a b | vsm4Rnds4Evex128 d a b
  | vsm4Rnds4Evex256 d a b | vsm4Rnds4Evex512 d a b => exact hP.settle (hP.sm4 _ _ _ d a b rfl) ht h
  | ldtilecfg m => exact hP.settle (hP.loadTileConfig rfl m) ht h
  | sttilecfg m => exact hP.settle (hP.storeTileConfig m) ht h
  | tilerelease => exact hP.settle (hP.releaseTileConfig rfl) ht h
  | tilezero t => exact hP.settle (hP.zeroTile rfl t) ht h
  | tileloadd t m | tileloaddT1 t m | tileloaddrs t m | tileloaddrsT1 t m =>
    exact hP.settle (hP.tileLoad rfl _ t m) ht h
  | tilestored m t => exact hP.settle (hP.tileStore rfl m t) ht h
  | t2rpntlvwZ0 t m | t2rpntlvwZ0T1 t m | t2rpntlvwZ1 t m | t2rpntlvwZ1T1 t m | t2rpntlvwZ0RS t m
  | t2rpntlvwZ0RST1 t m | t2rpntlvwZ1RS t m | t2rpntlvwZ1RST1 t m => exact hP.settle (hP.pairLoad rfl _ _ t m) ht h
  | tcmmimfp16ps d a b | tcmmrlfp16ps d a b | tdpbf8ps d a b | tdpbhf8ps d a b | tdphbf8ps d a b | tdphf8ps d a b
  | tmmultf32ps d a b => exact hP.settle (hP.tmul rfl _ _ d a b) ht h
  | tconjtcmmimfp16ps d a b | ttcmmimfp16ps d a b | ttcmmrlfp16ps d a b | ttdpbf16ps d a b | ttdpfp16ps d a b
  | ttmmultf32ps d a b => exact hP.settle (hP.tmulTransposed rfl _ _ d a b) ht h
  | tconjtfp16 d a | ttransposed d a => exact hP.settle (hP.tileTranspose rfl _ _ d a) ht h
  | tcvtrowd2psR d t r | tcvtrowd2psI d t r | tcvtrowps2pbf16hR d t r | tcvtrowps2pbf16hI d t r
  | tcvtrowps2pbf16lR d t r | tcvtrowps2pbf16lI d t r | tcvtrowps2phhR d t r | tcvtrowps2phhI d t r
  | tcvtrowps2phlR d t r | tcvtrowps2phlI d t r | tilemovrowR d t r | tilemovrowI d t r =>
    exact hP.settle (hP.rowToZmm rfl _ d t _ rfl) ht h

end InstrFrame

/-! ### The frames -/

variable {i : Instr} {P : State → Prop}

/-- A property of the program's state alone: what the instruction may change there decides. -/
theorem instrFrame_of_program (congr : ∀ {s t : State}, P s → t.program = s.program → P t)
    (setReg : ∀ {s : State} {g : Gpr} (v : W64), g ∈ gprDest i → P s → P (s.setReg g v))
    (keyFlags : ∀ {s : State} (b : Bool), i = .pbndkb ∨ i = .pconfig → P s → P (s.keyFlags b))
    (setZmm : ∀ {s : State} {r : VReg} (v : W512), zmmDest i = some r → P s → P (s.setZmm r v))
    (setAmx : ∀ {s : State} (a : Amx), isAmx i = true → P s → P { s with amx := a })
    (abort : ∀ {s t : State}, P s → s.ctx.tsx = true → P t → P t.tsxAbort) : InstrFrame i P where
  congr h e _ := congr h e
  setReg := setReg
  keyFlags := keyFlags
  setZmm := setZmm
  setAmx := setAmx
  system _ h e := congr h e
  setTmemk _ _ _ h := congr h rfl
  setTse _ _ _ h := congr h rfl
  setCr2 _ h := congr h rfl
  setXfdErr _ h := congr h rfl
  abort := abort

theorem State.rflags_congr {s t : State} (e : t.program = s.program) : t.rflags = s.rflags :=
  congrArg (fun p => p.2.1) e

theorem State.vec_congr {s t : State} (e : t.program = s.program) : t.vec = s.vec :=
  congrArg (fun p => p.2.2.1) e

theorem State.amx_congr {s t : State} (e : t.program = s.program) : t.amx = s.amx :=
  congrArg (fun p => p.2.2.2.1) e

theorem State.tsx_congr {s t : State} (e : t.program = s.program) : t.ctx.tsx = s.ctx.tsx :=
  congrArg (fun p => p.2.2.2.2) e

theorem State.reg_congr {s t : State} (e : t.program = s.program) (g : Gpr) : t.reg g = s.reg g :=
  congrArg (fun p => p.1.get g) e

/-- Outside a transaction a general register that is no destination keeps its value. -/
theorem instrFrame_reg {g : Gpr} (hg : g ∉ gprDest i) (v : W64) :
    InstrFrame i (fun s => s.ctx.tsx = false ∧ s.reg g = v) :=
  instrFrame_of_program (fun h e => ⟨(State.tsx_congr e).trans h.1, (State.reg_congr e g).trans h.2⟩)
    (fun {s d} w hd h => ⟨h.1, by
      have hne : g ≠ d := by rintro rfl; exact hg hd
      rw [State.reg_setReg, if_neg hne]; exact h.2⟩)
    (fun _ _ h => h) (fun _ _ h => h) (fun _ _ h => h)
    (fun h ht _ => absurd (h.1.symm.trans ht) Bool.false_ne_true)

/-- The flags of an instruction that is neither PBNDKB nor PCONFIG. -/
theorem instrFrame_rflags (hb : i ≠ .pbndkb) (hc : i ≠ .pconfig) (v : W64) : InstrFrame i (fun s => s.rflags = v) :=
  instrFrame_of_program (fun h e => (State.rflags_congr e).trans h) (fun _ _ h => h)
    (fun _ hi => (hi.elim hb hc).elim) (fun _ _ h => h) (fun _ _ h => h) (fun _ _ h => h)

/-- The flags that PBNDKB and PCONFIG leave: all but the six (R452, R470). -/
theorem State.keyFlags_others (s : State) (b : Bool) :
    (s.keyFlags b).rflags &&& ~~~0x8D5 = s.rflags &&& ~~~0x8D5 := by
  have hmask (w : W64) : w &&& ~~~keyFlagMask &&& ~~~0x8D5 = w &&& ~~~0x8D5 := by
    rw [BitVec.and_assoc]; exact congrArg (w &&& ·) (by decide)
  have hzf (w : W64) : setBitTo w 6 b &&& ~~~0x8D5 = w &&& ~~~0x8D5 := by
    cases b with
    | false => exact (BitVec.and_assoc ..).trans (congrArg (w &&& ·) (by decide))
    | true => exact BitVec.and_or_distrib_right.trans (BitVec.or_zero)
  exact (hzf _).trans (hmask _)

theorem instrFrame_otherFlags (v : W64) : InstrFrame i (fun s => s.rflags &&& ~~~0x8D5 = v) :=
  instrFrame_of_program (fun h e => (congrArg (· &&& ~~~0x8D5) (State.rflags_congr e)).trans h) (fun _ _ h => h)
    (fun {s} b _ h => (s.keyFlags_others b).trans h) (fun _ _ h => h) (fun _ _ h => h) (fun _ _ h => h)

/-- `t` has the vector state of `s` but for the vector register that `i` may change. -/
def keepsVector (i : Instr) (s t : State) : Prop :=
  t.vec.k = s.vec.k ∧ t.vec.mxcsr = s.vec.mxcsr ∧ ∀ r, zmmDest i ≠ some r → t.zmm r = s.zmm r

theorem instrFrame_vector (s : State) : InstrFrame i (keepsVector i s) :=
  instrFrame_of_program (fun h e => by
      unfold keepsVector State.zmm at *
      rw [State.vec_congr e]; exact h)
    (fun _ _ h => h) (fun _ _ h => h)
    (fun {t d} v hd ⟨hk, hm, hz⟩ => ⟨hk, hm, fun r hr => by
      have hne : r ≠ d := by rintro rfl; exact hr hd
      rw [State.zmm_setZmm, if_neg hne, hz r hr]⟩)
    (fun _ _ h => h) (fun _ _ h => h)

theorem instrFrame_amx (hi : isAmx i = false) (a : Amx) : InstrFrame i (fun s => s.amx = a) :=
  instrFrame_of_program (fun h e => (State.amx_congr e).trans h) (fun _ _ h => h) (fun _ _ h => h) (fun _ _ h => h)
    (fun _ ha => absurd (hi.symm.trans ha) Bool.false_ne_true) (fun _ _ h => h)

/-- `t` has the system state of `s` but for IA32_XFD_ERR and CR2, and the key tables unless `i` is PCONFIG. -/
def keepsSystem (i : Instr) (s t : State) : Prop :=
  (∀ a, a ≠ 0x1C5 → t.msrVal a = s.msrVal a) ∧ t.sys = { s.sys with cr2 := t.sys.cr2 } ∧ t.uirr = s.uirr ∧
    (i ≠ .pconfig → t.tmemk = s.tmemk ∧ t.tse = s.tse)

theorem instrFrame_system (hi : writesMsr i = false) (s : State) : InstrFrame i (keepsSystem i s) where
  congr h _ e := by
    simp only [State.privileged, Prod.mk.injEq] at e
    obtain ⟨hsys, hmsr, huirr, htmemk, htse⟩ := e
    simpa only [keepsSystem, State.msrVal, hsys, hmsr, huirr, htmemk, htse] using h
  setReg _ _ h := h
  keyFlags _ _ h := h
  setZmm _ _ h := h
  setAmx _ _ h := h
  system hw := absurd (hi.symm.trans hw) Bool.false_ne_true
  setTmemk _ _ hc := fun ⟨hm, hs, hu, _⟩ => ⟨hm, hs, hu, fun hne => absurd hc hne⟩
  setTse _ _ hc := fun ⟨hm, hs, hu, _⟩ => ⟨hm, hs, hu, fun hne => absurd hc hne⟩
  setCr2 v := fun ⟨hm, hs, hu, hk⟩ => ⟨hm, by rw [hs], hu, hk⟩
  setXfdErr v := fun ⟨hm, hs, hu, hk⟩ =>
    ⟨fun a ha => by rw [State.msrVal_setMsr, if_neg ha, hm a ha], hs, hu, hk⟩
  abort _ _ h := h

end Sys2Proof.Machine

namespace Sys2Proof.Claims

open Sys2Proof.Machine

/-- Settles O13: outside a transaction no trap is an abort, and the destinations are all that is written. -/
theorem generalRegisterFrame : Obligations.GeneralRegisterFrame :=
  fun _ s _ g hx ht hg => ((instrFrame_reg hg (s.reg g)).exec ht ⟨hx, rfl⟩).2

/-- Settles O12: only PBNDKB and PCONFIG write flags, by `State.keyFlags`. -/
theorem flagsFrame : Obligations.FlagsFrame :=
  ⟨fun _ s _ hb hc ht => (instrFrame_rflags hb hc s.rflags).exec ht rfl,
    fun _ s _ ht => (instrFrame_otherFlags (s.rflags &&& ~~~0x8D5)).exec ht rfl⟩

/-- Settles O15: vector state is written by `State.setZmm` alone, and AMX state by AMX instructions alone. -/
theorem vectorAndTileFrame : Obligations.VectorAndTileFrame :=
  ⟨fun _ s _ ht => (instrFrame_vector s).exec ht ⟨rfl, rfl, fun _ _ => rfl⟩,
    fun _ s _ hi ht => (instrFrame_amx hi s.amx).exec ht rfl⟩

/-- Settles O16: without an MSR write the system state changes by a trap's CR2 and IA32_XFD_ERR and by PCONFIG alone. -/
theorem systemFrame : Obligations.SystemFrame :=
  fun _ s _ hi ht => (instrFrame_system hi s).exec ht ⟨fun _ _ => rfl, rfl, rfl, fun _ => ⟨rfl, rfl⟩⟩

end Sys2Proof.Claims

/-! ## What follows an instruction -/

namespace Sys2Proof.Machine

/-! ### The state that no boundary changes -/

/-- The registers of the architecture, the VMCS and the delivery record, with the time-stamp counter. -/
def State.architectural (s : State) : (Gprs × W64 × VecState × Amx × Bool) × W64 × Sys × Vmcs × Option Delivered × W64 :=
  (s.program, s.rip, s.sys, s.vmcs, s.delivered, s.tsc)

theorem State.architectural_setMsr (s : State) (a : Nat) (v : W64) :
    (s.setMsr a v).architectural = s.architectural := by simp [State.architectural, State.program]

theorem State.architectural_setPebs (s : State) (p : Pebs) :
    State.architectural { s with pebs := p } = s.architectural := by simp [State.architectural, State.program]

theorem State.architectural_drawn (s : State) (n : Nat) : (s.drawn n).architectural = s.architectural := by
  simp [State.architectural, State.program]

/-- What trace triggers leave besides: memory and the sampling state. -/
def State.untraced (s : State) :
    ((Gprs × W64 × VecState × Amx × Bool) × W64 × Sys × Vmcs × Option Delivered × W64) × Store Byte × Pebs :=
  (s.architectural, s.mem, s.pebs)

/-! ### Counters and trace triggers -/

theorem State.architectural_countOne (s : State) (r : CountReport) (c : Nat) :
    (countOne s r c).1.architectural = s.architectural := by
  unfold countOne
  dsimp only
  split <;> split <;> rfl

theorem State.architectural_countAll (pre s : State) : (countAll pre s).1.architectural = s.architectural := by
  unfold countAll
  split
  · rfl
  · exact List.foldlRecOn (motive := fun p : State × CountReport => p.1.architectural = s.architectural) _ _ rfl
      fun p hp c _ => (State.architectural_countOne p.1 p.2 c).trans hp

/-- With every counter disabled an instruction counts nothing. -/
theorem countAll_of_disabled {pre : State} (s : State) (h : pre.msrVal 0x38F = 0) : (countAll pre s).1 = s := by
  rw [countAll, if_pos h]

theorem State.untraced_baseIndication (s pre : State) : (s.baseIndication pre).untraced = s.untraced := by
  rcases s.baseIndication_eq pre with h | h <;> rw [h]; rfl

theorem State.untraced_pauseIndication (s before : State) : (s.pauseIndication before).untraced = s.untraced := by
  rcases s.pauseIndication_eq before with h | h <;> rw [h]; rfl

theorem State.untraced_emitTrig (pre s : State) (l : List Nat) : (emitTrig pre s l).untraced = s.untraced := by
  unfold emitTrig
  split
  · split <;> rfl
  · rfl

theorem State.untraced_triggerAction (s : State) (f : BitVec 16) : (triggerAction s f).untraced = s.untraced := by
  unfold triggerAction
  dsimp only
  split <;> rfl

theorem State.untraced_runTriggers (pre s : State) (r : CountReport) : (runTriggers pre s r).untraced = s.untraced := by
  unfold runTriggers
  dsimp only
  split
  · split
    · rfl
    · exact List.foldlRecOn (motive := fun t : State => t.untraced = s.untraced) _ triggerAction
        (State.untraced_emitTrig pre { s with pt := s.pt.retired } _) fun t ht f _ => (t.untraced_triggerAction f).trans ht
  · rfl

/-- The boundary after an instruction before its samples (R745, R749). -/
def triggered (pre s : State) : State :=
  (runTriggers pre ((countAll pre s).1.baseIndication pre) (countAll pre s).2).pauseIndication
    ((countAll pre s).1.baseIndication pre)

theorem State.untraced_triggered (pre s : State) : (triggered pre s).untraced = (countAll pre s).1.untraced :=
  ((State.untraced_pauseIndication _ _).trans (State.untraced_runTriggers _ _ _)).trans
    (State.untraced_baseIndication _ _)

theorem retire_eq (l : List W64) (pre s : State) : retire l pre s = runPebs pre l (triggered pre s) := rfl

/-! ### Samples -/

theorem State.architectural_writeRecordByte (s : State) (a : Nat) (b : Byte) :
    (writeRecordByte s a b).architectural = s.architectural := by
  unfold writeRecordByte State.raoForce
  split
  · rfl
  · split <;> rfl

theorem State.architectural_writeRecord (s : State) (a : Nat) (r : Rec) :
    (writeRecord s a r).architectural = s.architectural := by
  induction r generalizing s a with
  | nil => rfl
  | cons x r ih =>
    cases x with
    | none => exact ih s (a + 1)
    | some b => exact (ih _ (a + 1)).trans (s.architectural_writeRecordByte a b)

theorem State.architectural_afterRecord (s : State) (c size : Nat) :
    (afterRecord s c size).architectural = s.architectural := by
  simp only [afterRecord, apply_ite State.architectural, State.architectural_setMsr, State.architectural_setPebs,
    ite_self]

theorem State.architectural_sampleOne (pre : State) (l : List W64) (s : State) (c : Nat) :
    (sampleOne pre l s c).architectural = s.architectural := by
  simp only [sampleOne, apply_ite State.architectural, State.architectural_drawn, State.architectural_setMsr,
    State.architectural_afterRecord, State.architectural_writeRecord, State.architectural_setPebs, ite_self]

theorem State.architectural_runPebs (pre : State) (l : List W64) (s : State) :
    (runPebs pre l s).architectural = s.architectural := by
  unfold runPebs
  split_ifs
  · rfl
  · rfl
  · rfl
  · exact List.foldlRecOn (motive := fun t : State => t.architectural = s.architectural) _ _ rfl
      fun t ht c _ => (State.architectural_sampleOne pre l t c).trans ht

/-- Without an overflow that waits no record is written. -/
theorem runPebs_of_none_pending {s : State} (pre : State) (l : List W64) (h : s.pebs.pending = 0) :
    runPebs pre l s = s := by
  rw [runPebs, if_pos h]

/-! ### The boundary -/

theorem State.architectural_retire (l : List W64) (pre s : State) : (retire l pre s).architectural = s.architectural :=
  calc (retire l pre s).architectural
    _ = (triggered pre s).architectural := State.architectural_runPebs pre l _
    _ = (countAll pre s).1.architectural := congrArg Prod.fst (State.untraced_triggered pre s)
    _ = s.architectural := State.architectural_countAll pre s

theorem State.mem_retire (l : List W64) {pre s : State} (hc : pre.msrVal 0x38F = 0) (hp : s.pebs.pending = 0) :
    (retire l pre s).mem = s.mem := by
  have hu : (triggered pre s).untraced = s.untraced :=
    (State.untraced_triggered pre s).trans (congrArg State.untraced (countAll_of_disabled s hc))
  have hpebs : (triggered pre s).pebs = s.pebs := congrArg (fun x => x.2.2) hu
  rw [retire_eq, runPebs_of_none_pending pre l (by rw [hpebs]; exact hp)]
  exact congrArg (fun x => x.2.1) hu

/-- The boundary state before time passes: a retired instruction is counted and sampled. -/
def finished (l : List W64) (pre s : State) : State := if s.delivered.isNone then retire l pre s else s

theorem finish_eq (l : List W64) (pre s : State) :
    finish l pre s =
      State.tick { finished l pre s with ctx := { (finished l pre s).ctx with shadow := false } } := rfl

theorem State.architectural_finished (l : List W64) (pre s : State) :
    (finished l pre s).architectural = s.architectural := by
  unfold finished
  split
  · exact State.architectural_retire l pre s
  · rfl

theorem State.mem_finished (l : List W64) {pre s : State} (hc : pre.msrVal 0x38F = 0) (hp : s.pebs.pending = 0) :
    (finished l pre s).mem = s.mem := by
  unfold finished
  split
  · exact State.mem_retire l hc hp
  · rfl

/-! ### A step that runs an instruction -/

variable {s : State}

theorem fetch_of_decode_ok {i : Instr} {n : Nat} (h : decode s.decMode (fetchBytes s 15 0).1 = .ok (i, n)) :
    fetch s = .instr i n := by
  unfold fetch decodeFetched; rw [h]

theorem stepFetch_of_instr {i : Instr} {n : Nat} (h : fetch s = .instr i n) :
    stepFetch s = stepBoundary s (accessed i { s with ilen := n }) (exec i { s with ilen := n }) := by
  unfold stepFetch; rw [h]; rfl

end Sys2Proof.Machine

namespace Sys2Proof.Claims

open Sys2Proof.Machine

/-- Settles O6, by what the boundary after an instruction leaves. -/
theorem stepRunsDecoded : Obligations.StepRunsDecoded := by
  refine ⟨fun s i n hd hg hu ha h => ?_, fun l u t => ?_, fun l u t hc hp => ?_, fun l u t => ?_⟩
  · rw [← s.decMode_raoStep] at h
    rw [step_of_active hd hg hu ha, stepFetch_of_instr (fetch_of_decode_ok h)]
    rfl
  · have h := State.architectural_finished l u t
    simp only [State.architectural, State.program, Prod.mk.injEq] at h
    simp [finish_eq, h]
  · simpa [finish_eq] using State.mem_finished l hc hp
  · have h : (finished l u t).tsc = t.tsc := congrArg (fun x => x.2.2.2.2.2) (State.architectural_finished l u t)
    rw [← h]
    exact State.tsc_le_tick _

end Sys2Proof.Claims

/-! ## Posted updates that a load does not wait for -/

namespace Sys2Proof.Machine

/-! ### Memories byte for byte -/

/-- Two memories hold the same bytes. -/
def SameBytes (m m' : Store Byte) : Prop := ∀ a, readByte m a = readByte m' a

theorem leBytes_length (n w : Nat) : (leBytes n w).length = n := by
  induction n generalizing w with
  | zero => rfl
  | succ n ih => exact congrArg Nat.succ (ih _)

theorem toBytes_length {w : Nat} (n : Nat) (v : BitVec w) : (toBytes n v).length = n := leBytes_length n _

theorem readBytes_congr {m m' : Store Byte} {as : List Nat} (h : ∀ a ∈ as, readByte m a = readByte m' a) :
    readBytes m as = readBytes m' as := List.map_congr_left h

/-- A byte that is written holds the same value whatever memory it is written to. -/
theorem readByte_writeBytes_of_mem (m m' : Store Byte) {as : List Nat} {bs : List Byte} {b : Nat}
    (hl : as.length ≤ bs.length) (hb : b ∈ as) :
    readByte (writeBytes m as bs) b = readByte (writeBytes m' as bs) b := by
  induction as generalizing m m' bs with
  | nil => cases hb
  | cons a as ih =>
    cases bs with
    | nil => cases hl
    | cons x bs =>
      by_cases hr : b ∈ as
      · exact ih _ _ (Nat.le_of_succ_le_succ hl) hr
      · obtain rfl : b = a := (List.mem_cons.mp hb).resolve_right hr
        simp only [writeBytes, readByte_writeBytes_frame _ as bs b hr, readByte_writeByte, if_true]

/-- What an update leaves in its own bytes depends on these bytes alone (R130). -/
theorem readByte_raoPerform_of_mem {m m' : Store Byte} {e : RaoEntry} {b : Nat} (hb : b ∈ e.bytes)
    (h : ∀ a ∈ e.bytes, readByte m a = readByte m' a) :
    readByte (raoPerform m e) b = readByte (raoPerform m' e) b := by
  unfold raoPerform
  rw [readBytes_congr h]
  exact readByte_writeBytes_of_mem m m' (toBytes_length _ _).ge hb

theorem SameBytes.raoPerform {m m' : Store Byte} (h : SameBytes m m') (e : RaoEntry) :
    SameBytes (raoPerform m e) (raoPerform m' e) := by
  intro b
  by_cases hb : b ∈ e.bytes
  · exact readByte_raoPerform_of_mem hb fun a _ => h a
  · rw [readByte_raoPerform_frame m e b hb, readByte_raoPerform_frame m' e b hb, h b]

theorem SameBytes.raoPerformAll {m m' : Store Byte} (h : SameBytes m m') (l : List RaoEntry) :
    SameBytes (raoPerformAll m l) (raoPerformAll m' l) := by
  induction l generalizing m m' with
  | nil => exact h
  | cons e l ih => exact ih (h.raoPerform e)

/-! ### Updates of different bytes commute -/

/-- Two updates have no byte in common. -/
def RaoEntry.Apart (e f : RaoEntry) : Prop := List.Disjoint e.bytes f.bytes

theorem raoPerform_comm (m : Store Byte) {e f : RaoEntry} (h : e.Apart f) :
    SameBytes (raoPerform (raoPerform m e) f) (raoPerform (raoPerform m f) e) := by
  intro b
  have he {a : Nat} (ha : a ∈ f.bytes) (m : Store Byte) : readByte (raoPerform m e) a = readByte m a :=
    readByte_raoPerform_frame m e a fun hae => h hae ha
  have hf {a : Nat} (ha : a ∈ e.bytes) (m : Store Byte) : readByte (raoPerform m f) a = readByte m a :=
    readByte_raoPerform_frame m f a fun haf => h ha haf
  by_cases hbe : b ∈ e.bytes
  · rw [hf hbe]
    exact readByte_raoPerform_of_mem hbe fun a ha => (hf ha m).symm
  · rw [readByte_raoPerform_frame _ e b hbe]
    by_cases hbf : b ∈ f.bytes
    · exact readByte_raoPerform_of_mem hbf fun a ha => he ha m
    · rw [readByte_raoPerform_frame _ f b hbf, readByte_raoPerform_frame _ f b hbf,
        readByte_raoPerform_frame _ e b hbe]

/-- An update may be performed after a list of others that it has no byte in common with. -/
theorem raoPerformAll_comm (m : Store Byte) {e : RaoEntry} {l : List RaoEntry} (h : ∀ f ∈ l, e.Apart f) :
    SameBytes (raoPerformAll (raoPerform m e) l) (raoPerform (raoPerformAll m l) e) := by
  induction l generalizing m with
  | nil => exact fun _ => rfl
  | cons f l ih =>
    obtain ⟨hf, hl⟩ := List.forall_mem_cons.mp h
    intro b
    calc readByte (raoPerformAll (raoPerform (raoPerform m e) f) l) b
      _ = readByte (raoPerformAll (raoPerform (raoPerform m f) e) l) b := (raoPerform_comm m hf).raoPerformAll l b
      _ = readByte (raoPerform (raoPerformAll (raoPerform m f) l) e) b := ih _ hl b

/-! ### The updates that an access follows (R131) -/

theorem disjoint_of_overlaps_eq_false {a b : List Nat} (h : overlaps a b = false) : List.Disjoint a b := by
  intro x hxa hxb
  simp only [overlaps, List.any_eq_false, List.contains_iff_mem] at h
  exact h x hxa hxb

/-- The footprint of a split holds every byte of the updates that must be performed. -/
theorem raoSplit_footprint (fp : List Nat) (l : List RaoEntry) :
    ∀ e ∈ (raoSplit fp l).1, e.bytes ⊆ (raoSplit fp l).2.2 := by
  induction l with
  | nil => nofun
  | cons e r ih =>
    simp only [raoSplit]
    split
    · intro f hf
      cases hf with
      | head => exact List.subset_append_left _ _
      | tail _ hf => exact List.Subset.trans (ih f hf) (List.subset_append_right _ _)
    · exact ih

/-- Performing what an access must follow first, and the rest later, gives the memory of the posted order. -/
theorem raoPerformAll_raoSplit (m : Store Byte) (fp : List Nat) (l : List RaoEntry) :
    SameBytes (raoPerformAll (raoPerformAll m (raoSplit fp l).1) (raoSplit fp l).2.1) (raoPerformAll m l) := by
  induction l generalizing m with
  | nil => exact fun _ => rfl
  | cons e r ih =>
    simp only [raoSplit]
    split
    · exact ih (raoPerform m e)
    · next ho =>
      have hapart : ∀ f ∈ (raoSplit fp r).1, e.Apart f := fun f hf =>
        List.disjoint_of_subset_right (raoSplit_footprint fp r f hf)
          (disjoint_of_overlaps_eq_false (Bool.eq_false_iff.mpr ho))
      intro b
      have hcomm := (raoPerformAll_comm m hapart).raoPerformAll (raoSplit fp r).2.1 b
      exact hcomm.symm.trans (ih (raoPerform m e) b)

variable (s : State)

/-- Performing updates early changes memory, the queue and the monitor alone. -/
theorem State.raoForce_eq (fp : List Nat) :
    s.raoForce fp = { s with mem := (s.raoForce fp).mem, rao := (s.raoForce fp).rao,
                             monitor := (s.raoForce fp).monitor } := by
  unfold State.raoForce; split <;> rfl

/-- Performing updates early leaves memory as this processor sees it (R131). -/
theorem State.sameMemory_raoForce (fp : List Nat) : sameMemory s (s.raoForce fp) := by
  unfold sameMemory State.seen State.raoForce
  split
  · exact fun _ => rfl
  · exact raoPerformAll_raoSplit s.mem fp s.rao

end Sys2Proof.Machine

/-! ## MWAIT and MONITOR -/

namespace Sys2Proof.Machine

variable {s : State}

/-! ### MWAIT (R530) -/

theorem waitOnMonitor_run (hm : mwaitOk s = true) :
    waitOnMonitor s = if mwaitArgsOk s then .ok () (mwaitEffect s) else .error (gpTrap s) s := by
  unfold waitOnMonitor
  simp only [Act.bind_run, Act.get_run, hm, need_run]
  cases mwaitArgsOk s <;> rfl

/-- A wait changes the monitor and the draw counter alone, and at most triggers the monitor; a monitored wait does. -/
theorem mwaitEffect_eq (s : State) :
    mwaitEffect s = { s with monitor := (mwaitEffect s).monitor, draws := (mwaitEffect s).draws } ∧
      ((mwaitEffect s).monitor = s.monitor ∨ (mwaitEffect s).monitor = s.monitor.trigger) ∧
      (bitAt s.mwaitExt 2 = false → (mwaitEffect s).monitor = s.monitor.trigger) := by
  unfold mwaitEffect
  split
  · next h => exact ⟨rfl, by dsimp only; split <;> simp, fun hf => absurd h (by simp [hf])⟩
  · exact ⟨rfl, .inr rfl, fun _ => rfl⟩

/-! ### MONITOR (R536) -/

theorem armMonitor_run {g : Option Seg} {z : AddrSize} {as : List Nat} (hm : s.mode ≠ .v86)
    (he : monitorEnabled s = true) (hf : monitorFlag s = true) (hc : s.cpl = 0)
    (ha : accessBytes s (g.getD .ds) (truncAddr z (s.reg .rax)) 1 .read false = .ok as) :
    armMonitor g z s = .ok () ((s.raoForce as).armAt (as.headD 0)) := by
  have hok : (s.mode != .v86 && monitorEnabled s && monitorFlag s && s.cpl == 0) = true := by
    simp [bne_iff_ne.mpr hm, he, hf, hc]
  unfold armMonitor
  simp only [Act.bind_run, Act.get_run, hok, need_true, ha, liftE_ok, loadPhys_run, Act.modify_run]

/-- Leaf 05H depends on the configuration and IA32_MISC_ENABLE alone (R55, R235). -/
theorem cpuidLeaf_monitor (s : State) (sub : Nat) :
    cpuidLeaf s 5 sub = if monitorEnabled s then cpuidCfg s.cfg 5 sub else zeroRow := rfl

theorem lineSize_raoForce (s : State) (fp : List Nat) : lineSize (s.raoForce fp) = lineSize s := by
  have hen : monitorEnabled (s.raoForce fp) = monitorEnabled s := by simp [monitorEnabled, miscEnable]
  have hleaf : cpuidLeaf (s.raoForce fp) 5 0 = cpuidLeaf s 5 0 := by
    simp only [cpuidLeaf_monitor, hen, State.raoForce_cfg]
  simp only [lineSize, hleaf]

/-- The monitored line has a size between the limits of leaf 05H (R65). -/
theorem lineSize_bounds (h : fieldOf (cpuidLeaf s 5 0).eax 15 0 ≤ fieldOf (cpuidLeaf s 5 0).ebx 15 0) :
    fieldOf (cpuidLeaf s 5 0).eax 15 0 ≤ lineSize s ∧ lineSize s ≤ fieldOf (cpuidLeaf s 5 0).ebx 15 0 := by
  unfold lineSize
  dsimp only
  split <;> omega

/-- The line of an address contains it. -/
theorem mem_armLine {n : Nat} (a : Nat) (hn : 0 < n) :
    (armLine n a).base ≤ a ∧ a < (armLine n a).base + (armLine n a).size := by
  have hmod := Nat.mod_lt a hn
  have hdiv := Nat.div_add_mod' a n
  simp only [armLine, if_neg hn.ne']
  omega

/-- Arming changes the monitor and the draw counter alone. -/
theorem State.armAt_eq (s : State) (a : Nat) :
    s.armAt a = { s with monitor := (s.armAt a).monitor, draws := (s.armAt a).draws } := by
  unfold State.armAt; split <;> rfl

/-- A range that is armed is the line of the address (R536). -/
theorem State.armAt_armed {a : Nat} (h : (s.armAt a).monitor.armed = true) :
    (s.armAt a).monitor = armLine (lineSize s) a := by
  obtain he | ⟨_, he | he⟩ := s.armAt_cases a
  · rw [he]
  · rw [he]
  · rw [he] at h; cases h

theorem State.armAt_of_writeBack {a : Nat} (h : memType s.cfg a = .wb) :
    s.armAt a = { s with monitor := armLine (lineSize s) a } :=
  (s.armAt_cases a).resolve_right fun hn => hn.1 h

end Sys2Proof.Machine

namespace Sys2Proof.Claims

open Sys2Proof.Machine

/-- The first clause of O39. -/
theorem mwait_ends {s : State} (hm : mwaitOk s = true) :
    (mwaitArgsOk s = true → ∃ t, exec .mwait s = .next t ∧
      t = { s with rip := s.nextRip, monitor := t.monitor, draws := t.draws } ∧
      (t.monitor = s.monitor ∨ t.monitor = { s.monitor with armed := false }) ∧
      (bitAt s.mwaitExt 2 = false → t.monitor.armed = false)) ∧
    (mwaitArgsOk s = false → exec .mwait s = .next (s.takeTrap (gpTrap s))) := by
  have hrun := waitOnMonitor_run hm
  refine ⟨fun ha => ?_, fun ha => ?_⟩
  · rw [ha, if_pos rfl] at hrun
    obtain ⟨heq, hmon, htrig⟩ := mwaitEffect_eq s
    exact ⟨_, settle_ok hrun, by rw [heq]; rfl, hmon, fun hf => congrArg Monitor.armed (htrig hf)⟩
  · rw [ha] at hrun
    exact settle_error hrun

/-- Settles O39: MONITOR arms in the state in which the updates that its load follows are performed (R131). -/
theorem mwaitAndMonitor : Obligations.MwaitAndMonitor := by
  refine ⟨fun s hm => mwait_ends hm, fun g z s as hv he hf hc ha => ?_⟩
  have hcfg : (s.raoForce as).cfg = s.cfg := s.raoForce_cfg as
  refine ⟨_, settle_ok (armMonitor_run hv he hf hc ha), ?_, ?_, fun hwb => ?_, fun harm => ?_⟩
  · rw [State.armAt_eq]
    exact s.sameMemory_raoForce as
  · rw [State.armAt_eq, State.raoForce_eq]
    rfl
  · rw [State.armAt_of_writeBack (by rw [hcfg]; exact hwb)]
    exact ⟨rfl, s.raoForce_draws as⟩
  · have hline := State.armAt_armed (s := s.raoForce as) harm
    rw [lineSize_raoForce] at hline
    simp only [State.advance_monitor, hline]
    exact ⟨fun hn => mem_armLine _ hn, fun hle => lineSize_bounds hle⟩

end Sys2Proof.Claims

/-! ## WRMSRNS -/

namespace Sys2Proof.Machine

variable {s : State}

/-! ### Writes (R133, R500) -/

theorem msrWrite_run (a : Nat) (v : W64) (s : State) :
    msrWrite a v s = if msrWriteOk s a v then .ok () (s.msrWritten a v) else .error (gpTrap s) s := by
  unfold msrWrite
  simp only [Act.bind_run, Act.get_run, need_run]
  cases msrWriteOk s a v <;> rfl

theorem State.advance_msrWritten (s : State) (a : Nat) (v : W64) :
    (s.msrWritten a v).advance = { s.msrWritten a v with rip := s.nextRip } := by
  rw [State.advance, State.msrWritten, State.nextRip_msrStore]

/-- `x` ends at `s` as a write of `v` to MSR `a` does: written, or #GP(0) and nothing written (R500). -/
def WritesMsrAt (x : Act Unit) (s : State) (a : Nat) (v : W64) : Prop :=
  (msrWriteOk s a v = true → settle x s = .next { s.msrWritten a v with rip := s.nextRip }) ∧
    (msrWriteOk s a v = false → settle x s = .next (s.takeTrap (gpTrap s)))

theorem writesMsrAt_of_run {x : Act Unit} {a : Nat} {v : W64} (h : x s = msrWrite a v s) : WritesMsrAt x s a v := by
  rw [msrWrite_run] at h
  refine ⟨fun hok => ?_, fun hok => ?_⟩
  · rw [hok, if_pos rfl] at h
    rw [settle_ok h, State.advance_msrWritten]
  · rw [hok] at h
    exact settle_error h

theorem writeMsrImplicit_writes (hw : hasWrmsrns s.cfg = true) (hp : implicitOk s = true)
    (hx : s.msrExits (s.reg32 .rcx).toNat true = false) :
    WritesMsrAt writeMsrImplicit s (s.reg32 .rcx).toNat s.edxEax := by
  refine writesMsrAt_of_run ?_
  unfold writeMsrImplicit
  simp only [Act.bind_run, Act.get_run, hw, hp, need_true, msrExit_run, hx]
  rfl

theorem writeMsrImm_writes {n : W32} {g : Gpr} {apx : Bool} (h64 : s.is64 = true) (hi : hasMsrImm s.cfg = true)
    (hc : s.cpl = 0) (hx : s.msrExits n.toNat true = false) (ha : apx = true → hasApx s.cfg = true) :
    WritesMsrAt (writeMsrImm apx n g) s n.toNat (s.reg g) := by
  have hapx : (!apx || hasApx s.cfg) = true := by cases apx <;> simp_all
  have hcpl : (s.cpl == 0) = true := beq_iff_eq.mpr hc
  refine writesMsrAt_of_run ?_
  unfold writeMsrImm
  simp only [Act.bind_run, Act.get_run, h64, hi, hapx, hcpl, Bool.and_true, need_true, msrExit_run, hx]
  rfl

/-! ### Ordinary MSRs (R44) -/

theorem msrStore_of_ordinary {a : Nat} (h : Claims.ordinaryMsr a) (s : State) (v : W64) :
    msrStore s a v = s.setMsr a v := by
  simp only [Claims.ordinaryMsr, List.mem_cons, List.not_mem_nil, or_false, not_or] at h
  simp only [msrStore, h, if_false]

theorem msrStored_of_ordinary {a : Nat} (h : Claims.ordinaryMsr a) (s : State) : msrStored s a = s.msrVal a := by
  simp only [Claims.ordinaryMsr, List.mem_cons, List.not_mem_nil, or_false, not_or] at h
  simp only [msrStored, h, or_self, if_false]

theorem msrFreeBits_setMsr (s : State) (a b : Nat) (v : W64) : msrFreeBits (s.setMsr a v) b = msrFreeBits s b := rfl

/-- A read depends on the stored value, the configuration and the draw counter (R500). -/
theorem msrValue_setMsr_of_ne {a b : Nat} (hb : Claims.ordinaryMsr (msrHome b)) (hne : msrHome b ≠ a) (s : State)
    (v : W64) : msrValue (s.setMsr a v) b = msrValue s b := by
  simp only [msrValue, msrFreeBits_setMsr, msrStored_of_ordinary hb, State.msrVal_setMsr, if_neg hne, State.setMsr_draws]

theorem msrValue_setMsr_same {a : Nat} (ha : Claims.ordinaryMsr (msrHome a)) (hd : msrDesc s.cfg (msrHome a) = none)
    (v : W64) : msrValue (s.setMsr (msrHome a) v) a = v := by
  have hfree : msrFreeBits s (msrHome a) = 0 := by simp only [msrFreeBits, hd]
  simp only [msrValue, msrFreeBits_setMsr, hfree, if_true, msrStored_of_ordinary ha, State.msrVal_setMsr]

/-! ### Throttle registers (R722, R723) -/

theorem cbaMsr_iff {c : Cfg} {a : Nat} :
    cbaMsr c a = true ↔ hasCba c = true ∧ 0xE00 ≤ a ∧ a - 0xE00 < cbaCount c ∧ takenHigh a = false := by
  simp [cbaMsr, and_assoc]

theorem cbaCount_le (c : Cfg) : cbaCount c ≤ 8192 := by
  have h : cbaMaxCos c < 65536 := BitVec.isLt _
  unfold cbaCount
  omega

theorem cbaMsr_range {c : Cfg} {a : Nat} (h : cbaMsr c a = true) : 0xE00 ≤ a ∧ a < 0x2E00 := by
  obtain ⟨-, hlo, hcount, -⟩ := cbaMsr_iff.mp h
  have := cbaCount_le c
  omega

/-- No address from E00H up stands for another register (R60). -/
theorem msrHome_of_cba {c : Cfg} {a : Nat} (h : cbaMsr c a = true) : msrHome a = a := by
  obtain ⟨hlo, -⟩ := cbaMsr_range h
  rw [msrHome, if_neg (by unfold legacyCounters; omega), if_neg (by unfold legacyCounters; omega),
    if_neg (by unfold legacyFixed; omega)]

theorem msrExistsCounted_of_cba {c : Cfg} {a : Nat} (h : cbaMsr c a = true) :
    msrExistsCounted c a = if a < 0xF00 then some true else none := by
  obtain ⟨hlo, -⟩ := cbaMsr_range h
  rw [msrExistsCounted, if_neg (by unfold legacyCounters; omega), if_neg (by unfold legacyCounters; omega),
    if_neg (by unfold legacyFixed; omega), h]
  simp only [hlo, true_and]

theorem msrExists_of_cba {a : Nat} (h : cbaMsr s.cfg a = true) : msrExists s a = true := by
  unfold msrExists
  rw [msrExistsCounted_of_cba h]
  by_cases ha : a < 0xF00
  · rw [if_pos ha]
  · rw [if_neg ha, h, Bool.or_true]

theorem msrReadOnly_of_cba {c : Cfg} {a : Nat} (h : cbaMsr c a = true) : msrReadOnly c a = false := by
  obtain ⟨hlo, -⟩ := cbaMsr_range h
  simp only [msrReadOnly, msrDesc_of_cba h, Bool.or_eq_false_iff, beq_eq_false_iff_ne, and_true]
  omega

theorem msrCanonical_of_cba {c : Cfg} {a : Nat} (h : cbaMsr c a = true) : msrCanonical a = false := by
  obtain ⟨hlo, hhi⟩ := cbaMsr_range h
  simp only [msrCanonical, Bool.or_eq_false_iff, beq_eq_false_iff_ne, Bool.and_eq_false_iff, decide_eq_false_iff_not]
  omega

/-- No other rule reserves a bit of a throttle register: no register of the spec has its address. -/
theorem msrReserved_of_cba {c : Cfg} {a : Nat} (h : cbaMsr c a = true) : msrReserved c a = 0 := by
  obtain ⟨hlo, hhi⟩ := cbaMsr_range h
  obtain ⟨-, -, -, htaken⟩ := cbaMsr_iff.mp h
  have hnamed : msrReservedNamed c a = 0 := by
    simp only [msrReservedNamed, thermalReserved]
    iterate 6 rw [if_neg (by omega)]
  have hlow : msrReservedLow c a = 0 := by
    rw [msrReservedLow, hnamed]
    iterate 12 rw [if_neg (by omega)]
  have hhigh : msrReservedHigh c a = 0 := by
    simp only [takenHigh, inSome, counterHigh, List.any_cons, List.any_nil, Bool.or_false, Bool.or_eq_false_iff,
      Bool.and_eq_false_iff, decide_eq_false_iff_not, bne_eq_false_iff_eq, beq_eq_false_iff_ne] at htaken
    rw [msrReservedHigh, hnamed]
    iterate 9 rw [if_neg (by omega)]
  have hmask : configuredMask c a = 0 := by
    rw [configuredMask, if_pos (by rw [maskFixed, h, Bool.or_true])]
  rw [msrReserved, hlow, hhigh, hmask, ite_self]
  exact BitVec.or_zero

/-- Byte `j` of a value is its field of bits 8j + 7 to 8j. -/
theorem getElem?_bytesOf64 (v : W64) (j : Nat) :
    (bytesOf64 v)[j]? = if j < 8 then some (fieldOf v (8 * j + 7) (8 * j)) else none := by
  have hbyte : (v >>> (8 * j)).toNat % 256 = fieldOf v (8 * j + 7) (8 * j) := by
    rw [fieldOf, BitVec.extractLsb_toNat, BitVec.toNat_ushiftRight, show 8 * j + 7 - 8 * j + 1 = 8 by omega]
  rw [bytesOf64, List.getElem?_map]
  split
  · next hj => rw [List.getElem?_range hj]; exact congrArg some hbyte
  · next hj => rw [List.getElem?_eq_none (by simpa using hj)]; rfl

theorem cbaOk_iff {c : Cfg} {n : Nat} {v : W64} :
    cbaOk c n v = true ↔ ∀ j, j < 8 → fieldOf v (8 * j + 7) (8 * j) ≤ cbaMaxLevel c ∧
      (cbaMaxCos c < 8 * n + j → fieldOf v (8 * j + 7) (8 * j) = 0) := by
  have hlevel (x j : Nat) :
      (decide (x ≤ cbaMaxLevel c) && (decide (8 * n + j ≤ cbaMaxCos c) || x == 0)) = true ↔
        x ≤ cbaMaxLevel c ∧ (cbaMaxCos c < 8 * n + j → x = 0) := by
    simp only [Bool.and_eq_true, Bool.or_eq_true, decide_eq_true_eq, beq_iff_eq]
    omega
  rw [cbaOk, List.all_eq_true]
  constructor
  · intro h j hj
    have hget : (bytesOf64 v)[j]? = some (fieldOf v (8 * j + 7) (8 * j)) := by rw [getElem?_bytesOf64, if_pos hj]
    exact (hlevel _ j).mp (h (fieldOf v (8 * j + 7) (8 * j), j) (List.mem_zipIdx_iff_getElem?.mpr hget))
  · rintro h ⟨x, j⟩ hx
    have hget : (bytesOf64 v)[j]? = some x := List.mem_zipIdx_iff_getElem?.mp hx
    rw [getElem?_bytesOf64] at hget
    split at hget
    · cases hget
      exact (hlevel _ j).mpr (h j ‹_›)
    · cases hget

/-- A throttle register takes a value exactly if its levels are in range (R723). -/
theorem msrWriteOk_of_cba {a : Nat} (h : cbaMsr s.cfg a = true) (v : W64) :
    msrWriteOk s a v = cbaOk s.cfg (a - 0xE00) v := by
  have hmask : (v &&& 0 == 0) = true := beq_iff_eq.mpr BitVec.and_zero
  simp only [msrWriteOk, msrHome_of_cba h, msrExists_of_cba h, msrReadOnly_of_cba h, msrReserved_of_cba h,
    msrCanonical_of_cba h, msrExtraOk, h, hmask, if_true, Bool.not_false, Bool.and_true, Bool.true_and, Bool.true_or]

end Sys2Proof.Machine

namespace Sys2Proof.Claims

open Sys2Proof.Machine

/-- Settles O34, a clause each: the implicit form, the immediate forms, the frame of a write, ordinary MSRs, and throttle
registers. -/
theorem wrmsrnsWrites : Obligations.WrmsrnsWrites := by
  refine ⟨fun s hw hp hx => writeMsrImplicit_writes hw hp hx, fun s n v h64 hi hc hx => ?_, fun s a v => ?_,
    fun s a v ho hd => ?_, fun s a v h => ?_⟩
  · have plain : WritesMsrAt (writeMsrImm false n v) s n.toNat (s.reg v) := writeMsrImm_writes h64 hi hc hx nofun
    have apx (ha : hasApx s.cfg = true) : WritesMsrAt (writeMsrImm true n v) s n.toNat (s.reg v) :=
      writeMsrImm_writes h64 hi hc hx fun _ => ha
    exact ⟨fun hok => ⟨plain.1 hok, fun ha => (apx ha).1 hok⟩, fun hno => ⟨plain.2 hno, fun ha => (apx ha).2 hno⟩⟩
  · obtain ⟨hframe, hmsr⟩ := s.msrFrame_msrStore (msrHome a) v
    simp only [State.besidesMsr, Prod.mk.injEq] at hframe
    obtain ⟨⟨hgpr, hflags, hvec, hamx, -⟩, ⟨hmem, hrao, -⟩, -⟩ := hframe
    exact ⟨hmem, hrao, hgpr, hflags, hvec, hamx, hmsr⟩
  · rw [State.msrWritten, msrStore_of_ordinary ho]
    exact ⟨msrValue_setMsr_same ho hd v, rfl, fun b hb hne => msrValue_setMsr_of_ne hb hne s v⟩
  · rw [msrWriteOk_of_cba h]
    exact cbaOk_iff

end Sys2Proof.Claims

/-! ## The canonical form of the stores -/

namespace Sys2Proof.Machine

/-- The canonical forms, one for each store (R44, R66, R120). -/
theorem State.storesWf_iff (s : State) :
    s.storesWf = true ↔ Memory.wf s.mem = true ∧ Store.wf 0 s.msr = true ∧
      Store.wf KeySlot.unprogrammed s.tmemk = true ∧ Store.wf KeySlot.unprogrammed s.tse = true := by
  simp only [State.storesWf, Bool.and_eq_true, and_assoc]

/-- To have canonical stores is an invariant of the stores: a write keeps the form of the store that it goes to. -/
theorem storeInvariant_storesWf : StoreInvariant (fun s => s.storesWf = true) where
  congr {s t} h e := by
    simp only [State.stores, Prod.mk.injEq] at e
    obtain ⟨-, hmem, hmsr, htmemk, htse⟩ := e
    simpa only [State.storesWf_iff, hmem, hmsr, htmemk, htse] using h
  writeByte {s} a b h := by
    rw [State.storesWf_iff] at *
    obtain ⟨hmem, hrest⟩ := h
    exact ⟨Memory.wf_writeByte s.mem a b hmem, hrest⟩
  setMsr {s} a v h := by
    rw [State.storesWf_iff] at *
    obtain ⟨hmem, hmsr, hkeys⟩ := h
    exact ⟨hmem, Store.wf_put 0 s.msr a v hmsr, hkeys⟩
  setTmemk {s} k v h := by
    rw [State.storesWf_iff] at *
    obtain ⟨hmem, hmsr, htmemk, htse⟩ := h
    exact ⟨hmem, hmsr, Store.wf_put _ s.tmemk k v htmemk, htse⟩
  setTse {s} k v h := by
    rw [State.storesWf_iff] at *
    obtain ⟨hmem, hmsr, htmemk, htse⟩ := h
    exact ⟨hmem, hmsr, htmemk, Store.wf_put _ s.tse k v htse⟩
  clearTmemk {s} h := by
    rw [State.storesWf_iff] at *
    obtain ⟨hmem, hmsr, -, htse⟩ := h
    exact ⟨hmem, hmsr, rfl, htse⟩

end Sys2Proof.Machine

namespace Sys2Proof.Claims

open Sys2Proof.Machine

/-- Settles O8: after reset memory and the key tables are empty, and the MSR space lists three rising addresses (R900). -/
theorem resetStores : Obligations.ResetStores :=
  State.reset.storesWf_iff.mpr ⟨Memory.wf_reset, by decide, rfl, rfl⟩

/-- Settles O9: having canonical stores is an invariant of the stores. -/
theorem stepKeepsStores : Obligations.StepKeepsStores :=
  fun _ _ h ht => storeInvariant_storesWf.step ht h

end Sys2Proof.Claims

/-! ## Page faults -/

namespace Sys2Proof.Machine

/-! ### The code of a page fault (R124) -/

theorem pfCode_bits (present : Bool) (k : Access) (user : Bool) :
    bitAt (pfCode present k user) 0 = present ∧ bitAt (pfCode present k user) 1 = (k == .write) ∧
      bitAt (pfCode present k user) 2 = user ∧ bitAt (pfCode present k user) 3 = false ∧
      bitAt (pfCode present k user) 4 = (k == .fetch) ∧ pfCode present k user >>> 5 = 0 := by
  cases k <;> revert present user <;> decide

/-! ### Where a translation fails (R121) -/

variable {s : State} {k : Access} {sup : Bool} {la : W64} {e : Trap}

/-- A byte does not translate where paging is on and its page, a listed one, is not present or does not allow the access. -/
theorem translate_error (h : translate s la k sup = .error e) :
    bitAt s.sys.cr0 31 = true ∧ ∃ p ∈ s.cfg.pages, p.page = la.toNat / 4096 ∧
      (p.present = false ∨ pageAllows p k (!sup && s.cpl == 3) = false) ∧
      e = .page la (pfCode p.present k (!sup && s.cpl == 3)) := by
  unfold translate at h
  split at h
  · cases h
  · next hpg =>
    refine ⟨by simpa using hpg, ?_⟩
    split at h
    · cases h
    · next p hfind =>
      dsimp only at h
      split at h
      · cases h
      · next hdeny =>
        cases h
        have hpage := List.find?_some hfind
        exact ⟨p, List.mem_of_find?_eq_some hfind, beq_iff_eq.mp hpage,
          by rwa [Bool.not_eq_true, Bool.and_eq_false_iff] at hdeny, rfl⟩

theorem translateBytes_succ (n : Nat) :
    translateBytes s k sup (n + 1) la = (do
      let a ← translate s la k sup
      let r ← translateBytes s k sup n (la + 1)
      .ok (a :: r)) := rfl

/-- Byte `j + 1` from an address is byte `j` from the next one. -/
theorem succ_add_ofNat (la : W64) (j : Nat) : la + 1 + BitVec.ofNat 64 j = la + BitVec.ofNat 64 (j + 1) := by
  rw [BitVec.ofNat_add, BitVec.add_assoc, BitVec.add_comm 1]
  rfl

/-- A translation fails as its lowest failing byte does. -/
theorem translateBytes_error {n : Nat} (h : translateBytes s k sup n la = .error e) :
    ∃ j < n, translate s (la + BitVec.ofNat 64 j) k sup = .error e ∧
      ∀ i < j, ∃ a, translate s (la + BitVec.ofNat 64 i) k sup = .ok a := by
  induction n generalizing la with
  | zero => cases h
  | succ n ih =>
    have hla : la + BitVec.ofNat 64 0 = la := BitVec.add_zero la
    rw [translateBytes_succ] at h
    cases hfirst : translate s la k sup with
    | error e' =>
      rw [hfirst] at h
      cases h
      exact ⟨0, n.succ_pos, hla.symm ▸ hfirst, nofun⟩
    | ok a =>
      rw [hfirst] at h
      cases hrest : translateBytes s k sup n (la + 1) with
      | ok r => simp only [hrest, bind, Except.bind] at h; cases h
      | error e' =>
        simp only [hrest, bind, Except.bind] at h
        cases h
        obtain ⟨j, hj, hfail, hbelow⟩ := ih hrest
        refine ⟨j + 1, Nat.succ_lt_succ hj, succ_add_ofNat la j ▸ hfail, fun i hi => ?_⟩
        cases i with
        | zero => exact ⟨a, hla.symm ▸ hfirst⟩
        | succ i => exact succ_add_ofNat la i ▸ hbelow i (Nat.lt_of_succ_lt_succ hi)

end Sys2Proof.Machine

namespace Sys2Proof.Claims

open Sys2Proof.Machine

/-- Settles O21: the fault is that of the lowest failing byte, and its page gives the code. -/
theorem pageFaults : Obligations.PageFaults := by
  refine ⟨fun s la code => ⟨rfl, rfl, rfl⟩, fun s k sup n la e h => ?_⟩
  obtain ⟨j, hj, hfail, hbelow⟩ := translateBytes_error h
  obtain ⟨hpaging, p, hmem, hpage, hdeny, he⟩ := translate_error hfail
  obtain ⟨hpresent, hwrite, huser, hreserved, hfetch, hrest⟩ := pfCode_bits p.present k (!sup && s.cpl == 3)
  exact ⟨j, p, _, hj, he, hpaging, hmem, hpage, hdeny, hpresent, hwrite, huser, hreserved, hfetch, hrest, hbelow⟩

end Sys2Proof.Claims

/-! ## Remote atomic operations -/

namespace Sys2Proof.Machine

variable {s : State} {sz : RaoSize} {m : MemOp}

/-- The meaning that the rows of the four operations share (R402, R408 to R411). -/
theorem exec_raoInstr (op : RaoOp) (sz : RaoSize) (m : MemOp) (r : Gpr) (s : State) :
    exec (Claims.raoInstr op sz m r) s = settle (raoPost op sz m r) s := by
  cases op <;> rfl

/-- A legal destination: aligned, translated for a write, and all of it write-back memory (R402). -/
theorem raoCheck_ok {n : Nat} {la : W64} {as : List Nat} (hl : checkLinear s (segOf m) (s.ea m) n true = .ok la)
    (ha : la.toNat % n = 0) (ht : translateBytes s .write false n la = .ok as)
    (hw : ∀ a ∈ as, memType s.cfg a = .wb) : raoCheck s m n = .ok as := by
  have halign : aligned la n = true := beq_iff_eq.mpr ha
  have hall : as.all (fun a => memType s.cfg a == .wb) = true := List.all_eq_true.mpr fun a h => beq_iff_eq.mpr (hw a h)
  simp only [raoCheck, hl, bind, Except.bind, halign, Bool.not_true, Bool.false_eq_true, if_false, ht, hall, if_true]

/-- Outside a transaction an RAO instruction whose checks pass posts its update. -/
theorem raoPost_run {op : RaoOp} {r : Gpr} {as : List Nat} (hf : hasRaoInt s.cfg = true) (hx : s.ctx.tsx = false)
    (hc : raoCheck s m (raoWidth sz) = .ok as) :
    raoPost op sz m r s = .ok () (s.post ⟨op, as, raoSrc sz (s.reg r)⟩) := by
  unfold raoPost
  simp only [Act.bind_run, Act.get_run, hf, hc, hx, Bool.not_false, need_true, liftE_ok, Act.set_run]

end Sys2Proof.Machine

namespace Sys2Proof.Claims

open Sys2Proof.Machine

/-- Settles O24: where every check passes, the instruction is its post. -/
theorem raoPosts : Obligations.RaoPosts := by
  intro op sz m r s la as hf hx hl ha ht hw
  rw [exec_raoInstr, settle_ok (raoPost_run hf hx (raoCheck_ok hl ha ht hw))]
  rfl

end Sys2Proof.Claims

/-! ## What performing posted updates gives -/

namespace Sys2Proof.Machine

/-! ### One update (R130) -/

/-- The bytes of a number hold it, cut to their width. -/
theorem leNat_leBytes (n w : Nat) : leNat (leBytes n w) = w % 256 ^ n := by
  induction n generalizing w with
  | zero => exact (Nat.mod_one w).symm
  | succ n ih => rw [leBytes, leNat, ih, BitVec.toNat_ofNat, pow_succ' 256 n, Nat.mod_mul]

/-- Bytes written at addresses that are all different are read back. -/
theorem readBytes_writeBytes (m : Store Byte) {as : List Nat} {bs : List Byte} (hd : as.Nodup)
    (hl : bs.length = as.length) : readBytes (writeBytes m as bs) as = bs := by
  induction as generalizing m bs with
  | nil => exact (List.length_eq_zero_iff.mp hl).symm
  | cons a as ih =>
    cases bs with
    | nil => cases hl
    | cons b bs =>
      obtain ⟨ha, hd⟩ := List.nodup_cons.mp hd
      have hhead : readByte (writeBytes (writeByte m a b) as bs) a = b := by
        rw [readByte_writeBytes_frame _ as bs a ha, readByte_writeByte, if_pos rfl]
      exact congrArg₂ List.cons hhead (ih (writeByte m a b) hd (Nat.succ.inj hl))

/-- An update leaves in its location what its operation makes of the old value. -/
theorem leNat_raoPerform (m : Store Byte) {e : RaoEntry} (hd : e.bytes.Nodup) :
    leNat (readBytes (raoPerform m e) e.bytes) =
      (e.op.apply (leVal 64 (readBytes m e.bytes)) e.src).toNat % 256 ^ e.bytes.length := by
  rw [raoPerform, readBytes_writeBytes m hd (toBytes_length _ _), toBytes, leNat_leBytes]

/-! ### What a load reads (R131) -/

theorem readByte_raoPerformAll_frame (m : Store Byte) {l : List RaoEntry} {a : Nat} (h : ∀ e ∈ l, a ∉ e.bytes) :
    readByte (raoPerformAll m l) a = readByte m a := by
  induction l generalizing m with
  | nil => rfl
  | cons e l ih =>
    obtain ⟨he, hl⟩ := List.forall_mem_cons.mp h
    exact (ih (raoPerform m e) hl).trans (readByte_raoPerform_frame m e a he)

/-- The footprint of a split holds the access. -/
theorem subset_raoSplit_footprint (fp : List Nat) (l : List RaoEntry) : fp ⊆ (raoSplit fp l).2.2 := by
  induction l with
  | nil => exact List.Subset.refl fp
  | cons e r ih =>
    simp only [raoSplit]
    split
    · exact List.Subset.trans ih (List.subset_append_right _ _)
    · exact ih

/-- The updates that may wait touch no byte of the access. -/
theorem notMem_raoSplit_kept {fp : List Nat} {a : Nat} (ha : a ∈ fp) (l : List RaoEntry) :
    ∀ e ∈ (raoSplit fp l).2.1, a ∉ e.bytes := by
  induction l with
  | nil => nofun
  | cons e r ih =>
    simp only [raoSplit]
    split
    · exact ih
    · next ho =>
      have hapart := disjoint_of_overlaps_eq_false (Bool.eq_false_iff.mpr ho)
      exact List.forall_mem_cons.mpr ⟨fun he => hapart he (subset_raoSplit_footprint fp r ha), ih⟩

theorem State.notMem_raoForce_rao (s : State) {as : List Nat} {a : Nat} (ha : a ∈ as) :
    ∀ e ∈ (s.raoForce as).rao, a ∉ e.bytes := by
  unfold State.raoForce
  split
  · next h => rw [h]; nofun
  · exact notMem_raoSplit_kept ha s.rao

/-- A load reads memory as this processor sees it. -/
theorem State.readBytes_raoForce (s : State) (as : List Nat) :
    readBytes (s.raoForce as).mem as = readBytes s.seen as := by
  refine List.map_congr_left fun a ha => ?_
  calc readByte (s.raoForce as).mem a
    _ = readByte (s.raoForce as).seen a := (readByte_raoPerformAll_frame _ (s.notMem_raoForce_rao ha)).symm
    _ = readByte s.seen a := s.sameMemory_raoForce as a

end Sys2Proof.Machine

namespace Sys2Proof.Claims

open Sys2Proof.Machine

/-- Settles O26: an update is a write of its own bytes, and a forced load finds none of its bytes still posted. -/
theorem postedUpdates : Obligations.PostedUpdates :=
  ⟨fun m e hd => ⟨leNat_raoPerform m hd, fun a ha => readByte_raoPerform_frame m e a ha⟩,
    fun s as => ⟨s.readBytes_raoForce as, s.sameMemory_raoForce as⟩⟩

end Sys2Proof.Claims

/-! ## Memory under an instruction that stores nothing

A property of the state that depends on memory and its posted updates only, and that performing updates keeps, is kept by
every instruction that stores nothing: proved once, along the structure of the instructions' actions. -/

namespace Sys2Proof.Machine

/-- Memory with its posted updates. -/
def State.memory (s : State) : Store Byte × List RaoEntry := (s.mem, s.rao)

/-- A property of memory and its posted updates that performing updates keeps: those that an access must follow, or all. -/
structure LoadInvariant (P : State → Prop) : Prop where
  congr : ∀ {s t : State}, P s → t.memory = s.memory → P t
  raoForce : ∀ {s : State} (fp : List Nat), P s → P (s.raoForce fp)
  raoDrain : ∀ {s : State}, P s → P s.raoDrain

theorem State.seen_congr {s t : State} (e : t.memory = s.memory) : t.seen = s.seen :=
  congrArg (fun p : Store Byte × List RaoEntry => raoPerformAll p.1 p.2) e

/-- To read the same as `s` is one (R131). -/
theorem loadInvariant_sameMemory (s : State) : LoadInvariant (sameMemory s) where
  congr h e a := (congrArg (readByte · a) (State.seen_congr e)).trans (h a)
  raoForce fp h a := (State.sameMemory_raoForce _ fp a).trans (h a)
  raoDrain h a := h a

theorem State.memory_takeTrap (s : State) (e : Trap) : (s.takeTrap e).memory = s.memory := by cases e <;> rfl

theorem State.memory_msrStore (s : State) (a : Nat) (v : W64) : (msrStore s a v).memory = s.memory := by
  obtain ⟨h, -⟩ := s.msrFrame_msrStore a v
  simp only [State.besidesMsr, Prod.mk.injEq] at h
  simp only [State.memory, h]

theorem State.memory_setReg8 (s : State) (d : Reg8) (v : Byte) : (s.setReg8 d v).memory = s.memory := by
  cases d <;> rfl

theorem State.memory_setRegSized (s : State) (sz : OpSize) (g : Gpr) (v : W64) :
    (s.setRegSized sz g v).memory = s.memory := by
  cases sz <;> rfl

theorem State.memory_setPconfigRax (s : State) (v : Nat) : (s.setPconfigRax v).memory = s.memory := by
  unfold State.setPconfigRax; split <;> rfl

theorem State.memory_mwaitEffect (s : State) : (mwaitEffect s).memory = s.memory := by
  obtain ⟨h, -⟩ := mwaitEffect_eq s
  rw [h]; rfl

theorem State.memory_armAt (s : State) (a : Nat) : (s.armAt a).memory = s.memory := by
  rw [State.armAt_eq]; rfl

theorem State.memory_loadConfig (s : State) (b : List Byte) : (s.loadConfig b).memory = s.memory := by
  unfold State.loadConfig; split <;> rfl

theorem State.memory_pairPrologue (s : State) (t : Tmm) (n : Nat) : (s.pairPrologue t n).memory = s.memory := by
  unfold State.pairPrologue; dsimp only; split <;> rfl

theorem State.memory_pairRow (s : State) (t : Tmm) (i base : Nat) (v : W512) :
    (s.pairRow t i base v).memory = s.memory := by
  unfold State.pairRow; split <;> rfl

namespace LoadInvariant

section

variable {P : State → Prop} (hP : LoadInvariant P)
include hP

/-! ### Loads and updates of other state -/

/-- An update of other state keeps the property. -/
theorem update {f : State → State} (hf : ∀ s, (f s).memory = s.memory := by exact fun _ => rfl) :
    Act.Keeps P (modify f : Act Unit) :=
  .modify fun s h => hP.congr h (hf s)

theorem loadPhys (as : List Nat) : Act.Keeps P (loadPhys as) := fun _ h => hP.raoForce as h

theorem memRead (seg : Seg) (off : W64) (n : Nat) (ac : Bool) : Act.Keeps P (memRead seg off n ac) :=
  .getBind fun _ _ => .bind (.liftE _) fun as => hP.loadPhys as

theorem loadOp (m : MemOp) (n : Nat) (ac : Bool) : Act.Keeps P (loadOp m n ac) :=
  .getBind fun _ _ => hP.memRead _ _ _ _

theorem settle {a : Act Unit} (ha : Act.Keeps P a) {s t : State} (ht : settle a s = .next t) (h : P s) : P t := by
  have hs := ha s h
  obtain ⟨u, hu, he⟩ | ⟨e, u, hu, he⟩ := settle_run a s <;> rw [he] at ht <;> cases ht <;>
    simp only [Act.final, hu] at hs
  · exact hP.congr hs rfl
  · exact hP.congr hs (u.memory_takeTrap e)

/-! ### CPUID, MOVRS and SM4 -/

theorem cpuidEffect {s : State} (h : P s) : P (cpuidEffect s) :=
  have hl : P s.loadSignature := hP.congr h rfl
  hP.congr (hP.raoDrain hl) rfl

theorem movrsByte (d : Reg8) (m : MemOp) : Act.Keeps P (movrsByte d m) :=
  .getBind fun _ _ => .bind (.need _ _) fun _ => .bind (hP.loadOp m 1 true) fun _ =>
    hP.update fun s => s.memory_setReg8 d _

theorem movrsWide (sz : OpSize) (d : Gpr) (m : MemOp) : Act.Keeps P (movrsWide sz d m) :=
  .getBind fun _ _ => .bind (.need _ _) fun _ => .bind (hP.loadOp m _ true) fun _ =>
    hP.update fun s => s.memory_setRegSized sz d _

theorem vmovrs (e vl : Nat) (d : VReg) (k : KReg) (z : Bool) (m : MemOp) : Act.Keeps P (vmovrs e vl d k z m) :=
  .getBind fun _ _ => .bind (.need _ _) fun _ => .bind (.need _ _) fun _ => .bind (.liftE _) fun _ =>
    .bind (.modify fun _ h => hP.raoForce _ h) fun _ => hP.update

theorem vecSrc (vl : Nat) (v : VecSrc) : Act.Keeps P (vecSrc vl v) := by
  cases v with
  | reg r => exact .getBind fun _ _ => .pure _
  | mem m => exact .bind (hP.loadOp m _ true) fun _ => .pure _

theorem sm4 (ok : State → Bool) (l : W32 → W32) (vl : Nat) (d s1 : VReg) (s2 : VecSrc) :
    Act.Keeps P (sm4 ok l vl d s1 s2) :=
  .getBind fun _ _ => .bind (.need _ _) fun _ => .bind (.need _ _) fun _ => .bind (hP.vecSrc vl s2) fun _ => hP.update

/-! ### PCONFIG -/

/-- A free value is drawn. -/
theorem draw {α : Type} (f : State → α) :
    Act.Keeps P (do let s ← get; set (s.drawn 1); return f s : Act α) :=
  .getBind fun _ h => .bind (.set (hP.congr h rfl)) fun _ => .pure _

theorem pconfigFailure (reason : Nat) : Act.Keeps P (pconfigFailure reason) :=
  hP.update fun s => s.memory_setPconfigRax reason

theorem pconfigSuccess : Act.Keeps P pconfigSuccess := hP.update fun s => s.memory_setPconfigRax 0

/-- A key slot of the TME-MK table is written, and PCONFIG succeeds. -/
theorem programTmemk (k : Nat) (v : KeySlot) :
    Act.Keeps P (do modify (·.setTmemk k v); Machine.pconfigSuccess) :=
  .bind hP.update fun _ => hP.pconfigSuccess

theorem programTse (k : Nat) (v : KeySlot) : Act.Keeps P (do modify (·.setTse k v); Machine.pconfigSuccess) :=
  .bind hP.update fun _ => hP.pconfigSuccess

theorem mktmeCommand (t : List Byte) : Act.Keeps P (mktmeCommand t) := by
  unfold Machine.mktmeCommand
  split
  · exact hP.programTmemk _ _
  · exact .bind (hP.draw _) fun _ => .ite (.bind (hP.draw _) fun _ => .ite (hP.programTmemk _ _) (hP.pconfigFailure 2))
      (hP.pconfigFailure 2)
  · exact hP.programTmemk _ _
  · exact hP.programTmemk _ _

theorem mktmeProgram : Act.Keeps P mktmeProgram :=
  .getBind fun _ _ => .bind (.need _ _) fun _ => .bind (.need _ _) fun _ => .bind (.need _ _) fun _ =>
    .bind (hP.memRead _ _ _ _) fun t => .bind (.need _ _) fun _ => .bind (hP.draw _) fun _ =>
      .ite (hP.mktmeCommand t) (hP.pconfigFailure 5)

theorem tseProgram : Act.Keeps P tseProgram :=
  .getBind fun _ _ => .bind (.need _ _) fun _ => .bind (.need _ _) fun _ => .bind (.need _ _) fun _ =>
    .bind (hP.memRead _ _ _ _) fun _ => .bind (.need _ _) fun _ => .bind (hP.draw _) fun _ =>
      .ite (hP.programTse _ _) (hP.pconfigFailure 5)

theorem tseProgramWrapped : Act.Keeps P tseProgramWrapped :=
  .getBind fun _ _ => .bind (.need _ _) fun _ => .bind (.need _ _) fun _ => .bind (hP.memRead _ _ _ _) fun _ =>
    .bind (.need _ _) fun _ => .ite (.bind (hP.draw _) fun _ => .ite (hP.programTse _ _) (hP.pconfigFailure 5))
      (hP.pconfigFailure 7)

theorem configure : Act.Keeps P configure := by
  refine .getBind fun s _ => .bind (.need _ _) fun _ => ?_
  split
  · exact hP.mktmeProgram
  · exact hP.tseProgram
  · exact hP.tseProgramWrapped
  · exact .throw _

/-! ### MSRs, MONITOR and MWAIT -/

theorem msrRead (a : Nat) : Act.Keeps P (msrRead a) :=
  .getBind fun _ h => .bind (.need _ _) fun _ =>
    .bind (.set (iteInduction (fun _ => h) fun _ => hP.congr h rfl)) fun _ => .pure _

theorem msrWrite (a : Nat) (v : W64) : Act.Keeps P (msrWrite a v) :=
  .getBind fun s h => .bind (.need _ _) fun _ => .set (hP.congr h (s.memory_msrStore _ v))

theorem msrExit {s : State} (a : Nat) (write : Bool) (q : W64) (h : P s) : Act.Keeps P (msrExit s a write q) :=
  .ite (.bind (.set (hP.congr h rfl)) fun _ => .throw _) (.pure _)

/-- The permission bit of a user-mode MSR access is loaded from the bitmap (R45). -/
theorem userMsrAllowed (write : Bool) (a : W64) : Act.Keeps P (userMsrAllowed write a) :=
  have hbit : Act.Keeps P (userMsrBit write a.toNat) :=
    .getBind fun _ _ => .bind (.liftE _) fun as => .bind (hP.loadPhys as) fun _ => .pure _
  .getBind fun _ _ => .bind (.need _ _) fun _ => .bind hbit fun _ => .getBind fun _ _ => .need _ _

theorem userMsrExit (g : Gpr) (a : Nat) (write : Bool) : Act.Keeps P (userMsrExit g a write) :=
  .getBind fun _ h => .ite (.ite (.bind (.set (hP.congr h rfl)) fun _ => .throw _) (.throw _)) (.pure _)

theorem readMsrImplicit : Act.Keeps P readMsrImplicit :=
  .getBind fun _ h => .bind (.need _ _) fun _ => .bind (.need _ _) fun _ => .bind (hP.msrExit _ _ _ h) fun _ =>
    .bind (hP.msrRead _) fun _ => hP.update

theorem readMsrImm (apx : Bool) (d : Gpr) (imm : W32) : Act.Keeps P (readMsrImm apx d imm) :=
  .getBind fun _ h => .bind (.need _ _) fun _ => .bind (.need _ _) fun _ => .bind (hP.msrExit _ _ _ h) fun _ =>
    .bind (hP.msrRead _) fun _ => hP.update

theorem writeMsrImplicit : Act.Keeps P writeMsrImplicit :=
  .getBind fun _ h => .bind (.need _ _) fun _ => .bind (.need _ _) fun _ => .bind (hP.msrExit _ _ _ h) fun _ =>
    hP.msrWrite _ _

theorem writeMsrImm (apx : Bool) (imm : W32) (g : Gpr) : Act.Keeps P (writeMsrImm apx imm g) :=
  .getBind fun _ h => .bind (.need _ _) fun _ => .bind (.need _ _) fun _ => .bind (hP.msrExit _ _ _ h) fun _ =>
    hP.msrWrite _ _

theorem userRead (d : Gpr) (a : W64) : Act.Keeps P (userRead d a) :=
  .getBind fun _ _ => .bind (.need _ _) fun _ => .bind (hP.userMsrAllowed false a) fun _ =>
    .getBind fun _ _ => .bind (.need _ _) fun _ => .bind (hP.userMsrExit _ _ _) fun _ =>
      .bind (hP.msrRead _) fun _ => hP.update

theorem userWrite (a : W64) (g : Gpr) : Act.Keeps P (userWrite a g) :=
  .getBind fun _ _ => .bind (.need _ _) fun _ => .bind (hP.userMsrAllowed true a) fun _ =>
    .getBind fun _ _ => .bind (.need _ _) fun _ => .bind (.need _ _) fun _ => .bind (hP.userMsrExit _ _ _) fun _ =>
      hP.msrWrite _ _

theorem waitOnMonitor : Act.Keeps P waitOnMonitor :=
  .getBind fun s h => .bind (.need _ _) fun _ => .bind (.need _ _) fun _ => .set (hP.congr h s.memory_mwaitEffect)

theorem armMonitor (seg : Option Seg) (asz : AddrSize) : Act.Keeps P (armMonitor seg asz) :=
  .getBind fun _ _ => .bind (.need _ _) fun _ => .bind (.liftE _) fun as => .bind (hP.loadPhys as) fun _ =>
    hP.update fun s => s.memory_armAt _

/-! ### AMX -/

/-- An operation on tiles alone: the checks, then a new state with the memory of the old one. -/
theorem tileOp (ok : Cfg → Bool) (check : State → Bool) {f : State → State}
    (hf : ∀ s, (f s).memory = s.memory := by exact fun _ => rfl) :
    Act.Keeps P (do
      Machine.amxBegin ok
      Machine.tileDataEnabled
      let s ← get
      need (check s) udTrap
      set (f s)) :=
  .bind (.amxBegin ok) fun _ => .bind .tileDataEnabled fun _ => .getBind fun s h => .bind (.need _ _) fun _ =>
    .set (hP.congr h (hf s))

theorem rowToZmm (f : W32 → W32) (d : VReg) (t : Tmm) (sel : RowSel) : Act.Keeps P (rowToZmm f d t sel) :=
  .getBind fun _ _ => .bind (.need _ _) fun _ => .bind (.amxBegin _) fun _ => .getBind fun _ h =>
    .bind (.need _ _) fun _ => .bind .tileDataEnabled fun _ => .bind (.need _ _) fun _ => .bind (.need _ _) fun _ =>
      .set (hP.congr h rfl)

theorem loadTileConfig (m : MemOp) : Act.Keeps P (loadTileConfig m) :=
  .bind (.amxBegin _) fun _ => .bind (hP.loadOp m 64 false) fun b => .getBind fun s h => .bind (.need _ _) fun _ =>
    .set (hP.congr h (s.memory_loadConfig b))

theorem releaseTileConfig : Act.Keeps P releaseTileConfig := .bind (.amxBegin _) fun _ => hP.update

theorem readRow (m : MemOp) (i n : Nat) : Act.Keeps P (readRow m i n) :=
  .bind hP.update fun _ => .getBind fun _ _ => .bind (hP.memRead _ _ _ _) fun _ => .pure _

theorem loadRows (t : Tmm) (m : MemOp) (nbytes n i : Nat) : Act.Keeps P (loadRows t m nbytes n i) := by
  induction n generalizing i with
  | zero => exact .pure _
  | succ n ih => exact .bind (hP.readRow m i nbytes) fun _ => .bind hP.update fun _ => ih (i + 1)

theorem tileLoad (ok : Cfg → Bool) (t : Tmm) (m : MemOp) : Act.Keeps P (tileLoad ok t m) :=
  .bind (.amxBegin ok) fun _ => .bind .tileDataEnabled fun _ => .getBind fun _ _ => .bind (.need _ _) fun _ =>
    .bind hP.update fun _ => .bind (hP.loadRows _ _ _ _ _) fun _ => hP.update

theorem pairRows (a b : Tmm) (m : MemOp) (limit n i : Nat) : Act.Keeps P (pairRows a b m limit n i) := by
  induction n generalizing i with
  | zero => exact .pure _
  | succ n ih =>
    exact .getBind fun _ _ => .bind (.ite (hP.readRow m i _) (.pure _)) fun _ =>
      .bind (hP.update fun _ => (State.memory_pairRow _ b i _ _).trans (State.memory_pairRow _ a i 0 _)) fun _ =>
        ih (i + 1)

theorem pairLoad (ok : Cfg → Bool) (pad : Nat) (t : Tmm) (m : MemOp) : Act.Keeps P (pairLoad ok pad t m) :=
  .bind (.amxBegin ok) fun _ => .bind .tileDataEnabled fun _ => .getBind fun _ _ => .bind (.need _ _) fun _ =>
    .bind (hP.update fun _ => (State.memory_pairPrologue _ _ _).trans (State.memory_pairPrologue _ _ _)) fun _ =>
      .bind (hP.pairRows _ _ _ _ _ _) fun _ => hP.update

/-! ### Instructions -/

/-- Every instruction that stores nothing keeps the property. -/
theorem exec {i : Instr} (hi : storesMemory i = false) {s t : State} (ht : exec i s = .next t) (h : P s) : P t := by
  cases i with
  | aadd | aand | aor | axor | pbndkb | sttilecfg | tilestored => cases hi
  | cpuid => exact hP.settle (.modify fun _ h => hP.cpuidEffect h) ht h
  | movrsB d m => exact hP.settle (hP.movrsByte d m) ht h
  | movrsV sz d m => exact hP.settle (hP.movrsWide sz d m) ht h
  | vmovrsB128 d k z m | vmovrsB256 d k z m | vmovrsB512 d k z m | vmovrsW128 d k z m | vmovrsW256 d k z m
  | vmovrsW512 d k z m | vmovrsD128 d k z m | vmovrsD256 d k z m | vmovrsD512 d k z m | vmovrsQ128 d k z m
  | vmovrsQ256 d k z m | vmovrsQ512 d k z m => exact hP.settle (hP.vmovrs _ _ d k z m) ht h
  | prefetchrst2 m => exact hP.settle (.pure ()) ht h
  | pconfig => exact hP.settle hP.configure ht h
  | rdmsr => exact hP.settle hP.readMsrImplicit ht h
  | rdmsrImm d imm | rdmsrImmApx d imm => exact hP.settle (hP.readMsrImm _ d imm) ht h
  | urdmsr d a | urdmsrImm d a => exact hP.settle (hP.userRead d _) ht h
  | uwrmsr a v | uwrmsrImm a v => exact hP.settle (hP.userWrite _ v) ht h
  | wrmsrns => exact hP.settle hP.writeMsrImplicit ht h
  | wrmsrnsImm imm v | wrmsrnsImmApx imm v => exact hP.settle (hP.writeMsrImm _ imm v) ht h
  | mwait => exact hP.settle hP.waitOnMonitor ht h
  | monitor seg asz => exact hP.settle (hP.armMonitor seg asz) ht h
  | vsm4Key4Vex128 d a b | vsm4Key4Vex256 d a b | vsm4Key4Evex128 d a b | vsm4Key4Evex256 d a b
  | vsm4Key4Evex512 d a b | vsm4Rnds4Vex128 d a b | vsm4Rnds4Vex256 d a b | vsm4Rnds4Evex128 d a b
  | vsm4Rnds4Evex256 d a b | vsm4Rnds4Evex512 d a b => exact hP.settle (hP.sm4 _ _ _ d a b) ht h
  | ldtilecfg m => exact hP.settle (hP.loadTileConfig m) ht h
  | tilerelease => exact hP.settle hP.releaseTileConfig ht h
  | tileloadd t m | tileloaddT1 t m | tileloaddrs t m | tileloaddrsT1 t m => exact hP.settle (hP.tileLoad _ t m) ht h
  | t2rpntlvwZ0 t m | t2rpntlvwZ0T1 t m | t2rpntlvwZ1 t m | t2rpntlvwZ1T1 t m | t2rpntlvwZ0RS t m
  | t2rpntlvwZ0RST1 t m | t2rpntlvwZ1RS t m | t2rpntlvwZ1RST1 t m => exact hP.settle (hP.pairLoad _ _ t m) ht h
  | tilezero | tcmmimfp16ps | tcmmrlfp16ps | tdpbf8ps | tdpbhf8ps | tdphbf8ps | tdphf8ps | tmmultf32ps
  | tconjtcmmimfp16ps | ttcmmimfp16ps | ttcmmrlfp16ps | ttdpbf16ps | ttdpfp16ps | ttmmultf32ps | tconjtfp16
  | ttransposed => exact hP.settle (hP.tileOp _ _) ht h
  | tcvtrowd2psR d t r | tcvtrowd2psI d t r | tcvtrowps2pbf16hR d t r | tcvtrowps2pbf16hI d t r
  | tcvtrowps2pbf16lR d t r | tcvtrowps2pbf16lI d t r | tcvtrowps2phhR d t r | tcvtrowps2phhI d t r
  | tcvtrowps2phlR d t r | tcvtrowps2phlI d t r | tilemovrowR d t r | tilemovrowI d t r =>
    exact hP.settle (hP.rowToZmm _ d t _) ht h

end

end LoadInvariant

end Sys2Proof.Machine

namespace Sys2Proof.Claims

open Sys2Proof.Machine

/-- Settles O14: to read the same as `s` is a property that performing updates keeps. -/
theorem memoryFrame : Obligations.MemoryFrame :=
  fun _ s _ hi ht => (loadInvariant_sameMemory s).exec hi ht fun _ => rfl

end Sys2Proof.Claims

/-! ## Decoding reads the instruction's own bytes -/

namespace Sys2Proof

variable {α β γ δ : Type}

/-! ### Stages that read the first of their bytes -/

/-- A decoding stage reads the first of its bytes and leaves the rest: what it answers, of the form `k a rest`, depends on what it
read alone. -/
structure Reads (k : α → List Byte → β) (f : List Byte → Dec β) : Prop where
  split : ∀ {bs b}, f bs = .ok b → ∃ a c r, b = k a r ∧ bs = c ++ r ∧ ∀ t, f (c ++ t) = .ok (k a t)

namespace Reads

variable {k : α → List Byte → β} {k' : γ → List Byte → δ}

theorem ok (a : α) : Reads k fun r => .ok (k a r) where
  split := by
    rintro bs b ⟨⟩
    exact ⟨a, [], bs, rfl, rfl, fun _ => rfl⟩

theorem error (e : DecErr) : Reads k fun _ => .error e := ⟨nofun⟩

theorem ite {c : Prop} [Decidable c] {f g : List Byte → Dec β} (hf : Reads k f) (hg : Reads k g) :
    Reads k fun r => if c then f r else g r := by
  by_cases h : c
  · simpa only [h, if_true] using hf
  · simpa only [h, if_false] using hg

/-- A stage that needs a first byte. -/
theorem cons {f : List Byte → Dec β} {e : DecErr} (h0 : f [] = .error e) (h : ∀ b, Reads k fun r => f (b :: r)) :
    Reads k f where
  split := by
    intro bs x hx
    cases bs with
    | nil => rw [h0] at hx; cases hx
    | cons b r =>
      obtain ⟨a, c, r', rfl, rfl, ht⟩ := (h b).split hx
      exact ⟨a, b :: c, r', rfl, rfl, ht⟩

theorem bind {f : List Byte → Dec β} {g : β → Dec δ} (hf : Reads k f) (hg : ∀ a, Reads k' fun r => g (k a r)) :
    Reads k' fun bs => f bs >>= g where
  split := by
    intro bs d hd
    cases hb : f bs with
    | error e => rw [hb] at hd; cases hd
    | ok b =>
      rw [hb] at hd
      obtain ⟨a, c, r, rfl, rfl, hc⟩ := hf.split hb
      obtain ⟨a', c', r', rfl, rfl, hc'⟩ := (hg a).split hd
      refine ⟨a', c ++ c', r', rfl, (List.append_assoc ..).symm, fun t => ?_⟩
      rw [List.append_assoc, hc]
      exact hc' t

end Reads

/-! ### The stages of the decoder -/

/-- The answer of a stage that reads one value. -/
abbrev ReadsOne (f : List Byte → Dec (α × List Byte)) : Prop := Reads Prod.mk f

/-- The answer of `readMem`: the operand, whether it has a SIB byte, and the rest. -/
def memAnswer (x : MemOp × Bool) (r : List Byte) : MemOp × Bool × List Byte := (x.1, x.2, r)

theorem reads_take8 : ReadsOne take8 := .cons rfl fun b => .ok b

theorem reads_take32 : ReadsOne take32 :=
  .cons rfl fun a => .cons rfl fun b => .cons rfl fun c => .cons rfl fun d => .ok (le32Of a b c d)

theorem reads_readDisp (md n : Nat) : ReadsOne (readDisp md n) :=
  .ite (.cons rfl fun b => .ok (disp8 n b)) (.ite reads_take32 (.ok 0))

theorem reads_readDisp16 (md n : Nat) : ReadsOne (readDisp16 md n) :=
  .ite (.cons rfl fun b => .ok (disp8 n b))
    (.ite (.cons rfl fun _ => .cons rfl fun _ => .ok _) (.ok 0))

theorem reads_readMem (m : DecMode) (p : Pfx) (c : MemCtx) (mr : ModRm) : Reads memAnswer (readMem m p c mr) := by
  unfold readMem
  cases addrSizeOf m p with
  | a16 => exact .ite (.bind (reads_readDisp16 ..) fun _ => .ok (_, _)) (.bind (reads_readDisp16 ..) fun _ => .ok (_, _))
  | a32 | a64 =>
    exact .ite
      (.cons rfl fun _ => .ite (.bind reads_take32 fun _ => .ok (_, _)) (.bind (reads_readDisp ..) fun _ => .ok (_, _)))
      (.ite (.bind reads_take32 fun _ => .ok (_, _)) (.bind (reads_readDisp ..) fun _ => .ok (_, _)))

theorem reads_legacyMem (m : DecMode) (p : Pfx) (k : Nat → MemOp → Instr) : ReadsOne fun bs => legacyMem m p bs k :=
  .cons rfl fun _ => .ite (.error _) (.bind (reads_readMem ..) fun _ => .ok _)

theorem reads_decodeLegacy38 (m : DecMode) (p : Pfx) (op : Nat) : ReadsOne (decodeLegacy38 m p op) :=
  .ite (.ite (.error _) (reads_legacyMem ..)) <|
  .ite (.ite (.error _) (reads_legacyMem ..)) <|
  .ite (.ite (.error _) (reads_legacyMem ..)) <|
  .ite (.cons rfl fun _ => .ite (.ite (.error _) (.ite (.ok _) (.ite (.ok _) (.error _)))) (.ite (.error _) (.error _)))
    (.error _)

theorem reads_decode0F01 (m : DecMode) (p : Pfx) : ReadsOne (decode0F01 m p) :=
  .cons rfl fun _ =>
    .ite (.ite (.error _) (.ok _)) <| .ite (.ite (.error _) (.ok _)) <|
    .ite (.ite (.error _) (.ite (.error _) (.ite (.error _) (.ok _)))) <|
    .ite (.ite (.error _) (.ok _)) <| .ite (.ite (.error _) (.ok _)) (.error _)

theorem reads_decode0F18 (m : DecMode) (p : Pfx) : ReadsOne (decode0F18 m p) :=
  .cons rfl fun _ => .ite (.ite (.error _) (.bind (reads_readMem ..) fun _ => .ok _)) (.error _)

theorem reads_decode0F (m : DecMode) (p : Pfx) : ReadsOne (decode0F m p) :=
  .cons rfl fun _ =>
    .ite (.ite (.error _) (.ok _)) <| .ite (.ite (.error _) (.ok _)) <|
    .ite (reads_decode0F01 m p) <| .ite (reads_decode0F18 m p) <|
    .ite (.cons rfl fun o => reads_decodeLegacy38 m p o.toNat) (.error _)

theorem reads_decodeVexSm4 (m : DecMode) (p : Pfx) (e : Vex) (mr : ModRm) : ReadsOne (decodeVexSm4 m p e mr) :=
  .bind (k := Prod.mk) (.ite (.ok _) (.bind (reads_readMem ..) fun _ => .ok _)) fun _ =>
    .ite (.ok _) (.ite (.ok _) (.error _))

theorem reads_decodeVex49 (m : DecMode) (p : Pfx) (e : Vex) (mr : ModRm) : ReadsOne (decodeVex49 m p e mr) :=
  .ite (.error _) <| .ite (.ite (.ok _) (.ite (.ok _) (.error _))) <| .ite (.error _) <|
  .ite (.bind (reads_readMem ..) fun _ => .ok _) <| .ite (.bind (reads_readMem ..) fun _ => .ok _) (.error _)

theorem reads_decodeVexMsr (e : Vex) (op : Nat) (mr : ModRm) : ReadsOne (decodeVexMsr e op mr) :=
  .ite (.error _) <| .ite
    (.ite (.bind reads_take32 fun _ => .ok _) (.ite (.bind reads_take32 fun _ => .ok _) (.error _)))
    (.ite (.bind reads_take32 fun _ => .ok _) (.ite (.bind reads_take32 fun _ => .ok _) (.error _)))

theorem reads_decodeVexAmx (m : DecMode) (p : Pfx) (e : Vex) (op : Nat) (mr : ModRm) :
    ReadsOne (decodeVexAmx m p e op mr) := by
  unfold decodeVexAmx
  refine .ite ?_ ?_
  · cases vexTile3 e.map op e.pp with
    | some k => exact .ok _
    | none =>
      cases vexTile2 e.map op e.pp with
      | some k => exact .ite (.error _) (.ok _)
      | none => exact .error _
  · cases vexSib e.map op e.pp with
    | none => exact .error _
    | some k => exact .ite (.error _) (.bind (reads_readMem ..) fun _ => .ite (.ok _) (.error _))

theorem reads_decodeVex (m : DecMode) (p : Pfx) (e : Vex) : ReadsOne (decodeVex m p e) :=
  .cons rfl fun _ => .ite (.error _) <| .ite (.error _) <| .cons rfl fun _ =>
    .ite (reads_decodeVexSm4 ..) <| .ite (.error _) <| .ite (reads_decodeVex49 ..) <|
    .ite (reads_decodeVexMsr ..) (reads_decodeVexAmx ..)

theorem reads_decodeVmovrs (m : DecMode) (p : Pfx) (e : Evex) (mr : ModRm) : ReadsOne (decodeVmovrs m p e mr) := by
  unfold decodeVmovrs
  cases vmovrsOf e.pp e.w e.ll with
  | none => exact .error _
  | some k => exact .ite (.error _) (.bind (reads_readMem ..) fun _ => .ok _)

theorem reads_decodeEvexSm4 (m : DecMode) (p : Pfx) (e : Evex) (mr : ModRm) : ReadsOne (decodeEvexSm4 m p e mr) := by
  unfold decodeEvexSm4
  cases sm4EvexOf e.pp e.ll with
  | none => exact .error _
  | some k => exact .ite (.error _) (.ite (.ok _) (.bind (reads_readMem ..) fun _ => .ok _))

theorem reads_decodeEvexRow (e : Evex) (op : Nat) (mr : ModRm) : ReadsOne (decodeEvexRow e op mr) := by
  unfold decodeEvexRow
  refine .ite (.error _) ?_
  cases evexRowReg e.map op e.pp with
  | some k => exact .ok _
  | none =>
    cases evexRowImm e.map op e.pp with
    | some k => exact .ite (.error _) (.bind reads_take8 fun _ => .ok _)
    | none => exact .error _

theorem reads_decodeEvexMsr (e : Evex) (mr : ModRm) : ReadsOne (decodeEvexMsr e mr) :=
  .ite (.error _) (.ite (.bind reads_take32 fun _ => .ok _) (.ite (.bind reads_take32 fun _ => .ok _) (.error _)))

theorem reads_decodeEvex (m : DecMode) (p : Pfx) (e : Evex) : ReadsOne (decodeEvex m p e) :=
  .cons rfl fun _ => .ite (.error _) <| .ite (.error _) <| .cons rfl fun _ =>
    .ite (reads_decodeVmovrs ..) <| .ite (reads_decodeEvexSm4 ..) <| .ite (reads_decodeEvexMsr ..)
    (reads_decodeEvexRow ..)

/-- What follows an opcode byte: the opcode stage reads it and the first of what stands behind it. -/
theorem reads_decodeOpcode_tail (m : DecMode) (p : Pfx) (b : Byte) : ReadsOne fun r => decodeOpcode m p (b :: r) :=
  .ite (reads_decode0F ..) <| .ite (.error _) <|
  .ite (.cons rfl fun _ => .ite (.error _) <| .ite (.error _) <|
    .ite (.cons rfl fun _ => .error _) <|
    .cons rfl fun _ => .ite (reads_decodeVex ..) <| .cons rfl fun _ => reads_decodeEvex ..)
  (.error _)

/-! ### The prefixes and the whole instruction -/

/-- The prefixes stop at a byte that is none, and what stands behind that byte does not matter. -/
theorem readPfx_split (m : DecMode) (p : Pfx) (bs : List Byte) :
    readPfx m p bs = ((readPfx m p bs).1, []) ∨ ∃ pre b r, bs = pre ++ b :: r ∧
      ∀ t, readPfx m p (pre ++ b :: t) = ((readPfx m p bs).1, b :: t) := by
  induction bs generalizing p with
  | nil => exact .inl rfl
  | cons b r ih =>
    cases h : p.add m b with
    | none =>
      refine .inr ⟨[], b, r, rfl, fun t => ?_⟩
      simp only [List.nil_append, readPfx, h]
    | some p' =>
      have step : ∀ l, readPfx m p (b :: l) = readPfx m p' l := fun l => by simp only [readPfx, h]
      obtain hn | ⟨pre, b', r', rfl, ht⟩ := ih p'
      · exact .inl (by rw [step, hn])
      · exact .inr ⟨b :: pre, b', r', rfl, fun t => by rw [List.cons_append, step, ht, step]⟩

/-- An instruction stands at the head of the bytes, is not empty, and decodes alike whatever bytes follow it. -/
theorem decode_split {m : DecMode} {bs : List Byte} {i : Instr} {n : Nat} (h : decode m bs = .ok (i, n)) :
    ∃ c r, bs = c ++ r ∧ c.length = n ∧ 0 < n ∧ ∀ t, decode m (c ++ t) = .ok (i, n) := by
  unfold decode at h
  obtain hn | ⟨pre, b, r, rfl, ht⟩ := readPfx_split m {} bs
  · rw [hn] at h; cases h
  · rw [ht r] at h
    cases ho : decodeOpcode m (readPfx m {} (pre ++ b :: r)).1 (b :: r) with
    | error e => simp only [ho] at h; cases h
    | ok x =>
      obtain ⟨j, c, r', rfl, rfl, hc⟩ := (reads_decodeOpcode_tail m _ b).split ho
      simp only [ho] at h
      cases h
      refine ⟨pre ++ b :: c, r', by simp, by simp; omega, by simp; omega, fun t => ?_⟩
      have hpre : readPfx m {} (pre ++ b :: c ++ t) = ((readPfx m {} (pre ++ b :: (c ++ r'))).1, b :: (c ++ t)) := by
        rw [← ht, List.append_assoc, List.cons_append]
      simp only [decode, hpre, hc]
      simp
      omega

end Sys2Proof

namespace Sys2Proof.Claims

open Sys2Proof.Machine

/-- Settles O5: the stages of the decoder read the first of their bytes, so what follows an instruction does not matter. -/
theorem decodeReadsOnlyItsBytes : Obligations.DecodeReadsOnlyItsBytes := by
  intro m bs i n rest h
  obtain ⟨c, r, rfl, rfl, hpos, hall⟩ := decode_split h
  exact ⟨hpos, by simp, by simpa using hall rest⟩

end Sys2Proof.Claims

/-! ## Decoding what the encoder writes

By `decode_split` a round trip needs no bytes behind the instruction. The layers follow the encoding: fields of bytes, prefixes,
memory operand, then the legacy, VEX and EVEX forms, each proved once for all the opcodes that share it. -/

namespace Sys2Proof

/-! ### Registers and numbers -/

theorem Gpr.code_lt (g : Gpr) : g.code < 16 := by cases g <;> decide

@[simp] theorem Gpr.ofCode_code (g : Gpr) : Gpr.ofCode g.code = g := by cases g <;> rfl

/-- A register number out of its low three bits and its extension bit (R162). -/
theorem low_add_ext {n : Nat} (h : n < 16) : n % 8 + ext (decide (8 ≤ n)) 8 = n := by
  unfold ext; split <;> simp_all; omega

@[simp] theorem vregOf_val (r : Fin 32) : vregOf r.val = r := Fin.ext (Nat.mod_eq_of_lt r.isLt)

@[simp] theorem kregOf_val (k : Fin 8) : kregOf k.val = k := Fin.ext (Nat.mod_eq_of_lt k.isLt)

theorem bytesOf_append (l l' : List Nat) : bytesOf (l ++ l') = bytesOf l ++ bytesOf l' := List.map_append

@[simp] theorem bytesOf_cons (n : Nat) (l : List Nat) : bytesOf (n :: l) = BitVec.ofNat 8 n :: bytesOf l := rfl

@[simp] theorem bytesOf_nil : bytesOf [] = [] := rfl

theorem toNat_byte {n : Nat} (h : n < 256) : (BitVec.ofNat 8 n).toNat = n := by
  rw [BitVec.toNat_ofNat]; exact Nat.mod_eq_of_lt h

@[simp] theorem take32_le32 (w : W32) (r : List Byte) : take32 (le32 w ++ r) = .ok (w, r) := by
  have hw : le32Of (BitVec.ofNat 8 w.toNat) (BitVec.ofNat 8 (w.toNat / 256)) (BitVec.ofNat 8 (w.toNat / 65536))
      (BitVec.ofNat 8 (w.toNat / 16777216)) = w := by
    apply BitVec.eq_of_toNat_eq
    have := w.isLt
    simp only [le32Of, BitVec.toNat_ofNat]
    omega
  simp only [le32, List.cons_append, List.nil_append, take32, hw]

/-- The three fields of a ModRM or SIB byte (R163). -/
theorem modRmByte_fields {hi : Nat} (h : hi < 4) (mid lo : Nat) :
    (BitVec.ofNat 8 (modRmByte hi mid lo)).toNat / 64 = hi ∧
    (BitVec.ofNat 8 (modRmByte hi mid lo)).toNat / 8 % 8 = mid % 8 ∧
    (BitVec.ofNat 8 (modRmByte hi mid lo)).toNat % 8 = lo % 8 := by
  rw [toNat_byte (by unfold modRmByte; omega), modRmByte]
  omega

theorem modRm_modRmByte {md : Nat} (h : md < 4) (reg rm : Nat) :
    modRm (BitVec.ofNat 8 (modRmByte md reg rm)) = ⟨md, reg % 8, rm % 8⟩ := by
  obtain ⟨hmd, hreg, hrm⟩ := modRmByte_fields h reg rm
  rw [modRm, hmd, hreg, hrm]

/-! ### Prefixes (R161 to R163) -/

/-- The prefixes that the encoder writes for a memory operand. -/
def memPfx (g : Option Seg) (z : AddrSize) : Pfx := { seg := g, adsz := z == .a32 }

theorem readPfx_memPfx (g : Option Seg) (z : AddrSize) (r : List Byte) :
    readPfx mode64 {} (bytesOf (segByte g ++ adsByte z) ++ r) = readPfx mode64 (memPfx g z) r := by
  cases g with
  | none => cases z <;> rfl
  | some g => cases g <;> cases z <;> rfl

/-- The prefixes end where VEX or EVEX begins. -/
theorem readPfx_vex (p : Pfx) (r : List Byte) : readPfx mode64 p (0xC4#8 :: r) = (p, 0xC4#8 :: r) := rfl

theorem readPfx_evex (p : Pfx) (r : List Byte) : readPfx mode64 p (0x62#8 :: r) = (p, 0x62#8 :: r) := rfl

/-- The REX byte that the encoder writes, if any (R162). -/
def rexOf (w : Bool) (reg x b : Nat) (force : Bool) : Option Byte :=
  (rexByte w reg x b force).head?.map (BitVec.ofNat 8)

theorem readPfx_rexByte {p : Pfx} (hp : p.rex = none) (w : Bool) (reg x b : Nat) (force : Bool) (r : List Byte) :
    readPfx mode64 p (bytesOf (rexByte w reg x b force) ++ 0x0F#8 :: r) =
      ({ p with rex := rexOf w reg x b force }, 0x0F#8 :: r) := by
  unfold rexOf rexByte
  split
  · generalize decide (reg ≥ 8) = r2, decide (x ≥ 8) = r1, decide (b ≥ 8) = r0
    cases w <;> cases r2 <;> cases r1 <;> cases r0 <;> rfl
  · obtain ⟨_, _, _, _, _, _⟩ := p
    cases hp
    rfl

/-- The bits of the REX byte that the encoder writes; all of them are 0 where it writes none. -/
theorem rexBit_of_rexOf {p : Pfx} {w force : Bool} {reg x b : Nat} (hp : p.rex = rexOf w reg x b force) :
    p.rexBit 3 = w ∧ p.rexBit 2 = decide (8 ≤ reg) ∧ p.rexBit 1 = decide (8 ≤ x) ∧ p.rexBit 0 = decide (8 ≤ b) := by
  simp only [Pfx.rexBit, hp, rexOf, rexByte, ge_iff_le]
  generalize decide (8 ≤ reg) = r2, decide (8 ≤ x) = r1, decide (8 ≤ b) = r0
  cases w <;> cases r2 <;> cases r1 <;> cases r0 <;> cases force <;> decide

theorem rexOf_isSome (w : Bool) (reg x b : Nat) (force : Bool) :
    (rexOf w reg x b force).isSome = (w || decide (8 ≤ reg) || decide (8 ≤ x) || decide (8 ≤ b) || force) := by
  unfold rexOf rexByte
  split <;> simp_all

/-! ### Memory operands (R163, R171) -/

theorem addrSizeOf_of_adsz {p : Pfx} {z : AddrSize} (h : p.adsz = (z == .a32)) (hz : z ≠ .a16) :
    addrSizeOf mode64 p = z := by
  cases z with
  | a16 => exact absurd rfl hz
  | a32 | a64 => simp [addrSizeOf, mode64, h]

/-- The index out of its SIB field and extension bit: 4 names no index, because RSP is none. -/
theorem sibIndex_index {m : MemOp} (h : m.index ≠ some .rsp) :
    (if m.sibIndex % 8 + ext (decide (8 ≤ m.indexCode)) 8 = 4 then none
      else some (Gpr.ofCode (m.sibIndex % 8 + ext (decide (8 ≤ m.indexCode)) 8))) = m.index ∧
    (m.sibIndex % 8 + ext (decide (8 ≤ m.indexCode)) 8 = 4 ↔ m.index = none) := by
  unfold MemOp.sibIndex MemOp.indexCode
  cases hi : m.index with
  | none => decide
  | some g =>
    rw [hi] at h
    revert h
    cases g <;> decide

/-- The scale out of its SIB field, which without an index counts as 0. -/
theorem sibIndex_scale {m : MemOp} (h : m.index ≠ some .rsp) (hs : m.index = none → m.scale = 0) {n : Nat}
    (hn : n % 4 = m.scale.val) (hlt : n % 4 < 4) :
    (if m.sibIndex % 8 + ext (decide (8 ≤ m.indexCode)) 8 = 4 then 0 else ⟨n % 4, hlt⟩) = m.scale := by
  by_cases hi : m.index = none
  · rw [if_pos ((sibIndex_index h).2.mpr hi), hs hi]
  · rw [if_neg (mt (sibIndex_index h).2.mp hi)]
    exact Fin.ext hn

/-- What the prefixes and the VEX or EVEX payload say about a memory operand. -/
structure MemFields (p : Pfx) (c : MemCtx) (m : MemOp) : Prop where
  seg : p.seg = m.seg
  adsz : p.adsz = (m.asz == .a32)
  x : c.x = decide (8 ≤ m.indexCode)
  b : c.b = decide (8 ≤ m.baseCode)

theorem MemOp.wf_iff (m : MemOp) :
    m.wf = true ↔ m.asz ≠ .a16 ∧ m.index ≠ some .rsp ∧ (m.index = none → m.scale = 0) ∧
      (m.base = .rip → m.index = none) := by
  unfold MemOp.wf
  cases m.index <;> simp [and_assoc]

section

variable {p : Pfx} {c : MemCtx} {m : MemOp}

/-- The forms with a SIB byte: no base (`mod` 0 and 5 in the base field) or a base register with a four-byte displacement. -/
theorem readMem_sib (hf : MemFields p c m) (hw : m.wf = true) (reg : Nat) {md base : Nat}
    (hm : (md = 0 ∧ base % 8 = 5 ∧ m.base = .none) ∨ (md = 2 ∧ m.base = .reg (Gpr.ofCode (base % 8 + ext c.b 8)))) :
    readMem mode64 p c ⟨md, reg, 4⟩ (BitVec.ofNat 8 (modRmByte m.scale.val m.sibIndex base) :: le32 m.disp) =
      .ok (m, true, []) := by
  obtain ⟨hz, hrsp, hscale, -⟩ := m.wf_iff.mp hw
  obtain ⟨hs, hi, hb⟩ := modRmByte_fields m.scale.isLt m.sibIndex base
  have hidx := (sibIndex_index hrsp).1
  have hsc := sibIndex_scale hrsp hscale (Nat.mod_eq_of_lt m.scale.isLt) (Nat.mod_lt _ (by decide))
  have hdisp : take32 (le32 m.disp) = .ok (m.disp, []) := take32_le32 m.disp []
  have hasz := addrSizeOf_of_adsz hf.adsz hz
  unfold readMem
  rw [hasz]
  cases haz : m.asz with
  | a16 => exact absurd haz hz
  | a32 | a64 =>
    simp only [hs, hi, hb, hf.x, hf.seg, hidx, hsc, hdisp]
    obtain ⟨rfl, hb5, hbase⟩ | ⟨rfl, hbase⟩ := hm
    · simp [hb5, ← hbase, ← haz, bind, Except.bind]
    · simp [readDisp, hdisp, ← hbase, ← haz, bind, Except.bind]

/-- The form without a SIB byte whose base is a register. -/
theorem readMem_reg (hf : MemFields p c m) (hw : m.wf = true) (reg : Nat) {rm : Nat} (h4 : rm ≠ 4)
    (hbase : m.base = .reg (Gpr.ofCode (rm + ext c.b 8))) (hidx : m.index = none) :
    readMem mode64 p c ⟨2, reg, rm⟩ (le32 m.disp) = .ok (m, false, []) := by
  obtain ⟨hz, -, hscale, -⟩ := m.wf_iff.mp hw
  have hdisp : take32 (le32 m.disp) = .ok (m.disp, []) := take32_le32 m.disp []
  unfold readMem
  rw [addrSizeOf_of_adsz hf.adsz hz]
  cases haz : m.asz with
  | a16 => exact absurd haz hz
  | a32 | a64 => simp [h4, readDisp, hdisp, hf.seg, ← hbase, ← haz, ← hidx, ← hscale hidx, bind, Except.bind]

/-- The RIP-relative form. -/
theorem readMem_rip (hf : MemFields p c m) (hw : m.wf = true) (reg : Nat) (hbase : m.base = .rip) :
    readMem mode64 p c ⟨0, reg, 5⟩ (le32 m.disp) = .ok (m, false, []) := by
  obtain ⟨hz, -, hscale, hrip⟩ := m.wf_iff.mp hw
  have hdisp : take32 (le32 m.disp) = .ok (m.disp, []) := take32_le32 m.disp []
  unfold readMem
  rw [addrSizeOf_of_adsz hf.adsz hz]
  cases haz : m.asz with
  | a16 => exact absurd haz hz
  | a32 | a64 =>
    simp [mode64, hdisp, hf.seg, ← hbase, ← haz, ← hrip hbase, ← hscale (hrip hbase), bind, Except.bind]

/-- ModRM, SIB and displacement of a well-formed operand read back as the operand. A SIB byte that is asked for is there. -/
theorem readMem_tail (hw : m.wf = true) (reg : Nat) {sib : Bool} (hs : sib = true → m.base ≠ .rip) :
    ∃ b t s, m.tail reg sib = b :: t ∧ (modRm b).md ≠ 3 ∧ (modRm b).reg = reg % 8 ∧
      (sib = true → (modRm b).rm = 4 ∧ s = true) ∧
      ∀ {p c}, MemFields p c m → readMem mode64 p c (modRm b) t = .ok (m, s, []) := by
  have h0 := modRm_modRmByte (md := 0) (by decide) reg
  have h2 := modRm_modRmByte (md := 2) (by decide) reg
  unfold MemOp.tail
  cases hb : m.base with
  | rip =>
    refine ⟨_, _, false, rfl, ?_⟩
    rw [h0]
    exact ⟨nofun, rfl, fun h => absurd hb (hs h), fun hf => readMem_rip hf hw _ hb⟩
  | none =>
    refine ⟨_, _, true, rfl, ?_⟩
    rw [h0]
    exact ⟨nofun, rfl, fun _ => ⟨rfl, rfl⟩, fun hf => readMem_sib hf hw _ (.inl ⟨rfl, rfl, hb⟩)⟩
  | reg g =>
    have hg : ∀ {p c}, MemFields p c m → m.base = .reg (Gpr.ofCode (g.code % 8 + ext c.b 8)) := by
      intro p c hf
      rw [hf.b, MemOp.baseCode, hb, low_add_ext g.code_lt, Gpr.ofCode_code]
    dsimp only
    split
    · refine ⟨_, _, true, rfl, ?_⟩
      rw [h2]
      exact ⟨nofun, rfl, fun _ => ⟨rfl, rfl⟩, fun hf => readMem_sib hf hw _ (.inr ⟨rfl, hg hf⟩)⟩
    · next hsib =>
      obtain ⟨⟨hf, hi⟩, h4⟩ : (sib = false ∧ m.index = none) ∧ g.code % 8 ≠ 4 := by simpa using hsib
      refine ⟨_, _, false, rfl, ?_⟩
      rw [h2]
      exact ⟨nofun, rfl, by simp [hf], fun hf => readMem_reg hf hw _ h4 (hg hf) hi⟩

end

/-! ### From the opcode stage to the round trip -/

open Claims (roundTrips)

variable {i : Instr}

/-- A round trip that needs no bytes behind the instruction: the opcode stage uses up what stands behind the prefixes. -/
theorem roundTrips_of_opcode {p : Pfx} {bs : List Byte} (hp : readPfx mode64 {} (encode i) = (p, bs))
    (ho : decodeOpcode mode64 p bs = .ok (i, [])) : roundTrips i := by
  have h : decode mode64 (encode i) = .ok (i, (encode i).length) := by simp [decode, hp, ho]
  obtain ⟨c, r, hc, hlen, -, hall⟩ := decode_split h
  obtain rfl : r = [] := by simpa [hlen] using congrArg List.length hc
  rw [List.append_nil] at hc
  intro rest
  rw [← hall rest, hc]

/-! ### Legacy forms (R160, R166) -/

section

variable {p : Pfx} {m : MemOp} {w force : Bool} {reg : Nat}

/-- The prefixes of a legacy instruction with a memory operand: those of `p`, and the REX byte where one is needed. -/
def rexPfx (p : Pfx) (w force : Bool) (reg : Nat) (m : MemOp) : Pfx :=
  { p with rex := rexOf w reg m.indexCode m.baseCode force }

theorem rexPfx_rex (p : Pfx) (w force : Bool) (reg : Nat) (m : MemOp) :
    (rexPfx p w force reg m).rex = rexOf w reg m.indexCode m.baseCode force := rfl

theorem rexPfx_bits (p : Pfx) (w force : Bool) (reg : Nat) (m : MemOp) :
    (rexPfx p w force reg m).rexBit 3 = w ∧ (rexPfx p w force reg m).rexBit 2 = decide (8 ≤ reg) ∧
      (rexPfx p w force reg m).rexBit 1 = decide (8 ≤ m.indexCode) ∧
      (rexPfx p w force reg m).rexBit 0 = decide (8 ≤ m.baseCode) := rexBit_of_rexOf rfl

theorem memFields_rexPfx (hseg : p.seg = m.seg) (hads : p.adsz = (m.asz == .a32)) :
    MemFields (rexPfx p w force reg m)
      ⟨(rexPfx p w force reg m).rexBit 1, (rexPfx p w force reg m).rexBit 0, 1⟩ m :=
  have ⟨_, _, hX, hB⟩ := rexPfx_bits p w force reg m
  ⟨hseg, hads, hX, hB⟩

theorem legacyMem_tail (hw : m.wf = true) (hr : reg < 16) (hseg : p.seg = m.seg) (hads : p.adsz = (m.asz == .a32))
    (k : Nat → MemOp → Instr) :
    legacyMem mode64 (rexPfx p w force reg m) (m.tail reg false) k = .ok (k reg m, []) := by
  obtain ⟨b, t, s, ht, hmd, hreg, -, hread⟩ := readMem_tail hw reg (sib := false) nofun
  simp only [ht, legacyMem, if_neg hmd, hread (memFields_rexPfx hseg hads), hreg, (rexPfx_bits p w force reg m).2.1,
    low_add_ext hr]
  rfl

/-- `p` is what segment override, address size and mandatory byte leave. -/
theorem readPfx_encLegacyMem {mand opc : List Nat} (hp : p.rex = none)
    (hmand : ∀ r, readPfx mode64 (memPfx m.seg m.asz) (bytesOf mand ++ r) = readPfx mode64 p r) :
    readPfx mode64 {} (encLegacyMem mand w force (0x0F :: opc) reg m) =
      (rexPfx p w force reg m, 0x0F#8 :: (bytesOf opc ++ m.tail reg false)) := by
  have h : encLegacyMem mand w force (0x0F :: opc) reg m = bytesOf (segByte m.seg ++ adsByte m.asz) ++
      (bytesOf mand ++ (bytesOf (rexByte w reg m.indexCode m.baseCode force) ++
        0x0F#8 :: (bytesOf opc ++ m.tail reg false))) := by
    simp [encLegacyMem, bytesOf_append]
  rw [h, readPfx_memPfx, hmand, readPfx_rexByte hp, rexPfx]

end

/-! ### VEX forms (R164) -/

/-- The fields that the encoder writes into the payload of VEX. -/
def vexFields (map pp : Nat) (l : Bool) (reg x b v : Nat) : Vex :=
  { r := decide (8 ≤ reg), x := decide (8 ≤ x), b := decide (8 ≤ b), map := map, w := false, v := v, l := l, pp := pp }

theorem ext_false (n : Nat) : ext false n = 0 := rfl

theorem ext_true (n : Nat) : ext true n = n := rfl

theorem decide_le_eq_not_lt (k n : Nat) : decide (k ≤ n) = !decide (n < k) := by
  rw [← decide_not, decide_eq_decide, Nat.not_lt]

/-- The first payload byte of VEX and EVEX holds three inverted extension bits over five bits of `n`. -/
theorem payload0_fields (r x b : Bool) {n : Nat} (hn : n < 32) :
    let P := BitVec.ofNat 8 (ext r 128 + ext x 64 + ext b 32 + n)
    bitOf P 7 = r ∧ bitOf P 6 = x ∧ bitOf P 5 = b ∧ P.toNat % 32 = n := by
  intro P
  have hP : P.toNat = ext r 128 + ext x 64 + ext b 32 + n := toNat_byte (by unfold ext; split_ifs <;> omega)
  unfold bitOf
  rw [hP]
  cases r <;> cases x <;> cases b <;> simp [ext] <;> omega

/-- The low five bits of EVEX's first payload byte: the inverted `R'`, a zero, and the map. -/
theorem payload0_low {P : Byte} {r' : Bool} {map : Nat} (hm : map < 8) (h : P.toNat % 32 = ext r' 16 + map) :
    bitOf P 4 = r' ∧ bitOf P 3 = false ∧ P.toNat % 8 = map := by
  unfold bitOf
  cases r' <;> simp [ext] at h ⊢ <;> omega

/-- The second payload byte: W, the inverted `vvvv`, L or the fixed bit of EVEX, and the code `pp`. -/
theorem payload1_fields (w l : Bool) {v pp : Nat} (hv : v < 16) (hp : pp < 4) :
    let P := BitVec.ofNat 8 (ext w 128 + (15 - v) * 8 + ext l 4 + pp)
    bitOf P 7 = w ∧ (15 - P.toNat / 8 % 16) % 16 = v ∧ bitOf P 2 = l ∧ P.toNat % 4 = pp := by
  intro P
  have hP : P.toNat = ext w 128 + (15 - v) * 8 + ext l 4 + pp := toNat_byte (by unfold ext; split_ifs <;> omega)
  unfold bitOf
  rw [hP]
  cases w <;> cases l <;> simp [ext] <;> omega

/-- The third payload byte of EVEX: z, L'L, the inverted `V'`, and the opmask register. -/
theorem payload2_fields (z v' : Bool) {ll aaa : Nat} (hl : ll < 4) (ha : aaa < 8) :
    let P := BitVec.ofNat 8 (ext z 128 + ll * 32 + ext v' 8 + aaa)
    bitOf P 7 = z ∧ P.toNat / 32 % 4 = ll ∧ bitOf P 4 = false ∧ bitOf P 3 = v' ∧ P.toNat % 8 = aaa := by
  intro P
  have hP : P.toNat = ext z 128 + ll * 32 + ext v' 8 + aaa := toNat_byte (by unfold ext; split_ifs <;> omega)
  unfold bitOf
  rw [hP]
  cases z <;> cases v' <;> simp [ext] <;> omega

theorem vexOf_vexBytes {map pp v : Nat} (hm : map < 32) (hp : pp < 4) (hv : v < 16) (l : Bool) (reg x b : Nat) :
    vexOf mode64 (BitVec.ofNat 8 (ext (reg < 8) 128 + ext (x < 8) 64 + ext (b < 8) 32 + map))
      (BitVec.ofNat 8 ((15 - v) * 8 + ext l 4 + pp)) = vexFields map pp l reg x b v := by
  obtain ⟨hr, hx, hb, hmap⟩ := payload0_fields (reg < 8) (x < 8) (b < 8) hm
  obtain ⟨hw, hv', hl, hp'⟩ := payload1_fields false l hv hp
  simp only [ext_false, Nat.zero_add] at hw hv' hl hp'
  simp only [vexOf, vexFields, decide_le_eq_not_lt, mode64, hr, hx, hb, hmap, hw, hv', hl, hp', Bool.true_and, if_true]

/-- A VEX instruction round-trips if the stage behind its payload reads it. -/
theorem roundTrips_of_vex {g : Option Seg} {z : AddrSize} {map op pp reg x b v : Nat} {l : Bool} {t : List Byte}
    (he : encode i = bytesOf (segByte g ++ adsByte z ++ vexBytes map op pp l reg x b v) ++ t)
    (hm : map < 32) (hp : pp < 4) (hv : v < 16)
    (hd : decodeVex mode64 (memPfx g z) (vexFields map pp l reg x b v) (BitVec.ofNat 8 op :: t) = .ok (i, [])) :
    roundTrips i := by
  refine roundTrips_of_opcode (p := memPfx g z) (bs := bytesOf (vexBytes map op pp l reg x b v) ++ t) ?_ ?_
  · rw [he, bytesOf_append, List.append_assoc, readPfx_memPfx]
    exact readPfx_vex _ _
  · rw [← hd, ← vexOf_vexBytes hm hp hv]
    rfl

/-! ### EVEX forms (R165) -/

/-- The fields that the encoder writes into the payload of EVEX. -/
def evexFields (map pp : Nat) (w : Bool) (ll reg : Nat) (x b : Bool) (v aaa : Nat) (z : Bool) : Evex :=
  { r := decide (8 ≤ reg % 16), x := x, b := b, r' := decide (16 ≤ reg), p0b3 := false, map := map, w := w, v := v % 16,
    u := true, pp := pp, z := z, ll := ll, bc := false, v' := decide (16 ≤ v), aaa := aaa }

theorem evexOf_evexBytes {map pp ll v aaa : Nat} (hm : map < 8) (hp : pp < 4) (hl : ll < 4) (ha : aaa < 8)
    (w : Bool) (reg : Nat) (x b z : Bool) :
    evexOf mode64 (BitVec.ofNat 8 (ext (reg % 16 < 8) 128 + ext (!x) 64 + ext (!b) 32 + ext (reg < 16) 16 + map))
      (BitVec.ofNat 8 (ext w 128 + (15 - v % 16) * 8 + 4 + pp))
      (BitVec.ofNat 8 (ext z 128 + ll * 32 + ext (v < 16) 8 + aaa)) = evexFields map pp w ll reg x b v aaa z := by
  obtain ⟨hr, hx, hb, hn⟩ := payload0_fields (reg % 16 < 8) (!x) (!b) (n := ext (reg < 16) 16 + map)
    (by unfold ext; split_ifs <;> omega)
  rw [← Nat.add_assoc] at hr hx hb hn
  obtain ⟨hr', h3, hmap⟩ := payload0_low hm hn
  obtain ⟨hw, hv, hu, hpp⟩ := payload1_fields w true (Nat.mod_lt v (by decide)) hp
  rw [ext_true] at hw hv hu hpp
  obtain ⟨hz, hll, hbc, hv', haaa⟩ := payload2_fields z (v < 16) hl ha
  simp only [evexOf, evexFields, decide_le_eq_not_lt, mode64, hr, hx, hb, hr', h3, hmap, hw, hv, hu, hpp, hz, hll, hbc,
    hv', haaa, Bool.not_not, Bool.true_and, if_true]

/-- An EVEX instruction round-trips if the stage behind its payload reads it. -/
theorem roundTrips_of_evex {g : Option Seg} {as : AddrSize} {map op pp ll reg v aaa : Nat} {w x b z : Bool} {t : List Byte}
    (he : encode i = bytesOf (segByte g ++ adsByte as ++ evexBytes map op pp w ll reg x b v aaa z) ++ t)
    (hm : map < 8) (hp : pp < 4) (hl : ll < 4) (ha : aaa < 8)
    (hd : decodeEvex mode64 (memPfx g as) (evexFields map pp w ll reg x b v aaa z) (BitVec.ofNat 8 op :: t) =
      .ok (i, [])) :
    roundTrips i := by
  refine roundTrips_of_opcode (p := memPfx g as) (bs := bytesOf (evexBytes map op pp w ll reg x b v aaa z) ++ t) ?_ ?_
  · rw [he, bytesOf_append, List.append_assoc, readPfx_memPfx]
    exact readPfx_evex _ _
  · rw [← hd, ← evexOf_evexBytes hm hp hl ha]
    rfl

/-! ### AMX instructions under VEX (R171, R185) -/

/-- The VEX forms with register operands; `t` is the immediate, if there is one. -/
theorem roundTrips_of_vexRegs {i : Instr} {map op pp reg rm v : Nat} {t : List Byte}
    (he : encode i = encVexRegs map op pp reg rm v ++ t) (hm : map < 32) (hp : pp < 4) (hv : v < 16)
    (hd : decodeVex mode64 {} (vexFields map pp false reg 0 rm v)
      (BitVec.ofNat 8 op :: BitVec.ofNat 8 (modRmByte 3 reg rm) :: t) = .ok (i, [])) : roundTrips i :=
  roundTrips_of_vex (g := none) (z := .a64) he hm hp hv hd

/-- The opcodes of the AMX instructions but those of opcode 49H, with their maps. -/
def amxVexOpcodes : List (Nat × Nat) :=
  [(2, 0x48), (2, 0x4A), (2, 0x4B), (2, 0x5F), (2, 0x6B), (2, 0x6C), (2, 0x6E), (2, 0x6F), (5, 0xF8), (5, 0xF9), (5, 0xFD)]

theorem decodeVex_amx {map op : Nat} (h : (map, op) ∈ amxVexOpcodes) (p : Pfx) (pp reg x b v : Nat) (q : Byte)
    (t : List Byte) :
    map < 32 ∧ decodeVex mode64 p (vexFields map pp false reg x b v) (BitVec.ofNat 8 op :: q :: t) =
      decodeVexAmx mode64 p (vexFields map pp false reg x b v) op (modRm q) t := by
  simp only [amxVexOpcodes, List.mem_cons, Prod.mk.injEq, List.not_mem_nil, or_false] at h
  obtain ⟨rfl, rfl⟩ | ⟨rfl, rfl⟩ | ⟨rfl, rfl⟩ | ⟨rfl, rfl⟩ | ⟨rfl, rfl⟩ | ⟨rfl, rfl⟩ | ⟨rfl, rfl⟩ | ⟨rfl, rfl⟩ |
    ⟨rfl, rfl⟩ | ⟨rfl, rfl⟩ | ⟨rfl, rfl⟩ := h
  all_goals exact ⟨by decide, rfl⟩

theorem mem_amxVexOpcodes_of_tile3 {map op pp : Nat} {k : Tmm → Tmm → Tmm → Instr} (h : vexTile3 map op pp = some k) :
    (map, op) ∈ amxVexOpcodes ∧ pp < 4 := by
  unfold vexTile3 at h
  split at h
  case h_14 => cases h
  all_goals decide

theorem mem_amxVexOpcodes_of_tile2 {map op pp : Nat} {k : Tmm → Tmm → Instr} (h : vexTile2 map op pp = some k) :
    (map, op) ∈ amxVexOpcodes ∧ pp < 4 ∧ vexTile3 map op pp = none := by
  unfold vexTile2 at h
  split at h
  case h_3 => cases h
  all_goals decide

theorem mem_amxVexOpcodes_of_sib {map op pp : Nat} {k : Tmm → MemOp → Instr} (h : vexSib map op pp = some k) :
    (map, op) ∈ amxVexOpcodes ∧ pp < 4 := by
  unfold vexSib at h
  split at h
  case h_14 => cases h
  all_goals decide

theorem vexReg_iff (r : Fin 32) : vexReg r = true ↔ r.val < 16 := decide_eq_true_iff

/-- The register that VEX's `R`, `X` or `B` bit and three bits of ModRM name. -/
theorem vregOf_vex {r : Fin 32} (h : vexReg r = true) : vregOf (r.val % 8 + ext (decide (8 ≤ r.val)) 8) = r := by
  rw [low_add_ext ((vexReg_iff r).mp h), vregOf_val]

/-- The register forms of the AMX opcodes. -/
theorem roundTrips_amxRegs {i : Instr} {map op pp v : Nat} {d a : Tmm} (he : encode i = encVexRegs map op pp d.val a.val v)
    (hop : (map, op) ∈ amxVexOpcodes) (hp : pp < 4) (hv : v < 16)
    (hd : decodeVexAmx mode64 {} (vexFields map pp false d.val 0 a.val v) op ⟨3, d.val % 8, a.val % 8⟩ [] = .ok (i, [])) :
    roundTrips i := by
  obtain ⟨hmap, hdec⟩ := decodeVex_amx hop {} pp d.val 0 a.val v (BitVec.ofNat 8 (modRmByte 3 d.val a.val)) []
  rw [modRm_modRmByte (by decide)] at hdec
  exact roundTrips_of_vexRegs (t := []) (by rw [he, List.append_nil]) hmap hp hv (hdec.trans hd)

theorem roundTrips_tile3 {map op pp : Nat} {k : Tmm → Tmm → Tmm → Instr} {d a b : Tmm}
    (he : encode (k d a b) = encVexRegs map op pp d.val a.val b.val) (hk : vexTile3 map op pp = some k)
    (hw : (vexReg d && vexReg a && vexReg b) = true) : roundTrips (k d a b) := by
  obtain ⟨⟨hd, ha⟩, hb⟩ : (vexReg d = true ∧ vexReg a = true) ∧ vexReg b = true := by simpa using hw
  obtain ⟨hop, hp⟩ := mem_amxVexOpcodes_of_tile3 hk
  refine roundTrips_amxRegs he hop hp ((vexReg_iff b).mp hb) ?_
  simp only [decodeVexAmx, vexFields, hk, vregOf_vex hd, vregOf_vex ha, vregOf_val, if_true]

theorem roundTrips_tile2 {map op pp : Nat} {k : Tmm → Tmm → Instr} {d a : Tmm}
    (he : encode (k d a) = encVexRegs map op pp d.val a.val 0) (hk : vexTile2 map op pp = some k)
    (hw : (vexReg d && vexReg a) = true) : roundTrips (k d a) := by
  obtain ⟨hd, ha⟩ : vexReg d = true ∧ vexReg a = true := by simpa using hw
  obtain ⟨hop, hp, hk3⟩ := mem_amxVexOpcodes_of_tile2 hk
  refine roundTrips_amxRegs he hop hp (by decide) ?_
  simp [decodeVexAmx, vexFields, hk, hk3, vregOf_vex hd, vregOf_vex ha]

/-- The fields of a memory operand as the encoder's prefixes and payload state them. -/
theorem memFields_memPfx (m : MemOp) (n : Nat) :
    MemFields (memPfx m.seg m.asz) ⟨decide (8 ≤ m.indexCode), decide (8 ≤ m.baseCode), n⟩ m := ⟨rfl, rfl, rfl, rfl⟩

/-- The sibmem forms (R171). -/
theorem roundTrips_sib {map op pp : Nat} {k : Tmm → MemOp → Instr} {t : Tmm} {m : MemOp}
    (he : encode (k t m) = encVexMem map op pp false t.val 0 true m) (hk : vexSib map op pp = some k)
    (hw : (vexReg t && m.wfSib) = true) : roundTrips (k t m) := by
  obtain ⟨ht, hm, hb⟩ : vexReg t = true ∧ m.wf = true ∧ m.base ≠ .rip := by simpa [MemOp.wfSib] using hw
  obtain ⟨hop, hp⟩ := mem_amxVexOpcodes_of_sib hk
  obtain ⟨q, r, s, htail, hmd, hreg, hsib, hread⟩ := readMem_tail hm t.val (sib := true) fun _ => hb
  obtain ⟨hrm, rfl⟩ := hsib rfl
  obtain ⟨hmap, hdec⟩ := decodeVex_amx hop (memPfx m.seg m.asz) pp t.val m.indexCode m.baseCode 0 q r
  refine roundTrips_of_vex he hmap hp (by decide) ?_
  rw [htail, hdec]
  simp [decodeVexAmx, vexFields, hmd, hk, hrm, vexMem, hreg, vregOf_vex ht, bind, Except.bind,
    hread (memFields_memPfx m 1)]

/-! ### The other instructions under VEX -/

/-- VSM4KEY4 and VSM4RNDS4 under VEX by `pp` and L (R543, R544). -/
def sm4VexOf (pp : Nat) (l : Bool) : Option (VReg → VReg → VecSrc → Instr) :=
  match pp, l with
  | 2, false => some .vsm4Key4Vex128 | 2, true => some .vsm4Key4Vex256
  | 3, false => some .vsm4Rnds4Vex128 | 3, true => some .vsm4Rnds4Vex256
  | _, _ => none

theorem sm4VexOf_result {pp : Nat} {l : Bool} {k : VReg → VReg → VecSrc → Instr} (h : sm4VexOf pp l = some k)
    (d s1 : VReg) (s2 : VecSrc) (r : List Byte) :
    pp < 4 ∧ (if pp = 2 then .ok (if l then .vsm4Key4Vex256 d s1 s2 else .vsm4Key4Vex128 d s1 s2, r)
      else if pp = 3 then .ok (if l then .vsm4Rnds4Vex256 d s1 s2 else .vsm4Rnds4Vex128 d s1 s2, r)
      else .error .ud : Dec (Instr × List Byte)) = .ok (k d s1 s2, r) := by
  unfold sm4VexOf at h
  split at h
  case h_5 => cases h
  all_goals
    cases h
    exact ⟨by decide, rfl⟩

theorem decodeVex_sm4 (p : Pfx) (pp : Nat) (l : Bool) (reg x b v : Nat) (q : Byte) (t : List Byte) :
    decodeVex mode64 p (vexFields 2 pp l reg x b v) (BitVec.ofNat 8 0xDA :: q :: t) =
      decodeVexSm4 mode64 p (vexFields 2 pp l reg x b v) (modRm q) t := rfl

theorem roundTrips_sm4Vex {pp : Nat} {l : Bool} {k : VReg → VReg → VecSrc → Instr} {d s1 : VReg} {s2 : VecSrc}
    (he : encode (k d s1 s2) = encVexVec 2 0xDA pp l d.val s1.val s2) (hk : sm4VexOf pp l = some k)
    (hw : (vexReg d && vexReg s1 && s2.wfVex) = true) : roundTrips (k d s1 s2) := by
  obtain ⟨⟨hd, h1⟩, h2⟩ : (vexReg d = true ∧ vexReg s1 = true) ∧ s2.wfVex = true := by simpa using hw
  obtain ⟨hp, hres⟩ := sm4VexOf_result hk d s1 s2 []
  have hv := (vexReg_iff s1).mp h1
  cases s2 with
  | reg r =>
    refine roundTrips_of_vex (g := none) (z := .a64) (t := [BitVec.ofNat 8 (modRmByte 3 d.val r.val)]) he (by decide) hp hv ?_
    rw [decodeVex_sm4, modRm_modRmByte (by decide), ← hres]
    simp [decodeVexSm4, vexFields, vregOf_vex hd, vregOf_vex h2, bind, Except.bind]
  | mem m =>
    obtain ⟨q, t, s, htail, hmd, hreg, -, hread⟩ := readMem_tail (sib := false) h2 d.val nofun
    refine roundTrips_of_vex he (by decide) hp hv ?_
    rw [htail, decodeVex_sm4, ← hres]
    simp [decodeVexSm4, vexFields, vexMem, hmd, hreg, vregOf_vex hd, bind, Except.bind, hread (memFields_memPfx m 1)]

theorem decodeVex_49 (p : Pfx) (pp reg x b v : Nat) (q : Byte) (t : List Byte) :
    decodeVex mode64 p (vexFields 2 pp false reg x b v) (BitVec.ofNat 8 0x49 :: q :: t) =
      decodeVex49 mode64 p (vexFields 2 pp false reg x b v) (modRm q) t := rfl

/-- The configuration instructions with a memory operand by `pp` (R597, R598). -/
def tilecfgOf (pp : Nat) : Option (MemOp → Instr) :=
  match pp with
  | 0 => some .ldtilecfg | 1 => some .sttilecfg
  | _ => none

theorem roundTrips_tilecfg {pp : Nat} {k : MemOp → Instr} {m : MemOp}
    (he : encode (k m) = encVexMem 2 0x49 pp false 0 0 false m) (hk : tilecfgOf pp = some k) (hw : m.wf = true) :
    roundTrips (k m) := by
  obtain ⟨q, t, s, htail, hmd, hreg, -, hread⟩ := readMem_tail (sib := false) hw 0 nofun
  unfold tilecfgOf at hk
  split at hk
  case h_3 => cases hk
  all_goals
    cases hk
    refine roundTrips_of_vex he (by decide) (by decide) (by decide) ?_
    rw [htail, decodeVex_49]
    simp [decodeVex49, vexFields, vexMem, hmd, hreg, bind, Except.bind, hread (memFields_memPfx m 1)]

theorem roundTrips_tilezero {t : Tmm} (ht : vexReg t = true) : roundTrips (.tilezero t) := by
  refine roundTrips_of_vexRegs (t := []) rfl (by decide) (by decide) (by decide) ?_
  rw [decodeVex_49, modRm_modRmByte (by decide)]
  simp [decodeVex49, vexFields, vregOf_vex ht]

/-- The immediate forms of MAP7 (R502, R505, R510, R521) by opcode and `pp`. -/
def vexMsrOf (op pp : Nat) : Option (Gpr → W32 → Instr) :=
  match op, pp with
  | 0xF6, 3 => some .rdmsrImm | 0xF6, 2 => some fun g n => .wrmsrnsImm n g
  | 0xF8, 3 => some .urdmsrImm | 0xF8, 2 => some fun g n => .uwrmsrImm n g
  | _, _ => none

theorem roundTrips_vexMsr {op pp : Nat} {k : Gpr → W32 → Instr} {g : Gpr} {n : W32}
    (he : encode (k g n) = encVexRegs 7 op pp 0 g.code 0 ++ le32 n) (hk : vexMsrOf op pp = some k) :
    roundTrips (k g n) := by
  have hn : take32 (le32 n) = .ok (n, []) := take32_le32 n []
  have hlow := low_add_ext g.code_lt
  unfold vexMsrOf at hk
  split at hk
  case h_5 => cases hk
  all_goals
    cases hk
    refine roundTrips_of_vexRegs he (by decide) (by decide) (by decide) ?_
    simp [decodeVex, vexFields, vexClaimed, modRm_modRmByte, decodeVexMsr, hlow, hn, bind, Except.bind]

/-! ### EVEX forms -/

/-- The forms with register operands; `t` is the immediate, if there is one. -/
theorem roundTrips_of_evexRegs {i : Instr} {map op pp ll reg rm v : Nat} {t : List Byte}
    (he : encode i = encEvexRegs map op pp ll reg rm v ++ t) (hm : map < 8) (hp : pp < 4) (hl : ll < 4)
    (hd : decodeEvex mode64 {} (evexFields map pp false ll reg (decide (16 ≤ rm)) (decide (8 ≤ rm % 16)) v 0 false)
      (BitVec.ofNat 8 op :: BitVec.ofNat 8 (modRmByte 3 reg rm) :: t) = .ok (i, [])) : roundTrips i :=
  roundTrips_of_evex (g := none) (as := .a64) he hm hp hl (by decide) hd

/-- A register of five bits: three in ModRM, the extension bits of weight 8 and 16 in the payload (R165). -/
theorem vregOf_evex (r : Fin 32) :
    vregOf (r.val % 8 + ext (decide (8 ≤ r.val % 16)) 8 + ext (decide (16 ≤ r.val)) 16) = r := by
  revert r; decide

/-- The five bits of EVEX's `V'` and `vvvv`. -/
theorem vregOf_evex_vvvv (r : Fin 32) : vregOf (r.val % 16 + ext (decide (16 ≤ r.val)) 16) = r := by
  revert r; decide

theorem vmovrsOf_lt {pp ll : Nat} {w : Bool} {k : VReg → KReg → Bool → MemOp → Instr} (h : vmovrsOf pp w ll = some k) :
    pp < 4 ∧ ll < 4 := by
  unfold vmovrsOf at h
  split at h
  case h_13 => cases h
  all_goals decide

theorem sm4EvexOf_lt {pp ll : Nat} {k : VReg → VReg → VecSrc → Instr} (h : sm4EvexOf pp ll = some k) :
    pp < 4 ∧ ll < 4 := by
  unfold sm4EvexOf at h
  split at h
  case h_7 => cases h
  all_goals decide

theorem decodeEvex_vmovrs (p : Pfx) (pp : Nat) (w : Bool) (ll reg : Nat) (x b : Bool) (aaa : Nat) (z : Bool) (q : Byte)
    (t : List Byte) :
    decodeEvex mode64 p (evexFields 5 pp w ll reg x b 0 aaa z) (BitVec.ofNat 8 0x6F :: q :: t) =
      decodeVmovrs mode64 p (evexFields 5 pp w ll reg x b 0 aaa z) (modRm q) t := rfl

theorem roundTrips_vmovrs {pp ll : Nat} {w : Bool} {k : VReg → KReg → Bool → MemOp → Instr} {d : VReg} {a : KReg}
    {z : Bool} {m : MemOp} (he : encode (k d a z m) = encEvexMem 5 0x6F pp w ll d.val 0 a.val z m)
    (hk : vmovrsOf pp w ll = some k) (hw : (m.wf && maskOk a z) = true) : roundTrips (k d a z m) := by
  obtain ⟨hm, hz⟩ : m.wf = true ∧ maskOk a z = true := by simpa using hw
  have hmask : z = true → ¬ a = 0 := by
    rintro rfl
    simpa [maskOk] using hz
  obtain ⟨hp, hl⟩ := vmovrsOf_lt hk
  obtain ⟨q, t, s, htail, hmd, hreg, -, hread⟩ := readMem_tail (sib := false) hm d.val nofun
  refine roundTrips_of_evex he (by decide) hp hl a.isLt ?_
  rw [htail, decodeEvex_vmovrs]
  simpa [decodeVmovrs, evexFields, hk, hmd, hreg, vregOf_evex, bind, Except.bind,
    hread (memFields_memPfx m (16 * 2 ^ ll))] using hmask

theorem decodeEvex_sm4 (p : Pfx) (pp ll reg : Nat) (x b : Bool) (v : Nat) (q : Byte) (t : List Byte) :
    decodeEvex mode64 p (evexFields 2 pp false ll reg x b v 0 false) (BitVec.ofNat 8 0xDA :: q :: t) =
      decodeEvexSm4 mode64 p (evexFields 2 pp false ll reg x b v 0 false) (modRm q) t := rfl

theorem roundTrips_sm4Evex {pp ll : Nat} {k : VReg → VReg → VecSrc → Instr} {d s1 : VReg} {s2 : VecSrc}
    (he : encode (k d s1 s2) = encEvexVec 2 0xDA pp ll d.val s1.val s2) (hk : sm4EvexOf pp ll = some k)
    (hw : s2.wfEvex = true) : roundTrips (k d s1 s2) := by
  obtain ⟨hp, hl⟩ := sm4EvexOf_lt hk
  cases s2 with
  | reg r =>
    refine roundTrips_of_evexRegs (t := []) (by rw [he, List.append_nil]; rfl) (by decide) hp hl ?_
    rw [decodeEvex_sm4, modRm_modRmByte (by decide)]
    simp [decodeEvexSm4, evexFields, hk, vregOf_evex, vregOf_evex_vvvv]
  | mem m =>
    obtain ⟨q, t, s, htail, hmd, hreg, -, hread⟩ := readMem_tail (sib := false) hw d.val nofun
    refine roundTrips_of_evex he (by decide) hp hl (by decide) ?_
    rw [htail, decodeEvex_sm4]
    simp [decodeEvexSm4, evexFields, hk, hmd, hreg, vregOf_evex, vregOf_evex_vvvv, bind, Except.bind,
      hread (memFields_memPfx m (16 * 2 ^ ll))]

/-- The opcodes of the row instructions, with their maps (R185, R590, R591). -/
def rowOpcodes : List (Nat × Nat) := [(2, 0x4A), (2, 0x6D), (3, 0x07), (3, 0x77)]

theorem decodeEvex_row {map op : Nat} (h : (map, op) ∈ rowOpcodes) (p : Pfx) (pp reg : Nat) (x b : Bool) (v : Nat)
    (q : Byte) (t : List Byte) :
    map < 8 ∧ decodeEvex mode64 p (evexFields map pp false 2 reg x b v 0 false) (BitVec.ofNat 8 op :: q :: t) =
      decodeEvexRow (evexFields map pp false 2 reg x b v 0 false) op (modRm q) t := by
  simp only [rowOpcodes, List.mem_cons, Prod.mk.injEq, List.not_mem_nil, or_false] at h
  obtain ⟨rfl, rfl⟩ | ⟨rfl, rfl⟩ | ⟨rfl, rfl⟩ | ⟨rfl, rfl⟩ := h
  all_goals exact ⟨by decide, rfl⟩

theorem mem_rowOpcodes_of_reg {map op pp : Nat} {k : VReg → Tmm → Gpr → Instr} (h : evexRowReg map op pp = some k) :
    (map, op) ∈ rowOpcodes ∧ pp < 4 := by
  unfold evexRowReg at h
  split at h
  case h_7 => cases h
  all_goals decide

theorem mem_rowOpcodes_of_imm {map op pp : Nat} {k : VReg → Tmm → Byte → Instr} (h : evexRowImm map op pp = some k) :
    (map, op) ∈ rowOpcodes ∧ pp < 4 ∧ evexRowReg map op pp = none := by
  unfold evexRowImm at h
  split at h
  case h_7 => cases h
  all_goals decide

/-- The row forms: `t` is the immediate, if there is one. -/
theorem roundTrips_row {i : Instr} {map op pp v : Nat} {d a : Fin 32} {t : List Byte}
    (he : encode i = encEvexRegs map op pp 2 d.val a.val v ++ t) (hop : (map, op) ∈ rowOpcodes) (hp : pp < 4)
    (hd : decodeEvexRow (evexFields map pp false 2 d.val (decide (16 ≤ a.val)) (decide (8 ≤ a.val % 16)) v 0 false) op
      ⟨3, d.val % 8, a.val % 8⟩ t = .ok (i, [])) : roundTrips i := by
  obtain ⟨hmap, hdec⟩ := decodeEvex_row hop {} pp d.val (decide (16 ≤ a.val)) (decide (8 ≤ a.val % 16)) v
    (BitVec.ofNat 8 (modRmByte 3 d.val a.val)) t
  rw [modRm_modRmByte (by decide)] at hdec
  exact roundTrips_of_evexRegs he hmap hp (by decide) (hdec.trans hd)

theorem roundTrips_rowReg {map op pp : Nat} {k : VReg → Tmm → Gpr → Instr} {d : VReg} {a : Tmm} {g : Gpr}
    (he : encode (k d a g) = encEvexRegs map op pp 2 d.val a.val g.code) (hk : evexRowReg map op pp = some k) :
    roundTrips (k d a g) := by
  obtain ⟨hop, hp⟩ := mem_rowOpcodes_of_reg hk
  have hg := g.code_lt
  refine roundTrips_row (t := []) (by rw [he, List.append_nil]) hop hp ?_
  simp [decodeEvexRow, evexFields, hk, vregOf_evex, Nat.not_le.mpr hg, Nat.mod_eq_of_lt hg]

theorem roundTrips_rowImm {map op pp : Nat} {k : VReg → Tmm → Byte → Instr} {d : VReg} {a : Tmm} {n : Byte}
    (he : encode (k d a n) = encEvexRegs map op pp 2 d.val a.val 0 ++ [n]) (hk : evexRowImm map op pp = some k) :
    roundTrips (k d a n) := by
  obtain ⟨hop, hp, hr⟩ := mem_rowOpcodes_of_imm hk
  refine roundTrips_row he hop hp ?_
  simp [decodeEvexRow, evexFields, hk, hr, vregOf_evex, take8, bind, Except.bind]

/-- The APX rows (R179) by `pp`. -/
def evexMsrOf (pp : Nat) : Option (Gpr → W32 → Instr) :=
  match pp with
  | 3 => some .rdmsrImmApx | 2 => some fun g n => .wrmsrnsImmApx n g
  | _ => none

theorem roundTrips_evexMsr {pp : Nat} {k : Gpr → W32 → Instr} {g : Gpr} {n : W32}
    (he : encode (k g n) = encEvexRegs 7 0xF6 pp 0 0 g.code 0 ++ le32 n) (hk : evexMsrOf pp = some k) :
    roundTrips (k g n) := by
  have hn : take32 (le32 n) = .ok (n, []) := take32_le32 n []
  have hlow := low_add_ext g.code_lt
  have hmod := Nat.mod_eq_of_lt g.code_lt
  unfold evexMsrOf at hk
  split at hk
  case h_3 => cases hk
  all_goals
    cases hk
    refine roundTrips_of_evexRegs he (by decide) (by decide) (by decide) ?_
    simp [decodeEvex, evexFields, evexClaimed, modRm_modRmByte, decodeEvexMsr, hmod, hlow, hn, bind, Except.bind]

/-! ### Legacy forms with a memory operand -/

/-- A legacy instruction with a memory operand round-trips if the opcode stage reads it behind its prefixes: `p` is what segment
override, address size and mandatory byte leave. -/
theorem roundTrips_of_legacyMem {i : Instr} {mand opc : List Nat} {w force : Bool} {reg : Nat} {m : MemOp} (p : Pfx)
    (he : encode i = encLegacyMem mand w force (0x0F :: opc) reg m) (hp : p.rex = none)
    (hmand : ∀ r, readPfx mode64 (memPfx m.seg m.asz) (bytesOf mand ++ r) = readPfx mode64 p r)
    (hd : decodeOpcode mode64 (rexPfx p w force reg m) (0x0F#8 :: (bytesOf opc ++ m.tail reg false)) = .ok (i, [])) :
    roundTrips i :=
  roundTrips_of_opcode ((congrArg _ he).trans (readPfx_encLegacyMem hp hmand)) hd

theorem decodeOpcode_38 (p : Pfx) (op : Nat) (bs : List Byte) :
    decodeOpcode mode64 p (0x0F#8 :: (bytesOf [0x38, op] ++ bs)) =
      decodeLegacy38 mode64 p (BitVec.ofNat 8 op).toNat bs := rfl

/-- The mandatory byte of an RAO instruction (R408 to R411). -/
def raoMand : Machine.RaoOp → List Nat
  | .add => [] | .and => [0x66] | .or => [0xF2] | .xor => [0xF3]

/-- The prefixes of an RAO instruction before REX. -/
def raoPfx (op : Machine.RaoOp) (m : MemOp) : Pfx :=
  { memPfx m.seg m.asz with
    opsz := op == .and
    rep := match op with
      | .or => some 3
      | .xor => some 2
      | _ => none }

theorem readPfx_raoMand (op : Machine.RaoOp) (m : MemOp) (r : List Byte) :
    readPfx mode64 (memPfx m.seg m.asz) (bytesOf (raoMand op) ++ r) = readPfx mode64 (raoPfx op m) r := by
  cases op <;> rfl

theorem decodeLegacy38_rao (op : Machine.RaoOp) (m : MemOp) (w force : Bool) (reg : Nat) (bs : List Byte) :
    decodeLegacy38 mode64 (rexPfx (raoPfx op m) w force reg m) 0xFC bs =
      legacyMem mode64 (rexPfx (raoPfx op m) w force reg m) bs fun g mo =>
        Claims.raoInstr op (raoSizeOf mode64 (rexPfx (raoPfx op m) w force reg m)) mo (Gpr.ofCode g) := by
  cases op <;> rfl

theorem roundTrips_rao (op : Machine.RaoOp) (sz : RaoSize) {m : MemOp} (r : Gpr) (hw : m.wf = true) :
    roundTrips (Claims.raoInstr op sz m r) := by
  have he : encode (Claims.raoInstr op sz m r) =
      encLegacyMem (raoMand op) (sz = .o64) false [0x0F, 0x38, 0xFC] r.code m := by cases op <;> rfl
  have hsz : raoSizeOf mode64 (rexPfx (raoPfx op m) (sz = .o64) false r.code m) = sz := by
    rw [raoSizeOf, (rexPfx_bits ..).1]
    cases sz <;> rfl
  refine roundTrips_of_legacyMem (raoPfx op m) he rfl (readPfx_raoMand op m) ?_
  rw [decodeOpcode_38, toNat_byte (by decide), decodeLegacy38_rao, legacyMem_tail hw r.code_lt rfl rfl, hsz,
    Gpr.ofCode_code]

/-- The prefixes of the wide MOVRS before REX: 66H for a 16-bit operand (R422). -/
def movrsPfx (sz : OpSize) (m : MemOp) : Pfx := { memPfx m.seg m.asz with opsz := sz == .o16 }

theorem roundTrips_movrsV (sz : OpSize) (d : Gpr) {m : MemOp} (hw : m.wf = true) : roundTrips (.movrsV sz d m) := by
  have hsz : opSizeOf (rexPfx (movrsPfx sz m) (sz = .o64) false d.code m) = sz := by
    rw [opSizeOf, (rexPfx_bits ..).1]
    cases sz <;> rfl
  have hdec (q : Pfx) (bs : List Byte) (hl : q.lock = false) (hr : q.rep = none) : decodeLegacy38 mode64 q 0x8B bs =
      legacyMem mode64 q bs fun g mo => .movrsV (opSizeOf q) (Gpr.ofCode g) mo := by simp [decodeLegacy38, hl, hr]
  refine roundTrips_of_legacyMem (movrsPfx sz m) rfl rfl (fun r => by cases sz <;> rfl) ?_
  rw [decodeOpcode_38, toNat_byte (by decide), hdec _ _ rfl rfl, legacyMem_tail hw d.code_lt rfl rfl, hsz, Gpr.ofCode_code]

theorem MemOp.code_lt_of_needsRex {m : MemOp} (h : m.needsRex = false) : m.indexCode < 8 ∧ m.baseCode < 8 := by
  have hg : ∀ g : Gpr, g.extended = false → g.code < 8 := by intro g; cases g <;> decide
  obtain ⟨hb, hi⟩ := Bool.or_eq_false_iff.mp h
  unfold MemOp.indexCode MemOp.baseCode
  constructor
  · cases hx : m.index with
    | none => decide
    | some g => exact hg g (by simpa [hx] using hi)
  · cases hx : m.base with
    | none | rip => decide
    | reg g => exact hg g (by simpa [hx] using hb)

theorem Reg8.code_lt (d : Reg8) : d.code < 16 := by
  cases d with
  | low g => exact g.code_lt
  | ah | ch | dh | bh => decide

/-- The byte register out of its number and whether a REX byte is there (R421). -/
theorem Reg8.ofCode_rexOf {d : Reg8} {m : MemOp} (h : d.wfWith m = true) :
    Reg8.ofCode (rexOf false d.code m.indexCode m.baseCode d.needsRex).isSome d.code = d := by
  rw [rexOf_isSome]
  cases d with
  | low g =>
    generalize decide (8 ≤ m.indexCode) = x, decide (8 ≤ m.baseCode) = b
    revert x b
    cases g <;> decide
  | ah | ch | dh | bh =>
    obtain ⟨hi, hb⟩ := MemOp.code_lt_of_needsRex (m := m) (by simpa [Reg8.wfWith] using h)
    rw [decide_eq_false (Nat.not_le.mpr hi), decide_eq_false (Nat.not_le.mpr hb)]
    rfl

theorem roundTrips_movrsB {d : Reg8} {m : MemOp} (hw : (m.wf && d.wfWith m) = true) : roundTrips (.movrsB d m) := by
  obtain ⟨hm, hd⟩ : m.wf = true ∧ d.wfWith m = true := by simpa using hw
  have hdec (q : Pfx) (bs : List Byte) (hl : q.lock = false) (hr : q.rep = none) : decodeLegacy38 mode64 q 0x8A bs =
      legacyMem mode64 q bs fun g mo => .movrsB (Reg8.ofCode q.rex.isSome g) mo := by simp [decodeLegacy38, hl, hr]
  refine roundTrips_of_legacyMem (memPfx m.seg m.asz) rfl rfl (fun _ => rfl) ?_
  rw [decodeOpcode_38, toNat_byte (by decide), hdec _ _ rfl rfl, legacyMem_tail hm d.code_lt rfl rfl, rexPfx_rex,
    Reg8.ofCode_rexOf hd]

theorem roundTrips_prefetchrst2 {m : MemOp} (hw : m.wf = true) : roundTrips (.prefetchrst2 m) := by
  obtain ⟨q, t, s, htail, hmd, hreg, -, hread⟩ := readMem_tail (sib := false) hw 4 nofun
  have hdec (p : Pfx) : decodeOpcode mode64 p (0x0F#8 :: (bytesOf [0x18] ++ q :: t)) = decode0F18 mode64 p (q :: t) := rfl
  have hmem := hread (memFields_rexPfx (w := false) (force := false) (reg := 4) (p := memPfx m.seg m.asz) rfl rfl)
  refine roundTrips_of_legacyMem (memPfx m.seg m.asz) rfl rfl (fun _ => rfl) ?_
  rw [htail, hdec, decode0F18, if_pos ⟨hreg, hmd⟩, hmem]
  rfl

/-! ### The remaining system instructions -/

theorem roundTrips_monitor (g : Option Seg) {z : AddrSize} (hz : z ≠ .a16) : roundTrips (.monitor g z) := by
  refine roundTrips_of_opcode (p := memPfx g z) (bs := bytesOf [0x0F, 0x01, 0xC8]) ?_ ?_
  · rw [encode, bytesOf_append, readPfx_memPfx]
    rfl
  · have hdec : decodeOpcode mode64 (memPfx g z) (bytesOf [0x0F, 0x01, 0xC8]) =
      .ok (.monitor g (addrSizeOf mode64 (memPfx g z)), []) := rfl
    rw [hdec, addrSizeOf_of_adsz rfl hz]

/-- The register forms of URDMSR and UWRMSR by mandatory byte (R505, R510); `k` takes `ModRM.reg` and `ModRM.r/m`. -/
theorem roundTrips_legacyRegs {mand : Nat} {p : Pfx} {k : Gpr → Gpr → Instr} {a b : Gpr}
    (he : encode (k a b) = encLegacyRegs mand [0x0F, 0x38, 0xF8] a.code b.code) (hp : p.rex = none)
    (hmand : ∀ r, readPfx mode64 {} (BitVec.ofNat 8 mand :: r) = readPfx mode64 p r)
    (hd : ∀ rex q, modRm q = ⟨3, a.code % 8, b.code % 8⟩ → decodeLegacy38 mode64 { p with rex := rex } 0xF8 [q] =
      .ok (k (Gpr.ofCode (a.code % 8 + ext (Pfx.rexBit { p with rex := rex } 2) 8))
        (Gpr.ofCode (b.code % 8 + ext (Pfx.rexBit { p with rex := rex } 0) 8)), [])) : roundTrips (k a b) := by
  refine roundTrips_of_opcode (p := { p with rex := rexOf false a.code 0 b.code false })
    (bs := 0x0F#8 :: (bytesOf [0x38, 0xF8] ++ [BitVec.ofNat 8 (modRmByte 3 a.code b.code)])) ?_ ?_
  · have h : encode (k a b) = BitVec.ofNat 8 mand :: (bytesOf (rexByte false a.code 0 b.code false) ++
        0x0F#8 :: (bytesOf [0x38, 0xF8] ++ [BitVec.ofNat 8 (modRmByte 3 a.code b.code)])) := by
      simp [he, encLegacyRegs, bytesOf_append]
    rw [h, hmand, readPfx_rexByte hp]
  · obtain ⟨-, hR, -, hB⟩ := rexBit_of_rexOf (p := { p with rex := rexOf false a.code 0 b.code false }) rfl
    rw [decodeOpcode_38, toNat_byte (by decide), hd _ _ (modRm_modRmByte (by decide) ..), hR, hB,
      low_add_ext a.code_lt, low_add_ext b.code_lt, Gpr.ofCode_code, Gpr.ofCode_code]

theorem roundTrips_urdmsr (d a : Gpr) : roundTrips (.urdmsr d a) := by
  refine roundTrips_legacyRegs (mand := 0xF2) (p := { rep := some 3 }) (k := fun a d => .urdmsr d a) rfl rfl (fun _ => rfl) ?_
  intro rex q hq
  simp [decodeLegacy38, hq, Pfx.pp]

theorem roundTrips_uwrmsr (a v : Gpr) : roundTrips (.uwrmsr a v) := by
  refine roundTrips_legacyRegs (mand := 0xF3) (p := { rep := some 2 }) rfl rfl (fun _ => rfl) ?_
  intro rex q hq
  simp [decodeLegacy38, hq, Pfx.pp]

end Sys2Proof

namespace Sys2Proof.Claims

open Sys2Proof.Machine

/-- Settles O4: fixed bytes are decoded, the other forms read back by their layer of the encoding. -/
theorem roundTripSystem : Obligations.RoundTripSystem := by
  refine ⟨?_, ?_, ?_, ?_, ?_, ?_, fun g z h => roundTrips_monitor g (by simpa [Instr.wf] using h), fun d n =>
    ⟨roundTrips_vexMsr (k := .rdmsrImm) rfl rfl, roundTrips_evexMsr (k := .rdmsrImmApx) rfl rfl,
      roundTrips_vexMsr (k := .urdmsrImm) rfl rfl, roundTrips_vexMsr (k := fun g n => .uwrmsrImm n g) rfl rfl,
      roundTrips_vexMsr (k := fun g n => .wrmsrnsImm n g) rfl rfl,
      roundTrips_evexMsr (k := fun g n => .wrmsrnsImmApx n g) rfl rfl⟩,
    fun a b => ⟨roundTrips_urdmsr a b, roundTrips_uwrmsr a b⟩⟩
  all_goals exact roundTrips_of_opcode (p := {}) rfl rfl

/-! ### AMX instructions with register or immediate operands -/

theorem roundTrips_mulForms :
    ∀ f ∈ mulForms ++ transposedForms, ∀ c a b, (f.1 c a b).wf = true → roundTrips (f.1 c a b) := by
  simp only [mulForms, transposedForms, List.cons_append, List.nil_append, List.forall_mem_cons,
    List.not_mem_nil, false_imp_iff, implies_true, and_true]
  and_intros
  all_goals exact fun _ _ _ => roundTrips_tile3 rfl rfl

theorem roundTrips_transposeForms :
    ∀ f ∈ transposeForms, ∀ d a, (f.1 d a).wf = true → roundTrips (f.1 d a) := by
  simp only [transposeForms, List.forall_mem_cons, List.not_mem_nil, false_imp_iff, implies_true, and_true]
  and_intros
  all_goals exact fun _ _ => roundTrips_tile2 rfl rfl

theorem roundTrips_rowRegForms :
    ∀ f ∈ rowRegForms, ∀ d t r, roundTrips (f.1 d t r) := by
  simp only [rowRegForms, List.forall_mem_cons, List.not_mem_nil, false_imp_iff, implies_true, and_true]
  and_intros
  all_goals exact fun _ _ _ => roundTrips_rowReg rfl rfl

theorem roundTrips_rowImmForms :
    ∀ f ∈ rowImmForms, ∀ d t n, roundTrips (f.1 d t n) := by
  simp only [rowImmForms, List.forall_mem_cons, List.not_mem_nil, false_imp_iff, implies_true, and_true]
  and_intros
  all_goals exact fun _ _ _ => roundTrips_rowImm rfl rfl

/-- Settles O2: each list of forms shares one encoding. -/
theorem roundTripTileRegisters : Obligations.RoundTripTileRegisters :=
  ⟨roundTrips_of_opcode (p := {}) rfl rfl, fun _ h => roundTrips_tilezero h, roundTrips_mulForms, roundTrips_transposeForms,
    fun f hf d t r _ => roundTrips_rowRegForms f hf d t r, fun f hf d t n _ => roundTrips_rowImmForms f hf d t n⟩

/-! ### Instructions with a memory operand -/

theorem roundTrips_vmovrsForms :
    ∀ f ∈ vmovrsForms, ∀ d k z m, (f.2.2 d k z m).wf = true → roundTrips (f.2.2 d k z m) := by
  simp only [vmovrsForms, List.forall_mem_cons, List.not_mem_nil, false_imp_iff, implies_true, and_true]
  and_intros
  all_goals exact fun _ _ _ _ => roundTrips_vmovrs rfl rfl

theorem roundTrips_sm4Forms :
    ∀ f ∈ sm4Forms, ∀ d a b, (f.2.2.2 d a b).wf = true → roundTrips (f.2.2.2 d a b) := by
  simp only [sm4Forms, List.forall_mem_cons, List.not_mem_nil, false_imp_iff, implies_true, and_true]
  exact ⟨fun _ _ _ => roundTrips_sm4Vex rfl rfl, fun _ _ _ => roundTrips_sm4Vex rfl rfl,
    fun _ _ _ => roundTrips_sm4Evex rfl rfl, fun _ _ _ => roundTrips_sm4Evex rfl rfl,
    fun _ _ _ => roundTrips_sm4Evex rfl rfl, fun _ _ _ => roundTrips_sm4Vex rfl rfl,
    fun _ _ _ => roundTrips_sm4Vex rfl rfl, fun _ _ _ => roundTrips_sm4Evex rfl rfl,
    fun _ _ _ => roundTrips_sm4Evex rfl rfl, fun _ _ _ => roundTrips_sm4Evex rfl rfl⟩

theorem roundTrips_tileLoadForms :
    ∀ f ∈ tileLoadForms, ∀ t m, (f.1 t m).wf = true → roundTrips (f.1 t m) := by
  simp only [tileLoadForms, List.forall_mem_cons, List.not_mem_nil, false_imp_iff, implies_true, and_true]
  and_intros
  all_goals exact fun _ _ => roundTrips_sib rfl rfl

theorem roundTrips_pairLoadForms :
    ∀ f ∈ pairLoadForms, ∀ t m, (f.1 t m).wf = true → roundTrips (f.1 t m) := by
  simp only [pairLoadForms, List.forall_mem_cons, List.not_mem_nil, false_imp_iff, implies_true, and_true]
  and_intros
  all_goals exact fun _ _ => roundTrips_sib rfl rfl

/-- Settles O3: every form reads its operand back by `readMem_tail`. -/
theorem roundTripMemory : Obligations.RoundTripMemory :=
  ⟨fun op sz _ r h => roundTrips_rao op sz r h, fun _ _ h => roundTrips_movrsB h, fun sz d _ h => roundTrips_movrsV sz d h,
    fun _ h => roundTrips_prefetchrst2 h, roundTrips_vmovrsForms, roundTrips_sm4Forms,
    fun _ h => ⟨roundTrips_tilecfg rfl rfl h, roundTrips_tilecfg rfl rfl h⟩,
    fun _ _ h => roundTrips_sib (k := fun t m => .tilestored m t) rfl rfl h, roundTrips_tileLoadForms,
    roundTrips_pairLoadForms⟩

end Sys2Proof.Claims

/-! ## Without its feature an instruction takes #UD and nothing else -/

namespace Sys2Proof.Machine

variable {s : State}

/-- An action that begins with a check stops there where the check fails. -/
theorem settle_need {c : State → Bool} {e : Trap} {k : State → Unit → Act Unit} (h : c s = false) :
    settle (get >>= fun t => need (c t) e >>= k t) s = .next (s.takeTrap e) := by
  refine settle_error ?_
  rw [Act.bind_run, Act.get_run]
  dsimp only
  rw [Act.bind_run, h, need_false]

/-- The common beginning of the AMX instructions stops where Preamble P or a feature is missing (R583). -/
theorem settle_amxBegin {ok : Cfg → Bool} {k : Unit → Act Unit} (h : (amxEnabled s && ok s.cfg) = false) :
    settle (amxBegin ok >>= k) s = .next (s.takeTrap udTrap) := by
  refine settle_error ?_
  rw [Act.bind_run, amxBegin_run, h]
  rfl

/-- The row instructions check the vector state first (R590, R591). -/
theorem settle_rowToZmm {f : W32 → W32} {d : VReg} {t : Tmm} {sel : RowSel}
    (h : rowMoveEnabled s = false ∨ (amxEnabled s && hasAmxAvx512 s.cfg) = false) :
    settle (rowToZmm f d t sel) s = .next (s.takeTrap udTrap) := by
  cases hr : rowMoveEnabled s with
  | false => exact settle_need hr
  | true =>
    refine settle_error ?_
    have ha : (amxEnabled s && hasAmxAvx512 s.cfg) = false := h.resolve_left (by simp [hr])
    unfold rowToZmm
    simp only [Act.bind_run, Act.get_run, hr, need_true, amxBegin_run, ha]
    rfl

theorem settle_bindKey (h : hasPbndkb s.cfg = false ∨ (s.nonRoot = true ∧ s.tertiary 9 = false)) :
    settle bindKey s = .next (s.takeTrap udTrap) := by
  cases hp : hasPbndkb s.cfg && s.cpl == 0 && s.is64 with
  | false => exact settle_need hp
  | true =>
    obtain ⟨hn, ht⟩ : s.nonRoot = true ∧ s.tertiary 9 = false := h.resolve_left fun hf => by simp [hf] at hp
    refine settle_error ?_
    unfold bindKey
    simp only [Act.bind_run, Act.get_run, hp, hn, ht, need_true]
    rfl

/-- Every AMX instruction needs AMX-TILE and the enabled state (R560, R583). -/
theorem exec_of_amxEnabled_eq_false {i : Instr} (hi : isAmx i = true) (h : amxEnabled s = false) :
    exec i s = .next (s.takeTrap udTrap) := by
  have hb (ok : Bool) : (amxEnabled s && ok) = false := by rw [h, Bool.false_and]
  cases i with
  | ldtilecfg | sttilecfg | tilerelease | tilezero | tileloadd | tileloaddT1 | tilestored | t2rpntlvwZ0 | t2rpntlvwZ0T1
  | t2rpntlvwZ1 | t2rpntlvwZ1T1 | t2rpntlvwZ0RS | t2rpntlvwZ0RST1 | t2rpntlvwZ1RS | t2rpntlvwZ1RST1 | tileloaddrs
  | tileloaddrsT1 | tcmmimfp16ps | tcmmrlfp16ps | tdpbf8ps | tdpbhf8ps | tdphbf8ps | tdphf8ps | tmmultf32ps
  | tconjtcmmimfp16ps | ttcmmimfp16ps | ttcmmrlfp16ps | ttdpbf16ps | ttdpfp16ps | ttmmultf32ps | tconjtfp16
  | ttransposed => exact settle_amxBegin (hb _)
  | tcvtrowd2psR | tcvtrowd2psI | tcvtrowps2pbf16hR | tcvtrowps2pbf16hI | tcvtrowps2pbf16lR | tcvtrowps2pbf16lI
  | tcvtrowps2phhR | tcvtrowps2phhI | tcvtrowps2phlR | tcvtrowps2phlI | tilemovrowR | tilemovrowI =>
    exact settle_rowToZmm (.inr (hb _))
  | _ => cases hi

end Sys2Proof.Machine

namespace Sys2Proof.Claims

open Sys2Proof.Machine

section

variable {s : State}

theorem mul_without_feature : ∀ f ∈ mulForms ++ transposedForms, f.2.1 s.cfg = false → ∀ c a b,
    exec (f.1 c a b) s = .next (s.takeTrap udTrap) := by
  simp only [mulForms, transposedForms, List.cons_append, List.nil_append, List.forall_mem_cons, List.not_mem_nil,
    false_imp_iff, implies_true, and_true]
  and_intros
  all_goals exact fun h _ _ _ => settle_amxBegin (by rw [h, Bool.and_false])

theorem transpose_without_feature :
    ∀ f ∈ transposeForms, f.2.1 s.cfg = false → ∀ d a, exec (f.1 d a) s = .next (s.takeTrap udTrap) := by
  simp only [transposeForms, List.forall_mem_cons, List.not_mem_nil, false_imp_iff, implies_true, and_true]
  and_intros
  all_goals exact fun h _ _ => settle_amxBegin (by rw [h, Bool.and_false])

theorem tileLoad_without_feature :
    ∀ f ∈ tileLoadForms, f.2 s.cfg = false → ∀ t m, exec (f.1 t m) s = .next (s.takeTrap udTrap) := by
  simp only [tileLoadForms, List.forall_mem_cons, List.not_mem_nil, false_imp_iff, implies_true, and_true]
  and_intros
  all_goals exact fun h _ _ => settle_amxBegin (by rw [h, Bool.and_false])

theorem pairLoad_without_feature :
    ∀ f ∈ pairLoadForms, f.2.1 s.cfg = false → ∀ t m, exec (f.1 t m) s = .next (s.takeTrap udTrap) := by
  simp only [pairLoadForms, List.forall_mem_cons, List.not_mem_nil, false_imp_iff, implies_true, and_true]
  and_intros
  all_goals exact fun h _ _ => settle_amxBegin (by rw [h, Bool.and_false])

theorem row_without_feature (h : rowMoveEnabled s = false ∨ (amxEnabled s && hasAmxAvx512 s.cfg) = false) :
    (∀ f ∈ rowRegForms, ∀ d t r, exec (f.1 d t r) s = .next (s.takeTrap udTrap)) ∧
      ∀ f ∈ rowImmForms, ∀ d t n, exec (f.1 d t n) s = .next (s.takeTrap udTrap) := by
  simp only [rowRegForms, rowImmForms, List.forall_mem_cons, List.not_mem_nil, false_imp_iff, implies_true, and_true]
  and_intros
  all_goals exact fun _ _ _ => settle_rowToZmm h

theorem msrImm_without_feature (d : Gpr) (n : W32) :
    (hasMsrImm s.cfg = false → exec (.rdmsrImm d n) s = .next (s.takeTrap udTrap) ∧
      exec (.wrmsrnsImm n d) s = .next (s.takeTrap udTrap)) ∧
    (hasMsrImm s.cfg = false ∨ hasApx s.cfg = false → exec (.rdmsrImmApx d n) s = .next (s.takeTrap udTrap) ∧
      exec (.wrmsrnsImmApx n d) s = .next (s.takeTrap udTrap)) := by
  refine ⟨fun h => ?_, fun h => ?_⟩
  · have hc : (s.is64 && hasMsrImm s.cfg && (!false || hasApx s.cfg)) = false := by simp [h]
    exact ⟨settle_need hc, settle_need hc⟩
  · have hc : (s.is64 && hasMsrImm s.cfg && (!true || hasApx s.cfg)) = false := by
      obtain h | h := h <;> simp [h]
    exact ⟨settle_need hc, settle_need hc⟩

end

/-- Settles O19: the check that begins each instruction fails. -/
theorem featureTraps : Obligations.FeatureTraps := by
  intro s ud
  have hmon (b c : Bool) (h : monitorEnabled s = false ∨ b = false) :
      (s.mode != .v86 && monitorEnabled s && b && c) = false := by
    obtain h | h := h <;> simp [h]
  refine ⟨fun h op sz m r => ?_, settle_bindKey, fun h => settle_need (by simp [h]), fun h => settle_need h,
    fun h => settle_need h, msrImm_without_feature,
    fun h => settle_need (hmon _ _ (h.imp_right fun ⟨hf, hw⟩ => by rw [hf, hw]; rfl)),
    fun h g z => settle_need (hmon _ _ h), fun i hi h => exec_of_amxEnabled_eq_false hi ?_, mul_without_feature,
    transpose_without_feature, tileLoad_without_feature, pairLoad_without_feature, fun h => row_without_feature ?_⟩
  · exact (exec_raoInstr op sz m r s).trans (settle_need h)
  · obtain h | h | h := h
    · simp [amxEnabled, h]
    · simp [amxEnabled, h]
    · simp only [amxEnabled, beq_false_of_ne h, Bool.and_false, Bool.false_and]
  · obtain h | h | h := h
    · exact .inr (by rw [h, Bool.and_false])
    · exact .inl (by simp [rowMoveEnabled, h])
    · exact .inl (by simp only [rowMoveEnabled, beq_false_of_ne h, Bool.false_and])

end Sys2Proof.Claims

/-! ## What an FP8 dot product adds up -/

namespace Sys2Proof.Machine

/-! ### Fields and rounding -/

theorem fieldOf_eq {w : Nat} (v : BitVec w) (hi lo : Nat) : fieldOf v hi lo = v.toNat / 2 ^ lo % 2 ^ (hi - lo + 1) := by
  rw [fieldOf, BitVec.extractLsb_toNat, Nat.shiftRight_eq_div_pow]

/-- The fields of an FP32 number given by its sign and magnitude pattern. -/
theorem signed_fields {mag : Nat} (neg : Bool) (h : mag < 2 ^ 31) :
    fNeg (signed 32 neg mag) = neg ∧ fExp (signed 32 neg mag) = mag / 2 ^ 23 ∧
      fFrac (signed 32 neg mag) = mag % 2 ^ 23 := by
  have hs : (signed 32 neg mag).toNat = mag + if neg then 2 ^ 31 else 0 := by
    rw [signed, BitVec.toNat_ofNat, Nat.mod_eq_of_lt]
    split <;> omega
  refine ⟨?_, ?_, ?_⟩
  · rw [fNeg, bitAt, BitVec.getLsbD, hs, Nat.testBit_eq_decide_div_mod_eq]
    cases neg <;> simp <;> omega
  · rw [fExp, fieldOf_eq, hs]
    split <;> omega
  · rw [fFrac, fieldOf_eq, hs]
    split <;> omega

/-- A magnitude pattern of exponent `q + 1` and significand `r`, which may have been rounded up to the next power of two. -/
theorem fMag_signed {q r : Nat} (neg : Bool) (hr : 2 ^ 23 ≤ r) (hr' : r ≤ 2 ^ 24) (hq : q < 254) :
    fMag (signed 32 neg (r + q * 2 ^ 23)) = r * 2 ^ q := by
  obtain ⟨-, he, hf⟩ := signed_fields (mag := r + q * 2 ^ 23) neg (by omega)
  rw [fMag, he, hf]
  obtain hlt | rfl := hr'.lt_or_eq
  · rw [if_neg (by omega), show (r + q * 2 ^ 23) / 2 ^ 23 = q + 1 by omega,
      show 2 ^ 23 + (r + q * 2 ^ 23) % 2 ^ 23 = r by omega, Nat.add_sub_cancel]
  · rw [if_neg (by omega), show (2 ^ 24 + q * 2 ^ 23) / 2 ^ 23 = q + 2 by omega,
      show 2 ^ 23 + (2 ^ 24 + q * 2 ^ 23) % 2 ^ 23 = 2 ^ 23 by omega]
    rw [show q + 2 - 1 = q + 1 by omega, pow_succ]
    ring

/-- Rounding to the first `p + 1` bits of a number that has them. -/
theorem roundRne_bounds {n p : Nat} (h : 2 ^ p ≤ n) :
    2 ^ p ≤ roundRne n (Nat.log2 n - p) ∧ roundRne n (Nat.log2 n - p) ≤ 2 ^ (p + 1) := by
  have hn : n ≠ 0 := by have := Nat.two_pow_pos p; omega
  have hp : p ≤ Nat.log2 n := (Nat.le_log2 hn).mpr h
  have hlo : 2 ^ p ≤ n / 2 ^ (Nat.log2 n - p) := by
    rw [Nat.le_div_iff_mul_le (Nat.two_pow_pos _), ← pow_add, Nat.add_sub_cancel' hp]
    exact Nat.log2_self_le hn
  have hhi : n / 2 ^ (Nat.log2 n - p) < 2 ^ (p + 1) := by
    rw [Nat.div_lt_iff_lt_mul (Nat.two_pow_pos _), ← pow_add, show p + 1 + (Nat.log2 n - p) = Nat.log2 n + 1 by omega]
    exact Nat.lt_log2_self
  unfold roundRne
  rw [Nat.shiftRight_eq_div_pow]
  dsimp only
  split <;> omega

/-- A number of units of 2^-149 with at least 24 bits, packed as FP32 far below the largest finite number. -/
theorem packMag_fields {m : Nat} (neg : Bool) (hlo : 2 ^ 23 ≤ m) (hhi : Nat.log2 m < 250) :
    let d := signed 32 neg (packMag 23 0 0x7F800000 m)
    fExp d ≠ 255 ∧ fNeg d = neg ∧ fMag d = roundRne m (Nat.log2 m - 23) * 2 ^ (Nat.log2 m - 23) := by
  obtain ⟨hr, hr'⟩ := roundRne_bounds hlo
  have hpack : packMag 23 0 0x7F800000 m = roundRne m (Nat.log2 m - 23) + (Nat.log2 m - 23) * 2 ^ 23 := by
    simp only [packMag, Nat.max_zero, Nat.sub_zero]
    omega
  intro d
  obtain ⟨hn, he, -⟩ := signed_fields (mag := roundRne m (Nat.log2 m - 23) + (Nat.log2 m - 23) * 2 ^ 23) neg (by omega)
  have hd : d = signed 32 neg (roundRne m (Nat.log2 m - 23) + (Nat.log2 m - 23) * 2 ^ 23) := by rw [← hpack]
  rw [hd]
  exact ⟨by rw [he]; omega, hn, fMag_signed neg hr hr' (by omega)⟩

/-! ### FP8 factors (R182, R577) -/

theorem fp8Exp_eq (x : Byte) : fp8Exp .bf8 x = fieldOf x 6 2 ∧ fp8Exp .hf8 x = fieldOf x 6 3 := by
  simp only [fp8Exp, fp8FracBits, fieldOf_eq]
  omega

theorem fp8Frac_eq (x : Byte) : fp8Frac .bf8 x = fieldOf x 1 0 ∧ fp8Frac .hf8 x = fieldOf x 2 0 := by
  simp only [fp8Frac, fp8FracBits, fieldOf_eq]
  omega

/-- The integer of a factor is its sign times its magnitude. -/
theorem fp8Int_eq (f : Fp8) (x : Byte) : fp8Int f x = (if bitAt x 7 then -1 else 1) *
    (if fp8Exp f x = 0 then fp8Frac f x else (2 ^ fp8FracBits f + fp8Frac f x) * 2 ^ (fp8Exp f x - 1) : Nat) := by
  unfold fp8Int fp8Neg
  cases bitAt x 7
  · exact (one_mul _).symm
  · exact (neg_one_mul _).symm

theorem natAbs_fp8Int_le (f : Fp8) (x : Byte) : (fp8Int f x).natAbs ≤ 2 ^ (18 + fp8Scale f) := by
  have hfrac : 2 ^ fp8FracBits f + fp8Frac f x ≤ 16 := by cases f <;> simp only [fp8FracBits, fp8Frac] <;> omega
  have hexp : fp8Exp f x - 1 ≤ 14 + fp8Scale f := by cases f <;> simp only [fp8Exp, fp8FracBits, fp8Scale] <;> omega
  have habs : (fp8Int f x).natAbs =
      if fp8Exp f x = 0 then fp8Frac f x else (2 ^ fp8FracBits f + fp8Frac f x) * 2 ^ (fp8Exp f x - 1) := by
    rw [fp8Int_eq, Int.natAbs_mul, Int.natAbs_natCast]
    cases bitAt x 7 <;> exact one_mul _
  rw [habs, show 18 + fp8Scale f = 4 + (14 + fp8Scale f) by omega, pow_add]
  split
  · calc fp8Frac f x ≤ 2 ^ 4 * 1 := (Nat.le_add_left _ _).trans hfrac
      _ ≤ 2 ^ 4 * 2 ^ (14 + fp8Scale f) := Nat.mul_le_mul_left _ Nat.one_le_two_pow
  · exact Nat.mul_le_mul hfrac (Nat.pow_le_pow_right (by decide) hexp)

/-- An infinity is not a zero. -/
theorem fp8Zero_of_inf {f : Fp8} {x : Byte} (h : fp8Inf f x = true) : fp8Zero x = false := by
  cases f with
  | hf8 => cases h
  | bf8 =>
    have he : x.toNat % 128 / 2 ^ 2 = 31 := by
      simp only [fp8Inf, Bool.and_eq_true, beq_iff_eq] at h
      exact h.1
    exact beq_false_of_ne (by omega)

theorem fInfOf_eq (neg : Bool) : fInfOf neg = if neg then 0xFF800000 else 0x7F800000 := by cases neg <;> rfl

/-! ### The products of one element (R640, R641) -/

section

variable {f1 f2 : Fp8} {c : W32} {l : List (Byte × Byte)}

theorem fp8Sum_eq (f1 f2 : Fp8) (l : List (Byte × Byte)) :
    fp8Sum f1 f2 l = (l.map fun p => fp8Int f1 p.1 * fp8Int f2 p.2).sum := by
  rw [fp8Sum, List.sum_eq_foldl, List.foldl_map]

theorem natAbs_fp8Sum_le (f1 f2 : Fp8) (l : List (Byte × Byte)) :
    (fp8Sum f1 f2 l).natAbs ≤ l.length * 2 ^ (36 + (fp8Scale f1 + fp8Scale f2)) := by
  rw [fp8Sum_eq]
  induction l with
  | nil => simp
  | cons p l ih =>
    have hp : (fp8Int f1 p.1 * fp8Int f2 p.2).natAbs ≤ 2 ^ (36 + (fp8Scale f1 + fp8Scale f2)) := by
      rw [Int.natAbs_mul, show 36 + (fp8Scale f1 + fp8Scale f2) = (18 + fp8Scale f1) + (18 + fp8Scale f2) by omega, pow_add]
      exact Nat.mul_le_mul (natAbs_fp8Int_le f1 p.1) (natAbs_fp8Int_le f2 p.2)
    rw [List.map_cons, List.sum_cons, List.length_cons, Nat.succ_mul]
    exact (Int.natAbs_add_le _ _).trans (by omega)

/-- The rounded sum as FP32, where the element has at most 1024 products. -/
theorem int128ToSingle_fields {v : Int} (hv : v ≠ 0)
    (hle : v.natAbs ≤ 1024 * 2 ^ (36 + (fp8Scale f1 + fp8Scale f2))) :
    let m := v.natAbs * 2 ^ (149 - (fp8Scale f1 + fp8Scale f2))
    let d := int128ToSingle f1 f2 v
    fExp d ≠ 255 ∧ fNeg d = decide (v < 0) ∧ fMag d = roundRne m (Nat.log2 m - 23) * 2 ^ (Nat.log2 m - 23) := by
  have hs : fp8Scale f1 + fp8Scale f2 ≤ 32 := by cases f1 <;> cases f2 <;> decide
  have hlo : 2 ^ 23 ≤ v.natAbs * 2 ^ (149 - (fp8Scale f1 + fp8Scale f2)) :=
    (Nat.pow_le_pow_right (by decide) (by omega)).trans (Nat.le_mul_of_pos_left _ (Int.natAbs_pos.mpr hv))
  have hhi : v.natAbs * 2 ^ (149 - (fp8Scale f1 + fp8Scale f2)) ≤ 2 ^ 195 := by
    refine (Nat.mul_le_mul_right _ hle).trans_eq ?_
    rw [show 1024 = 2 ^ 10 by rfl, ← pow_add, ← pow_add]
    congr 1
    omega
  have hlog := (Nat.log2_lt (k := 196) (by omega)).mpr (hhi.trans_lt (by decide))
  intro m d
  have hd : d = signed 32 (v < 0) (packMag 23 0 0x7F800000 m) := if_neg hv
  rw [hd]
  exact packMag_fields _ hlo (hlog.trans (by decide))

theorem fp8Dot_of_nan (h : fNan c = true ∨ ∃ p ∈ l, (fp8Nan f1 p.1 || fp8Nan f2 p.2) = true) :
    fp8Dot f1 f2 c l = qnanIndefinite := by
  refine if_pos ?_
  rwa [Bool.or_eq_true, List.any_eq_true]

/-- Past the NaNs and the products of infinity and zero, what is left are the signs of the infinite products. -/
theorem fp8Dot_of_valid (hn : ¬ (fNan c = true ∨ ∃ p ∈ l, (fp8Nan f1 p.1 || fp8Nan f2 p.2) = true))
    (hi : ¬ ∃ p ∈ l, (fp8Inf f1 p.1 && fp8Zero p.2 || fp8Zero p.1 && fp8Inf f2 p.2) = true) :
    let pos := l.any fun p => fp8ProductInf f1 f2 p false
    let neg := l.any fun p => fp8ProductInf f1 f2 p true
    fp8Dot f1 f2 c l =
      if pos && neg then qnanIndefinite
      else if pos || neg then (if fInf c && (fNeg c != neg) then qnanIndefinite else fInfOf neg)
      else fadd c (int128ToSingle f1 f2 (fp8Sum f1 f2 l)) false true := by
  have hn' : ¬ (fNan c || l.any fun p => fp8Nan f1 p.1 || fp8Nan f2 p.2) = true := by
    rwa [Bool.or_eq_true, List.any_eq_true]
  have hi' : ¬ l.any (fp8ProductInvalid f1 f2) = true := by rwa [List.any_eq_true]
  exact (if_neg hn').trans (if_neg hi')

theorem fp8Dot_of_invalid (h : ∃ p ∈ l, (fp8Inf f1 p.1 && fp8Zero p.2 || fp8Zero p.1 && fp8Inf f2 p.2) = true) :
    fp8Dot f1 f2 c l = qnanIndefinite := by
  have hi : l.any (fp8ProductInvalid f1 f2) = true := List.any_eq_true.mpr h
  unfold fp8Dot
  rw [hi, if_pos rfl, ite_self]

/-- Without a product of infinity and zero, an infinite factor makes an infinite product. -/
theorem any_fp8ProductInf (hi : ¬ ∃ p ∈ l, (fp8Inf f1 p.1 && fp8Zero p.2 || fp8Zero p.1 && fp8Inf f2 p.2) = true)
    (neg : Bool) : l.any (fun p => fp8ProductInf f1 f2 p neg) = true ↔
      ∃ p ∈ l, (fp8Inf f1 p.1 || fp8Inf f2 p.2) = true ∧ (bitAt p.1 7 != bitAt p.2 7) = neg := by
  rw [List.any_eq_true]
  refine exists_congr fun p => and_congr_right fun hp => ?_
  have hz1 := fp8Zero_of_inf (f := f1) (x := p.1)
  have hz2 := fp8Zero_of_inf (f := f2) (x := p.2)
  have hv : ¬ (fp8Inf f1 p.1 && fp8Zero p.2 || fp8Zero p.1 && fp8Inf f2 p.2) = true := fun h => hi ⟨p, hp, h⟩
  unfold fp8ProductInf fp8Neg
  cases h1 : fp8Inf f1 p.1 <;> cases h2 : fp8Inf f2 p.2 <;> simp_all

end

/-! ### The factor pairs of an element (R640) -/

/-- Four bytes of each of `n` dwords are `4 n` bytes. -/
theorem flatMap_range_four {α : Type} (g : Nat → Nat → α) (n : Nat) :
    (List.range n).flatMap (fun k => (List.range 4).map (g k)) = (List.range (4 * n)).map fun i => g (i / 4) (i % 4) := by
  induction n with
  | zero => rfl
  | succ n ih =>
    rw [List.range_succ (n := n), List.flatMap_append, ih, Nat.mul_succ, List.range_add, List.map_append, List.map_map]
    congr 1
    rw [List.flatMap_singleton]
    refine List.map_congr_left fun j hj => ?_
    have hj4 := List.mem_range.mp hj
    dsimp only [Function.comp]
    rw [show (4 * n + j) / 4 = n by omega, show (4 * n + j) % 4 = j by omega]

theorem fp8Pairs_eq (n : Nat) (a b : Lane) : fp8Pairs n a b = (List.range (4 * n)).map fun i =>
    ((a (i / 4)).extractLsb' (8 * (i % 4)) 8, (b (i / 4)).extractLsb' (8 * (i % 4)) 8) :=
  flatMap_range_four (fun k j => (dwordByte (a k) j, dwordByte (b k) j)) n

end Sys2Proof.Machine

namespace Sys2Proof.Claims

open Sys2Proof.Machine

/-- Settles O55: the cases of `fp8Dot`, and the bounds that keep the rounded sum finite. -/
theorem fp8Elements : Obligations.Fp8Elements := by
  refine ⟨fun x => ⟨?_, ?_⟩, ?_⟩
  · rw [← (fp8Exp_eq x).1, ← (fp8Frac_eq x).1]
    exact fp8Int_eq .bf8 x
  · rw [← (fp8Exp_eq x).2, ← (fp8Frac_eq x).2]
    exact fp8Int_eq .hf8 x
  intro f1 f2 n a b c r l nan invalid inf
  have hr : r = fp8Dot f1 f2 c l := congrArg (fp8Dot f1 f2 c) (fp8Pairs_eq n a b)
  rw [hr]
  have hinf (hi : ¬ invalid) (neg : Bool) : l.any (fun p => fp8ProductInf f1 f2 p neg) = true ↔ inf neg :=
    any_fp8ProductInf hi neg
  refine ⟨fun h => ?_, fun neg hn hi hp hq => ?_, fun hle hn hno => ?_⟩
  · by_cases hn : nan
    · exact fp8Dot_of_nan hn
    by_cases hi : invalid
    · exact fp8Dot_of_invalid hi
    obtain ⟨hp, hq⟩ := (h.resolve_left hn).resolve_left hi
    rw [fp8Dot_of_valid hn hi, (hinf hi false).mpr hp, (hinf hi true).mpr hq]
    exact if_pos rfl
  · rw [fp8Dot_of_valid hn hi]
    cases neg with
    | false =>
      have hneg : (l.any fun p => fp8ProductInf f1 f2 p true) = false := Bool.eq_false_iff.mpr (mt (hinf hi true).mp hq)
      rw [(hinf hi false).mpr hp, hneg, ← fInfOf_eq]
      rfl
    | true =>
      have hpos : (l.any fun p => fp8ProductInf f1 f2 p false) = false := Bool.eq_false_iff.mpr (mt (hinf hi false).mp hq)
      rw [(hinf hi true).mpr hp, hpos, ← fInfOf_eq]
      rfl
  · have hi : ¬ invalid := by
      rintro ⟨p, hp, h⟩
      refine hno _ ⟨p, hp, ?_, rfl⟩
      revert h
      cases fp8Inf f1 p.1 <;> cases fp8Inf f2 p.2 <;> simp
    have hany (neg : Bool) : (l.any fun p => fp8ProductInf f1 f2 p neg) = false :=
      Bool.eq_false_iff.mpr (mt (hinf hi neg).mp (hno neg))
    have hbound := natAbs_fp8Sum_le f1 f2 l
    have hlen : l.length = 4 * n := by simp [l]
    intro v m
    have hv : v = fp8Sum f1 f2 l := (fp8Sum_eq f1 f2 l).symm
    refine ⟨int128ToSingle f1 f2 v, ?_, fun h0 => if_pos h0, fun h0 => int128ToSingle_fields h0 ?_⟩
    · rw [fp8Dot_of_valid hn hi, hany, hany, hv]
      simp only [Bool.and_self, Bool.or_self, Bool.false_eq_true, if_false, fadd]
    · rw [hv]
      exact hbound.trans (Nat.mul_le_mul_right _ (by omega))

end Sys2Proof.Claims

/-! ## CPUID -/

namespace Sys2Proof.Machine

/-! ### The instruction (R220, R223) -/

/-- CPUID has no check that can fail. -/
theorem exec_cpuid (s : State) : exec .cpuid s = .next (cpuidEffect s).advance := rfl

theorem State.reg_withCpuid (s : State) (r : CpuidRow) (g : Gpr) :
    (s.withCpuid r).reg g = if g = .rdx then r.edx.setWidth 64 else if g = .rcx then r.ecx.setWidth 64
      else if g = .rbx then r.ebx.setWidth 64 else if g = .rax then r.eax.setWidth 64 else s.reg g := by
  simp only [State.withCpuid, State.setReg32, State.reg_setReg]

theorem State.holdsAnswer_withCpuid (s : State) (r : CpuidRow) : Claims.holdsAnswer (s.withCpuid r) r :=
  ⟨s.reg_withCpuid r .rax, s.reg_withCpuid r .rbx, s.reg_withCpuid r .rcx, s.reg_withCpuid r .rdx⟩

theorem State.reg_withCpuid_of_notMem (s : State) (r : CpuidRow) {g : Gpr}
    (h : g ∉ [Gpr.rax, Gpr.rbx, Gpr.rcx, Gpr.rdx]) : (s.withCpuid r).reg g = s.reg g := by
  simp only [List.mem_cons, List.not_mem_nil, or_false, not_or] at h
  obtain ⟨hrax, hrbx, hrcx, hrdx⟩ := h
  rw [State.reg_withCpuid, if_neg hrdx, if_neg hrcx, if_neg hrbx, if_neg hrax]

/-- Loading the signature stores one MSR (R223). -/
theorem State.msrVal_loadSignature (s : State) (a : Nat) :
    s.loadSignature.msrVal a =
      if a = 0x8B then s.cfg.microcodeRev ++ (s.msrVal 0x8B).setWidth 32 else s.msrVal a :=
  s.msrVal_setMsr 0x8B a _

/-! ### Which leaf answers (R221) -/

variable {s : State} {leaf sub : Nat}

theorem cpuidAnswer_maxBasic (s : State) (sub : Nat) : cpuidAnswer s (maxBasic s) sub = cpuidLeaf s (maxBasic s) sub :=
  ite_self _

theorem cpuidAnswer_of_le (h : leaf ≤ maxBasic s) (hn : neverLeaf leaf = false) :
    cpuidAnswer s leaf sub = cpuidLeaf s leaf sub :=
  if_pos (.inl ⟨h, by rw [hn]; rfl⟩)

theorem cpuidAnswer_of_out (h : maxBasic s < leaf)
    (hx : ¬ (0x80000000 ≤ leaf ∧ leaf ≤ (cpuidCfg s.cfg 0x80000000 0).eax.toNat)) :
    cpuidAnswer s leaf sub = cpuidLeaf s (maxBasic s) sub :=
  if_neg (not_or.mpr ⟨fun hle => absurd hle.1 h.not_ge, hx⟩)

/-- A basic leaf in range is at or below the highest one that leaf 00H reports (R221, R225). -/
theorem le_of_leafInRange {c : Cfg} (h : leafInRange c leaf = true) (hb : leaf < 0x80000000) :
    leaf ≤ (cpuidCfg c 0 0).eax.toNat := by
  rw [leafInRange, if_pos hb, Bool.and_eq_true, decide_eq_true_iff] at h
  exact h.1

/-! ### Leaf 07H (R262 to R266) -/

theorem withinLast_zero (c : Cfg) (leaf : Nat) : withinLast c leaf 0 = true := decide_eq_true (Nat.zero_le _)

theorem cpuidLeaf_seven_zero (s : State) : cpuidLeaf s 7 0 =
    { rawRow s.cfg 7 0 with
      ebx := implying (implying (rawRow s.cfg 7 0).ebx 2 (leafInRange s.cfg 0x12)) 15 (leafInRange s.cfg 0x10)
      ecx := setBitTo (rawRow s.cfg 7 0).ecx 4 (bitAt s.sys.cr4 22)
      edx := implying (implying (rawRow s.cfg 7 0).edx 15 (nativeModelLeaf s.cfg)) 18 (leafInRange s.cfg 0x1B) } := rfl

theorem cpuidLeaf_seven_one (s : State) : cpuidLeaf s 7 1 =
    { cpuidCfg s.cfg 7 1 with
      edx := setBitTo (cpuidCfg s.cfg 7 1).edx 23 (bitAt (cpuidCfg s.cfg 7 1).edx 23 && monitorEnabled s) } := rfl

theorem cpuidCfg_seven_of_invalid {c : Cfg} (h : withinLast c 7 sub = false) : cpuidCfg c 7 sub = zeroRow :=
  if_pos (by rw [h]; rfl)

theorem cpuidCfg_seven_one {c : Cfg} (h : withinLast c 7 1 = true) : cpuidCfg c 7 1 =
    { rawRow c 7 1 with
      eax := implying (implying (rawRow c 7 1).eax 8 (leafInRange c 0x23)) 22 (leafInRange c 0x20)
      edx := implying (implying (implying (rawRow c 7 1).edx 13 (bitAt (rawRow c 7 0).edx 5)) 19 (leafInRange c 0x24))
        23 (monitorLeafSupported c) } :=
  if_neg (by rw [h]; decide)

/-- An invalid sub-leaf of leaf 07H answers zeros (R221, R263). -/
theorem emptyRow_cpuidLeaf_seven (h : withinLast s.cfg 7 sub = false) : Claims.emptyRow (cpuidLeaf s 7 sub) := by
  match sub with
  | 0 => rw [withinLast_zero] at h; cases h
  | 1 => rw [cpuidLeaf_seven_one, cpuidCfg_seven_of_invalid h]; exact ⟨rfl, rfl, rfl, rfl⟩
  | n + 2 =>
    have hleaf : cpuidLeaf s 7 (n + 2) = cpuidCfg s.cfg 7 (n + 2) := rfl
    rw [hleaf, cpuidCfg_seven_of_invalid h]
    exact ⟨rfl, rfl, rfl, rfl⟩

/-! ### What the flags imply -/

theorem cpuidLeaf_uintr (s : State) : bitAt (cpuidLeaf s 7 0).edx 5 = bitAt (rawRow s.cfg 7 0).edx 5 := by
  simp [cpuidLeaf_seven_zero, bitAt_implying]

/-- What SGX, RDT-A, Hybrid and PCONFIG, in sub-leaf 0, come with (R261, R263, R281, R283, R291, R292). -/
theorem implied_of_seven_zero (s : State) :
    (bitAt (cpuidLeaf s 7 0).ebx 2 = true → leafInRange s.cfg 0x12 = true) ∧
    (bitAt (cpuidLeaf s 7 0).ebx 15 = true → leafInRange s.cfg 0x10 = true) ∧
    (bitAt (cpuidLeaf s 7 0).edx 15 = true → nativeModelLeaf s.cfg = true) ∧
    (bitAt (cpuidLeaf s 7 0).edx 18 = true → leafInRange s.cfg 0x1B = true) := by
  rw [cpuidLeaf_seven_zero]
  refine ⟨?_, ?_, ?_, ?_⟩ <;> simp [bitAt_implying]

/-- What ArchPerfmonExt, HRESET, UTMR, AVX10 and MWAIT, in sub-leaf 1, come with (R264, R266, R353, R528, R529). -/
theorem implied_of_seven_one (s : State) :
    (bitAt (cpuidLeaf s 7 1).eax 8 = true → leafInRange s.cfg 0x23 = true) ∧
    (bitAt (cpuidLeaf s 7 1).eax 22 = true → leafInRange s.cfg 0x20 = true) ∧
    (bitAt (cpuidLeaf s 7 1).edx 13 = true → bitAt (cpuidLeaf s 7 0).edx 5 = true) ∧
    (bitAt (cpuidLeaf s 7 1).edx 19 = true → leafInRange s.cfg 0x24 = true) ∧
    (bitAt (cpuidLeaf s 7 1).edx 23 = true → monitorLeafSupported s.cfg = true ∧ monitorEnabled s = true) := by
  rw [cpuidLeaf_uintr]
  by_cases hvalid : withinLast s.cfg 7 1 = true
  · rw [cpuidLeaf_seven_one, cpuidCfg_seven_one hvalid]
    refine ⟨?_, ?_, ?_, ?_, ?_⟩ <;> simp +contextual [bitAt_implying, bitAt_setBitTo]
  · obtain ⟨heax, -, -, hedx⟩ := emptyRow_cpuidLeaf_seven (Bool.eq_false_of_not_eq_true hvalid)
    simp [heax, hedx, bitAt]

theorem cpuidLeaf_one_ecx (s : State) (sub : Nat) : (cpuidLeaf s 1 sub).ecx =
    setBitTo (setBitTo (cpuidCfg s.cfg 1 sub).ecx 27 (bitAt s.sys.cr4 18)) 3
      (bitAt (cpuidCfg s.cfg 1 sub).ecx 3 && monitorEnabled s) := rfl

/-- MONITOR comes with leaf 05H, while IA32_MISC_ENABLE enables it (R528, R529). -/
theorem implied_of_monitorFlag (h : monitorFlag s = true) :
    monitorLeafSupported s.cfg = true ∧ monitorEnabled s = true := by
  have hcfg : (cpuidCfg s.cfg 1 0).ecx =
      implying ((rawRow s.cfg 1 0).ecx &&& 0x7FFFFFFF) 3 (monitorLeafSupported s.cfg) := rfl
  rw [monitorFlag, cpuidLeaf_one_ecx, bitAt_setBitTo, if_pos (by decide), hcfg, bitAt_implying _ _ _ _ (by decide),
    if_pos rfl, Bool.and_eq_true, Bool.and_eq_true] at h
  obtain ⟨⟨-, hleaf⟩, henabled⟩ := h
  exact ⟨hleaf, henabled⟩

/-- A supported and enabled leaf 05H is no row of zeros. -/
theorem not_emptyRow_monitorLeaf (h : monitorLeafSupported s.cfg = true ∧ monitorEnabled s = true) :
    ¬ Claims.emptyRow (cpuidLeaf s 5 0) := by
  obtain ⟨hleaf, henabled⟩ := h
  rw [cpuidLeaf_monitor, if_pos henabled]
  rintro ⟨heax, hebx, hecx, hedx⟩
  have hor : (cpuidCfg s.cfg 5 0).eax ||| (cpuidCfg s.cfg 5 0).ebx ||| (cpuidCfg s.cfg 5 0).ecx |||
      (cpuidCfg s.cfg 5 0).edx ≠ 0 := bne_iff_ne.mp hleaf
  exact hor (by rw [heax, hebx, hecx, hedx]; rfl)

/-- What Hybrid implies of leaf 1AH (R291), said of the leaf that answers. -/
theorem nativeModelLeaf_iff (s : State) : nativeModelLeaf s.cfg = true ↔
    leafInRange s.cfg 0x1A = true ∧ (cpuidLeaf s 0x1A 0).eax ≠ 0 := by
  have hleaf : cpuidLeaf s 0x1A 0 = rawRow s.cfg 0x1A 0 := rfl
  rw [nativeModelLeaf, hleaf, Bool.and_eq_true, bne_iff_ne]

/-! ### Bits that follow other state, and the brand string -/

/-- CPUID.01H:ECX[27] mirrors CR4.OSXSAVE (R229). -/
theorem cpuidLeaf_osxsave (s : State) (sub : Nat) : bitAt (cpuidLeaf s 1 sub).ecx 27 = bitAt s.sys.cr4 18 := by
  simp [cpuidLeaf_one_ecx, bitAt_setBitTo]

/-- CPUID.(07H,0):ECX[4] mirrors CR4.PKE (R262). -/
theorem cpuidLeaf_ospke (s : State) : bitAt (cpuidLeaf s 7 0).ecx 4 = bitAt s.sys.cr4 22 := by
  simp [cpuidLeaf_seven_zero, bitAt_setBitTo]

/-- The last byte of the brand string is NUL (R345): the mask of EDX has no bit there. -/
theorem brandString_nul (s : State) : fieldOf (cpuidLeaf s 0x80000004 0).edx 31 24 = 0 := by
  have hedx : (cpuidLeaf s 0x80000004 0).edx = (rawRow s.cfg 0x80000004 0).edx &&& 0x00FFFFFF := rfl
  rw [hedx, fieldOf, BitVec.extractLsb_and]
  simp

end Sys2Proof.Machine

namespace Sys2Proof.Claims

open Sys2Proof.Machine

/-- Settles O30: CPUID is its effect, and a flag shows what the rows of leaves 01H and 07H let it imply. -/
theorem cpuidAnswers : Obligations.CpuidAnswers := by
  refine ⟨fun s => ⟨_, exec_cpuid s, rfl, State.holdsAnswer_withCpuid .., fun g hg => State.reg_withCpuid_of_notMem _ _ hg,
      fun a ha => (s.msrVal_loadSignature a).trans (if_neg ha), (s.msrVal_loadSignature 0x8B).trans (if_pos rfl)⟩,
    fun s leaf sub h hx => (cpuidAnswer_of_out h hx).trans (cpuidAnswer_maxBasic s sub).symm,
    fun s sub h hsub => ?_, fun s sub h => ?_, fun s h => ?_, fun s => ?_, fun s h => ?_, brandString_nul, fun s => ?_⟩
  · rw [cpuidAnswer_of_le h rfl] at hsub ⊢
    exact emptyRow_cpuidLeaf_seven (decide_eq_false hsub.not_ge)
  · rw [cpuidAnswer_of_le h rfl, cpuidLeaf_osxsave]
  · rw [cpuidAnswer_of_le h rfl, cpuidLeaf_ospke]
  · obtain ⟨-, -, hutmr, -, -⟩ := implied_of_seven_one s
    exact hutmr
  · obtain ⟨-, -, -, -, hmwait⟩ := implied_of_seven_one s
    exact not_emptyRow_monitorLeaf (h.elim implied_of_monitorFlag hmwait)
  · have hle {leaf : Nat} (hb : leaf < 0x80000000) (h : leafInRange s.cfg leaf = true) := le_of_leafInRange h hb
    obtain ⟨hsgx, hrdta, hhybrid, hpconfig⟩ := implied_of_seven_zero s
    obtain ⟨hperfmon, hhreset, -, havx10, -⟩ := implied_of_seven_one s
    rw [nativeModelLeaf_iff] at hhybrid
    exact ⟨hle (by decide) ∘ hsgx, hle (by decide) ∘ hrdta, And.imp_left (hle (by decide)) ∘ hhybrid,
      hle (by decide) ∘ hpconfig, hle (by decide) ∘ hperfmon, hle (by decide) ∘ hhreset, hle (by decide) ∘ havx10⟩

end Sys2Proof.Claims

/-! ## Words of the spec's encodings -/

namespace Sys2Proof.Claims

/-- Settles O1: the words are closed, and the decoder computes each one's instruction and length. -/
theorem decodeWords : Obligations.DecodeWords :=
  ⟨rfl, rfl, rfl, rfl, rfl, rfl, rfl⟩

end Sys2Proof.Claims

/-! ## The checks of a posted update -/

namespace Sys2Proof.Machine

variable {s : State} {e : Trap}

/-- The segment and canonical checks stop with #GP, or with #SS through SS (R822, R824). -/
theorem checkLinear_error {seg : Seg} {off : W64} {n : Nat} {write : Bool}
    (h : checkLinear s seg off n write = .error e) : e = gpTrap s ∨ seg = .ss ∧ e = ssTrap s := by
  have hseg : segTrap s seg = gpTrap s ∨ seg = .ss ∧ segTrap s seg = ssTrap s := by
    unfold segTrap
    split
    · next hss => exact .inr ⟨hss, rfl⟩
    · exact .inl rfl
  unfold checkLinear at h
  dsimp only at h
  split at h
  · split at h <;> cases h
    exact hseg
  · split at h
    · cases h; exact hseg
    split at h
    · cases h; exact .inl rfl
    split at h
    · cases h; exact hseg
    split at h <;> cases h
    exact .inl rfl

theorem translateBytes_error_page {k : Access} {sup : Bool} {n : Nat} {la : W64}
    (h : translateBytes s k sup n la = .error e) : ∃ a code, e = .page a code := by
  obtain ⟨_, _, hfail, _⟩ := translateBytes_error h
  obtain ⟨_, _, _, _, _, he⟩ := translate_error hfail
  exact ⟨_, _, he⟩

section

variable {m : MemOp} {n : Nat} {la : W64}

theorem raoCheck_of_checkLinear_error (hl : checkLinear s (segOf m) (s.ea m) n true = .error e) :
    raoCheck s m n = .error e := by
  unfold raoCheck
  rw [hl]
  rfl

/-- Alignment is checked before translation (R402, R404). -/
theorem raoCheck_of_misaligned (hl : checkLinear s (segOf m) (s.ea m) n true = .ok la) (ha : la.toNat % n ≠ 0) :
    raoCheck s m n = .error (gpTrap s) := by
  have halign : aligned la n = false := beq_false_of_ne ha
  simp only [raoCheck, hl, bind, Except.bind, halign, Bool.not_false, if_true]

/-- An aligned destination is checked further: its translation, then the memory types (R402). -/
theorem raoCheck_of_aligned (hl : checkLinear s (segOf m) (s.ea m) n true = .ok la) (ha : la.toNat % n = 0) :
    raoCheck s m n = (do
      let as ← translateBytes s .write false n la
      if as.all (fun a => memType s.cfg a == .wb) then .ok as else .error (gpTrap s)) := by
  have halign : aligned la n = true := beq_iff_eq.mpr ha
  simp only [raoCheck, hl, bind, Except.bind, halign, Bool.not_true, Bool.false_eq_true, if_false]

theorem raoCheck_of_translate_error (hl : checkLinear s (segOf m) (s.ea m) n true = .ok la) (ha : la.toNat % n = 0)
    (ht : translateBytes s .write false n la = .error e) : raoCheck s m n = .error e := by
  rw [raoCheck_of_aligned hl ha, ht]
  rfl

theorem raoCheck_of_not_writeBack {as : List Nat} (hl : checkLinear s (segOf m) (s.ea m) n true = .ok la)
    (ha : la.toNat % n = 0) (ht : translateBytes s .write false n la = .ok as)
    (hw : ∃ a ∈ as, memType s.cfg a ≠ .wb) : raoCheck s m n = .error (gpTrap s) := by
  have hall : as.all (fun a => memType s.cfg a == .wb) = false := by simpa using hw
  rw [raoCheck_of_aligned hl ha, ht]
  exact if_neg (by rw [hall]; exact Bool.false_ne_true)

end

section

variable {op : RaoOp} {sz : RaoSize} {m : MemOp} {r : Gpr}

/-- A check that fails stops an RAO instruction, inside a transaction as outside. -/
theorem exec_raoInstr_of_error (hf : hasRaoInt s.cfg = true) (hc : raoCheck s m (raoWidth sz) = .error e) :
    exec (Claims.raoInstr op sz m r) s = .next (s.takeTrap e) := by
  rw [exec_raoInstr]
  refine settle_error ?_
  unfold raoPost
  simp only [Act.bind_run, Act.get_run, hf, hc, need_true, liftE_error]

/-- In a transaction an RAO instruction whose checks pass aborts it (R407). -/
theorem exec_raoInstr_of_tsx {as : List Nat} (hf : hasRaoInt s.cfg = true) (hx : s.ctx.tsx = true)
    (hc : raoCheck s m (raoWidth sz) = .ok as) : exec (Claims.raoInstr op sz m r) s = .next s.tsxAbort := by
  rw [exec_raoInstr]
  refine settle_error (e := .abort) ?_
  unfold raoPost
  simp only [Act.bind_run, Act.get_run, hf, hc, hx, Bool.not_true, need_true, need_false, liftE_ok]

end

end Sys2Proof.Machine

namespace Sys2Proof.Claims

open Sys2Proof.Machine

/-- Settles O25: the check that fails is the one of the alignment, or the one of the memory types. -/
theorem raoTraps : Obligations.RaoTraps := by
  intro op sz m r s la as hf _ hl ht
  have hgp : gpTrap s = .exn .gp (if s.mode = .real then none else some 0) := by
    simp only [gpTrap, beq_iff_eq]
  exact ⟨fun ha => hgp ▸ exec_raoInstr_of_error hf (raoCheck_of_misaligned hl ha),
    fun ha hw => exec_raoInstr_of_error hf (raoCheck_of_not_writeBack hl ha ht hw)⟩

end Sys2Proof.Claims

/-! ## AMX instructions in a transaction, and without alignment checks -/

namespace Sys2Proof.Machine

/-! ### Traps other than #AC -/

/-- The trap is not #AC. -/
def Trap.NotAc (e : Trap) : Prop := ∀ code, e ≠ .exn .ac code

/-- No #AC has been delivered (R826: vector 17). -/
def State.NoAcDelivered (s : State) : Prop := ∀ code rip, s.delivered ≠ some (.exception 17 code rip)

theorem Exn.eq_ac_of_vector : ∀ {e : Exn}, e.vector = 17 → e = .ac
  | .ac, _ => rfl

theorem Trap.NotAc.noAcDelivered {e : Trap} (he : e.NotAc) (s : State) : (s.takeTrap e).NoAcDelivered := by
  intro code rip hd
  cases e with
  | exn x c =>
    rw [State.takeTrap_exn] at hd
    injection hd with hd
    injection hd with hv
    exact he c (congrArg (Trap.exn · c) (Exn.eq_ac_of_vector hv))
  | page | xfd | exit | abort => cases hd

/-- An access without an alignment check stops with #GP, #SS or #PF. -/
theorem accessBytes_error_notAc {s : State} {seg : Seg} {off : W64} {n : Nat} {k : Access} {e : Trap}
    (h : accessBytes s seg off n k false = .error e) : e.NotAc := by
  cases hl : checkLinear s seg off n (k == .write) with
  | error e' =>
    simp only [accessBytes, hl, bind, Except.bind] at h
    cases h
    obtain rfl | ⟨-, rfl⟩ := checkLinear_error hl <;> nofun
  | ok la =>
    simp only [accessBytes, hl, bind, Except.bind, Bool.false_and, Bool.false_eq_true, if_false] at h
    obtain ⟨_, _, rfl⟩ := translateBytes_error_page h
    nofun

/-! ### The pieces of AMX instructions -/

theorem State.delivered_loadConfig (s : State) (b : List Byte) : (s.loadConfig b).delivered = s.delivered := by
  unfold State.loadConfig; split <;> rfl

theorem State.delivered_pairPrologue (s : State) (t : Tmm) (n : Nat) :
    (s.pairPrologue t n).delivered = s.delivered := by
  unfold State.pairPrologue; dsimp only; split <;> rfl

theorem State.delivered_pairRow (s : State) (t : Tmm) (i base : Nat) (v : W512) :
    (s.pairRow t i base v).delivered = s.delivered := by
  unfold State.pairRow; split <;> rfl

/-- No trap that an action stops with is #AC, and it delivers nothing where it completes. -/
abbrev Act.AcFree {α : Type} (a : Act α) : Prop := Act.Preserves State.NoAcDelivered a

/-- What the AMX instructions share: in a transaction they stop before they change anything, and they raise no #AC (R582). -/
structure AmxAction (a : Act Unit) : Prop where
  stops : ∀ {s : State}, s.ctx.tsx = true → a s = .error .abort s ∨ a s = .error udTrap s
  acFree : Act.AcFree a

namespace AmxAction

theorem update {f : State → State} (hf : ∀ s, (f s).delivered = s.delivered := by exact fun _ => rfl) :
    Act.AcFree (modify f) :=
  .modify fun s h => by unfold State.NoAcDelivered; rw [hf s]; exact h

theorem check {c : Bool} {e : Trap} (he : e.NotAc := by nofun) : Act.AcFree (need c e) :=
  .need fun _ s _ => he.noAcDelivered s

theorem access {s : State} {seg : Seg} {off : W64} {n : Nat} {k : Access} :
    Act.AcFree (liftE (accessBytes s seg off n k false)) :=
  .liftE fun _ he t _ => (accessBytes_error_notAc he).noAcDelivered t

theorem memRead {seg : Seg} {off : W64} {n : Nat} : Act.AcFree (memRead seg off n false) :=
  .getBind fun _ _ => .bind access fun as =>
    .bind (update fun s => s.raoForce_delivered as) fun _ => .getBind fun _ _ => .pure _

theorem memWrite {seg : Seg} {off : W64} {bs : List Byte} : Act.AcFree (memWrite seg off bs false) :=
  .getBind fun _ _ => .bind access fun as => update fun s => s.raoForce_delivered as

theorem tileDataEnabled : Act.AcFree tileDataEnabled := .getBind fun _ _ => check

theorem readRow {m : MemOp} {i n : Nat} : Act.AcFree (readRow m i n) :=
  .bind update fun _ => .getBind fun _ _ => .bind memRead fun _ => .pure _

theorem loadRows {t : Tmm} {m : MemOp} {nbytes n i : Nat} : Act.AcFree (loadRows t m nbytes n i) := by
  induction n generalizing i with
  | zero => exact .pure _
  | succ n ih => exact .bind readRow fun _ => .bind update fun _ => ih

theorem storeRows {t : Tmm} {m : MemOp} {nbytes n i : Nat} : Act.AcFree (storeRows t m nbytes n i) := by
  induction n generalizing i with
  | zero => exact .pure _
  | succ n ih => exact .bind update fun _ => .getBind fun _ _ => .bind memWrite fun _ => ih

theorem pairRows {a b : Tmm} {m : MemOp} {limit n i : Nat} : Act.AcFree (pairRows a b m limit n i) := by
  induction n generalizing i with
  | zero => exact .pure _
  | succ n ih =>
    exact .getBind fun _ _ => .bind (.ite readRow (.pure _)) fun _ =>
      .bind (update fun _ => (State.delivered_pairRow _ b i _ _).trans (State.delivered_pairRow _ a i 0 _)) fun _ =>
        ih

/-! ### AMX instructions -/

/-- After the common beginning it is enough to raise no #AC. -/
theorem of_amxBegin {ok : Cfg → Bool} {k : Unit → Act Unit} (hk : ∀ u, Act.AcFree (k u)) :
    AmxAction (amxBegin ok >>= k) where
  stops {s} hx := by
    rw [Act.bind_run, amxBegin_run, if_pos hx]
    cases amxEnabled s && ok s.cfg with
    | true => exact .inl rfl
    | false => exact .inr rfl
  acFree := .bind (.getBind fun _ _ => .bind check fun _ => check) hk

/-- A #UD check may stand before the common beginning. -/
theorem of_need {c : State → Bool} {a : Act Unit} (ha : AmxAction a) :
    AmxAction (get >>= fun s => need (c s) udTrap >>= fun _ => a) where
  stops {s} hx := by
    rw [Act.bind_run, Act.get_run]
    dsimp only
    rw [Act.bind_run]
    cases c s with
    | true => exact ha.stops hx
    | false => exact .inr rfl
  acFree := .getBind fun _ _ => .bind check fun _ => ha.acFree

/-- An operation on tiles alone: the checks, then a new state. -/
theorem tileOp (ok : Cfg → Bool) (c : State → Bool) {f : State → State}
    (hf : ∀ s, (f s).delivered = s.delivered := by exact fun _ => rfl) :
    AmxAction (do
      amxBegin ok
      Machine.tileDataEnabled
      let s ← get
      need (c s) udTrap
      set (f s)) :=
  of_amxBegin fun _ => .bind tileDataEnabled fun _ => .getBind fun s h => .bind check fun _ =>
    .set (by unfold State.NoAcDelivered; rw [hf s]; exact h)

theorem rowToZmm (f : W32 → W32) (d : VReg) (t : Tmm) (sel : RowSel) : AmxAction (rowToZmm f d t sel) :=
  of_need <| of_amxBegin fun _ => .getBind fun _ h => .bind check fun _ => .bind tileDataEnabled fun _ =>
    .bind check fun _ => .bind check fun _ => .set h

theorem loadTileConfig (m : MemOp) : AmxAction (loadTileConfig m) :=
  of_amxBegin fun _ => .bind (.getBind fun _ _ => memRead) fun b => .getBind fun s h => .bind check fun _ =>
    .set (by unfold State.NoAcDelivered; rw [s.delivered_loadConfig b]; exact h)

theorem storeTileConfig (m : MemOp) : AmxAction (storeTileConfig m) :=
  of_amxBegin fun _ => .getBind fun _ _ => .getBind fun _ _ => memWrite

theorem releaseTileConfig : AmxAction releaseTileConfig := of_amxBegin fun _ => update

theorem tileLoad (ok : Cfg → Bool) (t : Tmm) (m : MemOp) : AmxAction (tileLoad ok t m) :=
  of_amxBegin fun _ => .bind tileDataEnabled fun _ => .getBind fun _ _ => .bind check fun _ => .bind update fun _ =>
    .bind loadRows fun _ => update

theorem tileStore (m : MemOp) (t : Tmm) : AmxAction (tileStore m t) :=
  of_amxBegin fun _ => .bind tileDataEnabled fun _ => .getBind fun _ _ => .bind check fun _ =>
    .bind storeRows fun _ => update

theorem pairLoad (ok : Cfg → Bool) (pad : Nat) (t : Tmm) (m : MemOp) : AmxAction (pairLoad ok pad t m) :=
  of_amxBegin fun _ => .bind tileDataEnabled fun _ => .getBind fun _ _ => .bind check fun _ =>
    .bind (update fun _ => (State.delivered_pairPrologue ..).trans (State.delivered_pairPrologue ..)) fun _ =>
      .bind pairRows fun _ => update

end AmxAction

/-- Every AMX instruction runs such an action. -/
theorem exec_eq_amxAction {i : Instr} (hi : isAmx i = true) (s : State) : ∃ a, AmxAction a ∧ exec i s = settle a s := by
  cases i with
  | ldtilecfg m => exact ⟨_, .loadTileConfig m, rfl⟩
  | sttilecfg m => exact ⟨_, .storeTileConfig m, rfl⟩
  | tilerelease => exact ⟨_, .releaseTileConfig, rfl⟩
  | tilezero | tcmmimfp16ps | tcmmrlfp16ps | tdpbf8ps | tdpbhf8ps | tdphbf8ps | tdphf8ps | tmmultf32ps
  | tconjtcmmimfp16ps | ttcmmimfp16ps | ttcmmrlfp16ps | ttdpbf16ps | ttdpfp16ps | ttmmultf32ps | tconjtfp16
  | ttransposed => exact ⟨_, .tileOp _ _, rfl⟩
  | tileloadd t m | tileloaddT1 t m | tileloaddrs t m | tileloaddrsT1 t m => exact ⟨_, .tileLoad _ t m, rfl⟩
  | tilestored m t => exact ⟨_, .tileStore m t, rfl⟩
  | t2rpntlvwZ0 t m | t2rpntlvwZ0T1 t m | t2rpntlvwZ1 t m | t2rpntlvwZ1T1 t m | t2rpntlvwZ0RS t m
  | t2rpntlvwZ0RST1 t m | t2rpntlvwZ1RS t m | t2rpntlvwZ1RST1 t m => exact ⟨_, .pairLoad _ _ t m, rfl⟩
  | tcvtrowd2psR d t | tcvtrowd2psI d t | tcvtrowps2pbf16hR d t | tcvtrowps2pbf16hI d t | tcvtrowps2pbf16lR d t
  | tcvtrowps2pbf16lI d t | tcvtrowps2phhR d t | tcvtrowps2phhI d t | tcvtrowps2phlR d t | tcvtrowps2phlI d t
  | tilemovrowR d t | tilemovrowI d t => exact ⟨_, .rowToZmm _ d t _, rfl⟩
  | _ => cases hi

end Sys2Proof.Machine

namespace Sys2Proof.Claims

open Sys2Proof.Machine

/-- Settles O22: the AMX clauses by the common beginning of the AMX instructions and the traps of their accesses, the
RAO clauses by the check that fails. -/
theorem transactionsAndAlignment : Obligations.TransactionsAndAlignment := by
  refine ⟨fun i s t hi hx ht => ?_, fun op sz m r s as hf hx hc => exec_raoInstr_of_tsx hf hx hc,
    fun i s t c r hi hd ht => ?_, fun op sz m r s e hf hc => exec_raoInstr_of_error hf hc,
    fun op sz m r s e hf hl => ⟨exec_raoInstr_of_error hf (raoCheck_of_checkLinear_error hl), checkLinear_error hl⟩,
    fun op sz m r s la hf hl => ⟨fun ha e he => ?_, fun ha _ => ?_, fun ha _ as ht hw => ?_⟩⟩
  · obtain ⟨a, ha, he⟩ := exec_eq_amxAction hi s
    rw [he] at ht
    obtain h | h := ha.stops hx <;> rw [settle_error h] at ht <;> cases ht
    · exact .inl rfl
    · exact .inr rfl
  · obtain ⟨a, ha, he⟩ := exec_eq_amxAction hi s
    have hnone : s.NoAcDelivered := fun _ _ h => nomatch hd.symm.trans h
    exact ha.acFree.settle (fun _ h => h) (he ▸ ht) hnone c r
  · exact ⟨exec_raoInstr_of_error hf (raoCheck_of_translate_error hl ha he), translateBytes_error_page he⟩
  · exact exec_raoInstr_of_error hf (raoCheck_of_misaligned hl ha)
  · exact exec_raoInstr_of_error hf (raoCheck_of_not_writeBack hl ha ht hw)

end Sys2Proof.Claims

/-! ## Read-shared loads -/

namespace Sys2Proof.Machine

variable {s : State}

/-! ### Loaded values -/

theorem leNat_lt (bs : List Byte) : leNat bs < 256 ^ bs.length := by
  induction bs with
  | nil => exact Nat.one_pos
  | cons b bs ih =>
    have hb := b.isLt
    rw [leNat, List.length_cons, pow_succ']
    omega

/-- The value of bytes that fit in a narrower word is not changed by passing through it. -/
theorem setWidth_leVal {w : Nat} {bs : List Byte} (h : 8 * bs.length ≤ w) :
    ((leVal 64 bs).setWidth w).setWidth 64 = leVal 64 bs := by
  have hlt : leNat bs < 2 ^ w :=
    calc leNat bs
      _ < 256 ^ bs.length := leNat_lt bs
      _ = 2 ^ (8 * bs.length) := (pow_mul 2 8 bs.length).symm
      _ ≤ 2 ^ w := Nat.pow_le_pow_right Nat.two_pos h
  refine BitVec.eq_of_toNat_eq ?_
  have hmod : leNat bs % 2 ^ 64 < 2 ^ w := (Nat.mod_le _ _).trans_lt hlt
  simp only [leVal, BitVec.toNat_setWidth, BitVec.toNat_ofNat, Nat.mod_eq_of_lt hmod, Nat.mod_mod]

theorem extractLsb'_setHigh8 (w : W64) (v : Byte) : (setHigh8 w v).extractLsb' 8 8 = v := by
  have hshift : (v.setWidth 64 <<< 8).extractLsb' 8 8 = v := by
    refine BitVec.eq_of_getLsbD_eq fun i hi => ?_
    have h64 : 8 + i < 64 ∧ i < 64 := by omega
    simp [hi, h64]
  simp [setHigh8, BitVec.extractLsb'_or, BitVec.extractLsb'_and, hshift]

/-- Reading a byte register after writing it (R421). -/
theorem State.reg8_setReg8 (s : State) (d : Reg8) (v : Byte) : (s.setReg8 d v).reg8 d = v := by
  cases d with
  | low g => simp [State.setReg8, State.reg8]
  | ah | ch | dh | bh => simp [State.setReg8, State.reg8, extractLsb'_setHigh8]

theorem State.reg8_congr {t : State} (h : t.gpr = s.gpr) (d : Reg8) : t.reg8 d = s.reg8 d := by
  cases d <;> simp only [State.reg8, State.reg, h]

/-- A write of a byte register changes the general registers alone, and depends on them alone. -/
theorem State.setReg8_congr {t : State} (h : t.gpr = s.gpr) (d : Reg8) (v : Byte) :
    t.setReg8 d v = { t with gpr := (s.setReg8 d v).gpr } := by
  cases d <;> simp only [State.setReg8, State.setReg, State.reg, h]

theorem State.setRegSized_congr {t : State} (h : t.gpr = s.gpr) (sz : OpSize) (d : Gpr) (v : W64) :
    t.setRegSized sz d v = { t with gpr := (s.setRegSized sz d v).gpr } := by
  cases sz <;> simp only [State.setRegSized, State.setReg16, State.setReg32, State.setReg, State.reg, h]

/-- A result of an operand size (R422): a word keeps the upper bits, a doubleword is zero-extended. -/
theorem State.reg_setRegSized (s : State) (sz : OpSize) (g h : Gpr) (v : W64) :
    (s.setRegSized sz g v).reg h = if h = g then
      match sz with
      | .o16 => (s.reg g &&& 0xFFFFFFFFFFFF0000) ||| (v.setWidth 16).setWidth 64
      | .o32 => (v.setWidth 32).setWidth 64
      | .o64 => v
    else s.reg h := by
  cases sz <;> exact State.reg_setReg ..

/-! ### Accesses of 64-bit mode (R121, R123, R826) -/

section

variable {seg : Seg} {off : W64} {n : Nat} {k : Access} {ac : Bool} {la : W64} {e : Trap}

/-- The first and the last byte of an operand are at canonical addresses. -/
abbrev InCanonical (c : Cfg) (la : W64) (n : Nat) : Prop :=
  canonical c la = true ∧ canonical c (la + BitVec.ofNat 64 (n - 1)) = true

theorem segTrap_of_is64 (h : s.is64 = true) (seg : Seg) :
    segTrap s seg = .exn (if seg = .ss then .ss else .gp) (some 0) := by
  have hmode : s.mode = .long := beq_iff_eq.mp h
  simp only [segTrap, ssTrap, gpTrap, hmode]
  split <;> rfl

theorem checkLinear_of_is64 (h : s.is64 = true) (write : Bool) :
    checkLinear s seg off n write =
      if InCanonical s.cfg (s.linear seg off) n then .ok (s.linear seg off)
      else .error (.exn (if seg = .ss then .ss else .gp) (some 0)) := by
  simp only [checkLinear, h, if_true, Bool.and_eq_true, segTrap_of_is64 h]

theorem accessBytes_of_checkLinear_error (hl : checkLinear s seg off n (k == .write) = .error e) :
    accessBytes s seg off n k ac = .error e := by
  rw [accessBytes, hl]; rfl

theorem accessBytes_of_checkLinear (hl : checkLinear s seg off n (k == .write) = .ok la) :
    accessBytes s seg off n k ac =
      if ac && s.acEnabled && !aligned la n then .error acTrap else translateBytes s k false n la := by
  rw [accessBytes, hl]; rfl

theorem accessBytes_of_not_canonical (h : s.is64 = true) (hc : ¬ InCanonical s.cfg (s.linear seg off) n) :
    accessBytes s seg off n k ac = .error (.exn (if seg = .ss then .ss else .gp) (some 0)) :=
  accessBytes_of_checkLinear_error ((checkLinear_of_is64 h _).trans (if_neg hc))

theorem accessBytes_of_misaligned (h : s.is64 = true) (hc : InCanonical s.cfg (s.linear seg off) n)
    (hac : s.acEnabled = true) (ha : (s.linear seg off).toNat % n ≠ 0) :
    accessBytes s seg off n k true = .error acTrap := by
  have halign : aligned (s.linear seg off) n = false := beq_false_of_ne ha
  rw [accessBytes_of_checkLinear ((checkLinear_of_is64 h _).trans (if_pos hc)), hac, halign]
  rfl

theorem accessBytes_of_aligned (h : s.is64 = true) (hc : InCanonical s.cfg (s.linear seg off) n)
    (ha : s.acEnabled = false ∨ (s.linear seg off).toNat % n = 0) :
    accessBytes s seg off n k ac = translateBytes s k false n (s.linear seg off) := by
  have hpass : ¬ (ac && s.acEnabled && !aligned (s.linear seg off) n) = true := by
    obtain h | h := ha <;> simp [aligned, h]
  rw [accessBytes_of_checkLinear ((checkLinear_of_is64 h _).trans (if_pos hc)), if_neg hpass]

theorem accessBytes_length {as : List Nat} (h : accessBytes s seg off n k ac = .ok as) : as.length = n := by
  cases hl : checkLinear s seg off n (k == .write) with
  | error e => cases (accessBytes_of_checkLinear_error hl).symm.trans h
  | ok la =>
    rw [accessBytes_of_checkLinear hl] at h
    split at h
    · cases h
    · exact translateBytes_length _ _ _ _ _ _ h

end

/-! ### The end of a load -/

/-- The machine after an instruction that loaded the bytes `as` and wrote the general registers `g` and the vector state `v`. -/
def State.loaded (s : State) (as : List Nat) (g : Gprs) (v : VecState) : State :=
  { s.raoForce as with rip := s.nextRip, gpr := g, vec := v }

variable {as : List Nat} {g : Gprs} {v : VecState}

@[simp] theorem State.loaded_gpr : (s.loaded as g v).gpr = g := rfl

theorem State.advance_raoForce : ({ s.raoForce as with gpr := g, vec := v } : State).advance = s.loaded as g v := by
  have hrip : ({ s.raoForce as with gpr := g, vec := v } : State).nextRip = s.nextRip := by
    rw [State.raoForce_eq]; rfl
  rw [State.advance, hrip]
  rfl

theorem State.loaded_eq : s.loaded as g v =
    { s with rip := s.nextRip, gpr := g, vec := v, mem := (s.loaded as g v).mem, rao := (s.loaded as g v).rao,
             monitor := (s.loaded as g v).monitor } := by
  unfold State.loaded State.raoForce
  split <;> rfl

theorem State.loadsOnly_loaded : loadsOnly s (s.loaded as g v) := by
  refine ⟨s.sameMemory_raoForce as, fun h => ?_⟩
  have hforce : s.raoForce as = s := by unfold State.raoForce; rw [h]
  simp only [State.loaded, hforce, h, and_self]

/-! ### MOVRS (R421 to R423) -/

/-- What the two forms of MOVRS share: the check, a load of `n` bytes, and what `f` writes of them. -/
def movrsLoad (m : MemOp) (n : Nat) (f : List Byte → State → State) : Act Unit := do
  need (movrsOk (← get)) udTrap
  let bs ← loadOp m n true
  modify (f bs)

theorem exec_movrsB (d : Reg8) (m : MemOp) (s : State) :
    exec (.movrsB d m) s = settle (movrsLoad m 1 fun bs => (·.setReg8 d (bs.headD 0))) s := rfl

theorem exec_movrsV (sz : OpSize) (d : Gpr) (m : MemOp) (s : State) :
    exec (.movrsV sz d m) s = settle (movrsLoad m (opWidth sz) fun bs => (·.setRegSized sz d (leVal 64 bs))) s := rfl

section

variable {m : MemOp} {n : Nat} {f : List Byte → State → State}

theorem movrsOk_iff : movrsOk s = true ↔ s.is64 = true ∧ hasMovrs s.cfg = true := by
  simp only [movrsOk, Bool.and_eq_true]

theorem settle_movrsLoad (hm : movrsOk s = true) (ha : accessBytes s (segOf m) (s.ea m) n .read true = .ok as)
    (hf : ∀ t, t.gpr = s.gpr → f (readBytes s.seen as) t = { t with gpr := g }) :
    settle (movrsLoad m n f) s = .next (s.loaded as g s.vec) := by
  have hrun : movrsLoad m n f s = .ok () { s.raoForce as with gpr := g, vec := s.vec } := by
    unfold movrsLoad
    simp only [Act.bind_run, Act.get_run, hm, need_true, loadOp_run, ha, Act.modify_run, s.readBytes_raoForce,
      hf _ (s.raoForce_gpr as)]
    rw [← s.raoForce_vec as]
  rw [settle_ok hrun, State.advance_raoForce]

theorem settle_movrsLoad_of_error {e : Trap} (hm : movrsOk s = true)
    (ha : accessBytes s (segOf m) (s.ea m) n .read true = .error e) :
    settle (movrsLoad m n f) s = .next (s.takeTrap e) := by
  refine settle_error ?_
  unfold movrsLoad
  simp only [Act.bind_run, Act.get_run, hm, need_true, loadOp_run, ha]

end

end Sys2Proof.Machine

namespace Sys2Proof.Claims

open Sys2Proof.Machine

/-- Settles O27: MOVRS is one load that ends in a register write, and PREFETCHRST2 is no operation. -/
theorem movrsLoads : Obligations.MovrsLoads := by
  refine ⟨fun d m s as h64 hf ha => ?_, fun sz d m s as h64 hf ha => ?_, fun _ _ => rfl⟩
  · rw [exec_movrsB, settle_movrsLoad (movrsOk_iff.mpr ⟨h64, hf⟩) ha fun t ht => State.setReg8_congr ht d _]
    refine ⟨_, rfl, State.loadsOnly_loaded, State.loaded_eq, ?_, rfl⟩
    rw [State.reg8_congr State.loaded_gpr, State.reg8_setReg8]
  · rw [exec_movrsV, settle_movrsLoad (movrsOk_iff.mpr ⟨h64, hf⟩) ha fun t ht => State.setRegSized_congr ht sz d _]
    refine ⟨_, rfl, State.loadsOnly_loaded, State.loaded_eq, fun g hg => ?_, ?_⟩
    · exact (State.reg_setRegSized s sz d g _).trans (if_neg hg)
    · refine (State.reg_setRegSized s sz d d _).trans ((if_pos rfl).trans ?_)
      have hlen : (readBytes s.seen as).length = opWidth sz := by
        rw [readBytes, List.length_map, accessBytes_length ha]
      cases sz with
      | o16 => exact congrArg (_ ||| ·) (setWidth_leVal (by rw [hlen]; decide))
      | o32 => exact setWidth_leVal (by rw [hlen]; decide)
      | o64 => rfl

end Sys2Proof.Claims

/-! ## Where the read-shared loads trap -/

namespace Sys2Proof.Machine

variable {s : State}

/-! ### The checks of a masked vector load (R424, R429) -/

theorem mem_activeElems {k : KReg} {n j : Nat} : j ∈ activeElems s k n ↔ Claims.takesPart s k n j := by
  rw [activeElems, List.mem_filter, List.mem_range]

theorem activeElems_sorted (k : KReg) (n : Nat) : (activeElems s k n).Pairwise (· < ·) :=
  List.pairwise_lt_range.filter _

theorem State.linear_add (h : s.is64 = true) (seg : Seg) (off d : W64) :
    s.linear seg (off + d) = s.linear seg off + d := by
  simp only [State.linear, h, if_true]
  cases seg <;> simp only [BitVec.add_assoc]

section

variable {seg : Seg} {off : W64} {eb n : Nat} {l : List Nat} {e : Trap}

theorem checkElems_cons (j : Nat) : checkElems s seg off eb (j :: l) =
    checkLinear s seg (off + BitVec.ofNat 64 (j * eb)) eb false >>= fun _ => checkElems s seg off eb l := rfl

theorem checkElems_ok (h : ∀ j ∈ l, ∃ la, checkLinear s seg (off + BitVec.ofNat 64 (j * eb)) eb false = .ok la) :
    checkElems s seg off eb l = .ok () := by
  induction l with
  | nil => rfl
  | cons j l ih =>
    obtain ⟨⟨la, hj⟩, hl⟩ := List.forall_mem_cons.mp h
    rw [checkElems_cons, hj]
    exact ih hl

theorem checkElem_of_is64 (h : s.is64 = true) {d : W64} :
    checkLinear s seg (off + d) eb false =
      if InCanonical s.cfg (s.linear seg off + d) eb then .ok (s.linear seg off + d)
      else .error (.exn (if seg = .ss then .ss else .gp) (some 0)) := by
  rw [checkLinear_of_is64 h, State.linear_add h]

/-- All elements fail their checks with one trap, so that it is of no matter which fails first. -/
theorem checkElems_of_not_canonical (h : s.is64 = true) {j : Nat} (hj : j ∈ l)
    (hc : ¬ InCanonical s.cfg (s.linear seg off + BitVec.ofNat 64 (j * eb)) eb) :
    checkElems s seg off eb l = .error (.exn (if seg = .ss then .ss else .gp) (some 0)) := by
  induction l with
  | nil => cases hj
  | cons i l ih =>
    rw [checkElems_cons, checkElem_of_is64 h]
    split
    · next hi =>
      obtain rfl | hj := List.mem_cons.mp hj
      · exact absurd hi hc
      · exact ih hj
    · rfl

theorem translateElems_cons (la : W64) (j : Nat) : translateElems s la eb (j :: l) =
    translateBytes s .read false eb (la + BitVec.ofNat 64 (j * eb)) >>= fun as =>
      translateElems s la eb l >>= fun r => .ok (as :: r) := rfl

theorem translateElems_ok {la : W64} {phys : Nat → List Nat}
    (h : ∀ j ∈ l, translateBytes s .read false eb (la + BitVec.ofNat 64 (j * eb)) = .ok (phys j)) :
    translateElems s la eb l = .ok (l.map phys) := by
  induction l with
  | nil => rfl
  | cons j l ih =>
    obtain ⟨hj, hl⟩ := List.forall_mem_cons.mp h
    rw [translateElems_cons, hj, ih hl]
    rfl

/-- The first element in order whose translation fails decides (R124). -/
theorem translateElems_error {la : W64} {j : Nat} (hs : l.Pairwise (· < ·)) (hj : j ∈ l)
    (hbelow : ∀ q ∈ l, q < j → ∃ as, translateBytes s .read false eb (la + BitVec.ofNat 64 (q * eb)) = .ok as)
    (h : translateBytes s .read false eb (la + BitVec.ofNat 64 (j * eb)) = .error e) :
    translateElems s la eb l = .error e := by
  induction l with
  | nil => cases hj
  | cons i l ih =>
    obtain ⟨hi, hs⟩ := List.pairwise_cons.mp hs
    obtain ⟨hbi, hbl⟩ := List.forall_mem_cons.mp hbelow
    rw [translateElems_cons]
    obtain rfl | hj := List.mem_cons.mp hj
    · rw [h]; rfl
    · obtain ⟨as, has⟩ := hbi (hi j hj)
      rw [has, ih hs hj hbl]
      rfl

theorem vectorAccess_of_checkElems_error (hc : checkElems s seg off eb l = .error e) :
    vectorAccess s seg off eb n l = .error e := by
  rw [vectorAccess, hc]; rfl

theorem vectorAccess_of_misaligned (hc : checkElems s seg off eb l = .ok ()) (hl : l ≠ []) (hac : s.acEnabled = true)
    (ha : (s.linear seg off).toNat % n ≠ 0) : vectorAccess s seg off eb n l = .error acTrap := by
  have hne : l.isEmpty = false := List.isEmpty_eq_false_iff.mpr hl
  have halign : aligned (s.linear seg off) n = false := beq_false_of_ne ha
  rw [vectorAccess, hc, hne, hac, halign]
  rfl

theorem vectorAccess_of_aligned (hc : checkElems s seg off eb l = .ok ())
    (ha : s.acEnabled = false ∨ (s.linear seg off).toNat % n = 0 ∨ l = []) :
    vectorAccess s seg off eb n l = translateElems s (s.linear seg off) eb l := by
  have hpass : (!l.isEmpty && s.acEnabled && !aligned (s.linear seg off) n) = false := by
    obtain h | h | h := ha
    · simp [h]
    · simp [aligned, h]
    · simp [h]
  rw [vectorAccess, hc, hpass]
  rfl

end

/-! ### VMOVRS (R424) -/

theorem exec_vmovrs : ∀ f ∈ Claims.vmovrsForms, ∀ d k z m s,
    exec (f.2.2 d k z m) s = settle (vmovrs f.1 f.2.1 d k z m) s := by
  simp only [Claims.vmovrsForms, List.forall_mem_cons, List.not_mem_nil, false_imp_iff, implies_true, and_true]
  and_intros
  all_goals exact fun _ _ _ _ _ => rfl

section

variable {e vl : Nat} {d : VReg} {k : KReg} {z : Bool} {m : MemOp}

theorem settle_vmovrs_of_not_ok (ho : vmovrsOk s vl = false) :
    settle (vmovrs e vl d k z m) s = .next (s.takeTrap udTrap) :=
  settle_need (c := (vmovrsOk · vl)) ho

theorem settle_vmovrs_of_taskSwitched (ho : vmovrsOk s vl = true) (ht : bitAt s.sys.cr0 3 = true) :
    settle (vmovrs e vl d k z m) s = .next (s.takeTrap nmTrap) := by
  refine settle_error ?_
  unfold vmovrs
  simp only [Act.bind_run, Act.get_run, ho, ht, need_true, Bool.not_true, need_false]

theorem settle_vmovrs_of_error {x : Trap} (ho : vmovrsOk s vl = true) (ht : bitAt s.sys.cr0 3 = false)
    (hv : vectorAccess s (segOf m) (s.ea m) (e / 8) (vl / 8) (activeElems s k (vl / e)) = .error x) :
    settle (vmovrs e vl d k z m) s = .next (s.takeTrap x) := by
  refine settle_error ?_
  unfold vmovrs
  simp only [Act.bind_run, Act.get_run, ho, ht, need_true, Bool.not_false, hv, liftE_error]

theorem vmovrsOk_iff : vmovrsOk s vl = true ↔
    s.is64 = true ∧ bitAt s.sys.cr4 18 = true ∧ s.sys.xcr0 &&& 0xE6 = 0xE6 ∧ hasMovrs s.cfg = true ∧
      hasAvx102 s.cfg = true ∧ vlSupported s.cfg vl = true := by
  simp [vmovrsOk, evexEnabled, and_assoc]

theorem vmovrsOk_eq_false (h : s.is64 = false ∨ bitAt s.sys.cr4 18 = false ∨ s.sys.xcr0 &&& 0xE6 ≠ 0xE6 ∨
    hasMovrs s.cfg = false ∨ hasAvx102 s.cfg = false ∨ vlSupported s.cfg vl = false) : vmovrsOk s vl = false := by
  refine Bool.eq_false_iff.mpr fun ho => ?_
  obtain ⟨h64, hosxsave, hxcr0, hmovrs, havx, hvl⟩ := vmovrsOk_iff.mp ho
  simp only [h64, hosxsave, hxcr0, hmovrs, havx, hvl, ne_eq, not_true_eq_false, reduceCtorEq, or_self] at h

end

end Sys2Proof.Machine

namespace Sys2Proof.Claims

open Sys2Proof.Machine

/-- Settles O28: a scalar load stops with the trap of its access, a vector load with that of its elements' checks. -/
theorem movrsTraps : Obligations.MovrsTraps := by
  refine ⟨fun s i m n h64 hi => ?_, fun f hf d k z m s => ?_⟩
  · obtain ⟨f, hf⟩ : ∃ f, exec i s = settle (movrsLoad m n f) s := by
      obtain ⟨⟨d, rfl⟩, rfl⟩ | ⟨sz, d, rfl, rfl⟩ := hi
      · exact ⟨_, exec_movrsB d m s⟩
      · exact ⟨_, exec_movrsV sz d m s⟩
    rw [hf]
    refine ⟨fun hm => settle_need (c := movrsOk) (by simp [movrsOk, hm]), fun hm => ?_⟩
    have hok : movrsOk s = true := movrsOk_iff.mpr ⟨h64, hm⟩
    refine ⟨fun hc => settle_movrsLoad_of_error hok (accessBytes_of_not_canonical h64 ?_), fun hc hc' => ⟨?_, ?_⟩⟩
    · rintro ⟨h, h'⟩
      simp [h, h'] at hc
    · exact fun hac ha => settle_movrsLoad_of_error hok (accessBytes_of_misaligned h64 ⟨hc, hc'⟩ hac ha)
    · exact fun ha e he => settle_movrsLoad_of_error hok ((accessBytes_of_aligned h64 ⟨hc, hc'⟩ ha).trans he)
  · rw [exec_vmovrs f hf]
    refine ⟨fun h => settle_vmovrs_of_not_ok (vmovrsOk_eq_false h),
      fun ho => ⟨settle_vmovrs_of_taskSwitched ho, fun ht => ?_⟩⟩
    have h64 : s.is64 = true := (vmovrsOk_iff.mp ho).1
    refine ⟨fun j hj hin => ?_, fun hin => ?_⟩
    · exact settle_vmovrs_of_error ho ht
        (vectorAccess_of_checkElems_error (checkElems_of_not_canonical h64 (mem_activeElems.mpr hj) hin))
    have hc : checkElems s (segOf m) (s.ea m) (f.1 / 8) (activeElems s k (f.2.1 / f.1)) = .ok () :=
      checkElems_ok fun j hj => ⟨_, (checkElem_of_is64 h64).trans (if_pos (hin j (mem_activeElems.mp hj)))⟩
    simp only [Nat.zero_mul, BitVec.ofNat_eq_ofNat, BitVec.add_zero]
    refine ⟨fun j hj hac ha => ?_, fun ha j e hj hbelow he => ?_⟩ <;> refine settle_vmovrs_of_error ho ht ?_
    · exact vectorAccess_of_misaligned hc (List.ne_nil_of_mem (mem_activeElems.mpr hj)) hac ha
    · rw [vectorAccess_of_aligned hc (ha.imp_right .inl)]
      exact translateElems_error (activeElems_sorted k _) (mem_activeElems.mpr hj)
        (fun q hq hlt => hbelow q hlt (mem_activeElems.mp hq)) he

end Sys2Proof.Claims

/-! ## Masked vector loads -/

namespace Sys2Proof.Machine

variable {s : State}

/-! ### Vectors of elements -/

theorem ofElems_succ (n e : Nat) (f : Nat → W64) :
    ofElems (n + 1) e f = ofElems n e f ||| (((f n).setWidth e).setWidth 512 <<< (e * n)) := by
  rw [ofElems, List.range_succ, List.foldl_append]
  rfl

/-- Bit `i` of a vector is a bit of the element that it falls in. -/
theorem getLsbD_ofElems {n e i : Nat} (f : Nat → W64) (he : 0 < e) (hi : i < 512) :
    (ofElems n e f).getLsbD i = (decide (i < e * n) && (f (i / e)).getLsbD (i % e)) := by
  induction n with
  | zero => simp [ofElems]
  | succ n ih =>
    have hnext : e * (n + 1) = e * n + e := Nat.mul_succ e n
    rw [ofElems_succ, BitVec.getLsbD_or, ih, BitVec.getLsbD_shiftLeft, BitVec.getLsbD_setWidth, BitVec.getLsbD_setWidth]
    rcases lt_or_ge i (e * n) with hlt | hge
    · have hlt' : i < e * (n + 1) := by omega
      simp [hlt, hlt']
    · obtain ⟨r, rfl⟩ := Nat.exists_eq_add_of_le hge
      have hfits : r < 512 := by omega
      rcases lt_or_ge r e with hr | hr
      · have hdiv : (e * n + r) / e = n := by rw [Nat.mul_add_div he, Nat.div_eq_of_lt hr, Nat.add_zero]
        have hmod : (e * n + r) % e = r := by rw [Nat.mul_add_mod, Nat.mod_eq_of_lt hr]
        simp [hi, hfits, hr, hdiv, hmod, hnext]
      · have hout : ¬ r < e := by omega
        simp [hout, hnext]

theorem extractLsb'_ofElems {n e j : Nat} (f : Nat → W64) (hj : j < n) (hn : e * n ≤ 512) :
    (ofElems n e f).extractLsb' (e * j) e = (f j).setWidth e := by
  refine BitVec.eq_of_getLsbD_eq fun i hi => ?_
  have hin : e * j + i < e * n := (Nat.add_lt_add_left hi _).trans_le (Nat.mul_le_mul_left e hj)
  have hpos : 0 < e := by omega
  rw [BitVec.getLsbD_extractLsb', getLsbD_ofElems f hpos (hin.trans_le hn), BitVec.getLsbD_setWidth,
    Nat.mul_add_div hpos, Nat.div_eq_of_lt hi, Nat.add_zero, Nat.mul_add_mod, Nat.mod_eq_of_lt hi, decide_eq_true hin,
    Bool.true_and]

/-- The bits above the elements are zero. -/
theorem ofElems_ushiftRight {n e : Nat} (f : Nat → W64) (he : 0 < e) : ofElems n e f >>> (e * n) = 0 := by
  refine BitVec.eq_of_getLsbD_eq fun i _ => ?_
  rw [BitVec.getLsbD_ushiftRight]
  refine Eq.trans ?_ BitVec.getLsbD_zero.symm
  rcases lt_or_ge (e * n + i) 512 with h | h
  · have habove : ¬ e * n + i < e * n := by omega
    rw [getLsbD_ofElems f he h, decide_eq_false habove, Bool.false_and]
  · exact BitVec.getLsbD_of_ge _ _ h

/-! ### The elements of a masked load (R424) -/

/-- A list of numbers paired with a value for each gives the value of its members. -/
theorem find?_zip_map {α : Type} (l : List Nat) (g : Nat → α) (j : Nat) :
    (l.zip (l.map g)).find? (fun p => p.1 == j) = if j ∈ l then some (j, g j) else none := by
  induction l with
  | nil => rfl
  | cons i l ih =>
    rw [List.map_cons, List.zip_cons_cons, List.find?_cons, ih]
    by_cases h : i = j
    · simp [h]
    · simp [beq_false_of_ne h, Ne.symm h]

theorem mergeElem_zip_map (old : W512) (e : Nat) (z : Bool) (l : List Nat) (g : Nat → W64) (j : Nat) :
    mergeElem old e z (l.zip (l.map g)) j =
      if j ∈ l then g j else if z then 0 else (old.extractLsb' (e * j) e).setWidth 64 := by
  rw [mergeElem, find?_zip_map]
  split_ifs <;> rfl

/-- Each operand of a load of several is read as this processor sees it (R131). -/
theorem State.readBytes_raoForce_of_subset (s : State) {as fp : List Nat} (h : as ⊆ fp) :
    readBytes (s.raoForce fp).mem as = readBytes s.seen as :=
  List.map_congr_left fun a ha =>
    (readByte_raoPerformAll_frame _ (s.notMem_raoForce_rao (h ha))).symm.trans (s.sameMemory_raoForce fp a)

/-- The value of a masked load: `phys` gives the bytes of the elements that take part. -/
def maskedLoad (s : State) (e vl : Nat) (d : VReg) (k : KReg) (z : Bool) (phys : Nat → List Nat) : W512 :=
  ofElems (vl / e) e fun j =>
    if j ∈ activeElems s k (vl / e) then leVal 64 (readBytes s.seen (phys j))
    else if z then 0 else ((s.zmm d).extractLsb' (e * j) e).setWidth 64

section

variable {e vl : Nat} {d : VReg} {k : KReg} {z : Bool} {m : MemOp} {phys : Nat → List Nat}

theorem settle_vmovrs (ho : vmovrsOk s vl = true) (ht : bitAt s.sys.cr0 3 = false)
    (hv : vectorAccess s (segOf m) (s.ea m) (e / 8) (vl / 8) (activeElems s k (vl / e)) =
      .ok ((activeElems s k (vl / e)).map phys)) :
    settle (vmovrs e vl d k z m) s = .next (s.loaded ((activeElems s k (vl / e)).map phys).flatten s.gpr
      (s.setZmm d (maskedLoad s e vl d k z phys)).vec) := by
  generalize hl : activeElems s k (vl / e) = l at hv ⊢
  have hread : (l.map phys).map (fun a => leVal 64 (readBytes (s.raoForce (l.map phys).flatten).mem a)) =
      l.map (fun j => leVal 64 (readBytes s.seen (phys j))) := by
    rw [List.map_map]
    refine List.map_congr_left fun j hj => congrArg (leVal 64) (s.readBytes_raoForce_of_subset ?_)
    exact fun a ha => List.mem_flatten.mpr ⟨phys j, List.mem_map_of_mem hj, ha⟩
  have hmerge : ofElems (vl / e) e (mergeElem (s.zmm d) e z
      (l.zip (l.map fun j => leVal 64 (readBytes s.seen (phys j))))) = maskedLoad s e vl d k z phys := by
    rw [maskedLoad, hl]
    exact congrArg (ofElems (vl / e) e) (funext fun j => mergeElem_zip_map ..)
  have hzmm : (s.raoForce (l.map phys).flatten).zmm d = s.zmm d := by simp only [State.zmm, State.raoForce_vec]
  have hrun : vmovrs e vl d k z m s = .ok () { s.raoForce (l.map phys).flatten with
      gpr := s.gpr, vec := (s.setZmm d (maskedLoad s e vl d k z phys)).vec } := by
    unfold vmovrs
    simp only [Act.bind_run, Act.get_run, ho, ht, need_true, Bool.not_false, hl, hv, liftE_ok, Act.modify_run, hread, hzmm,
      hmerge, State.setZmm, State.raoForce_vec]
    rw [← s.raoForce_gpr (l.map phys).flatten]
  rw [settle_ok hrun, State.advance_raoForce]

theorem extractLsb'_maskedLoad {j : Nat} (he : e ≤ 64) (hvl : e * (vl / e) ≤ 512) (hj : j < vl / e) :
    (maskedLoad s e vl d k z phys).extractLsb' (e * j) e =
      if s.maskBit k j then leVal e (readBytes s.seen (phys j))
      else if z then 0 else (s.zmm d).extractLsb' (e * j) e := by
  have hmem : j ∈ activeElems s k (vl / e) ↔ s.maskBit k j = true := mem_activeElems.trans (and_iff_right hj)
  rw [maskedLoad, extractLsb'_ofElems _ hj hvl]
  simp only [hmem]
  split_ifs
  · exact BitVec.setWidth_ofNat_of_le he _
  · exact BitVec.setWidth_zero ..
  · rw [BitVec.setWidth_setWidth_of_le _ he, BitVec.setWidth_eq]

theorem maskedLoad_ushiftRight (he : 0 < e) (hvl : e * (vl / e) = vl) :
    maskedLoad s e vl d k z phys >>> vl = 0 :=
  (congrArg (maskedLoad s e vl d k z phys >>> ·) hvl.symm).trans (ofElems_ushiftRight _ he)

end

/-- Every row has elements of at most a quadword that fill its vector. -/
theorem vmovrsForms_sizes : ∀ f ∈ Claims.vmovrsForms, 0 < f.1 ∧ f.1 ≤ 64 ∧ f.1 * (f.2.1 / f.1) = f.2.1 ∧ f.2.1 ≤ 512 := by
  decide

end Sys2Proof.Machine

namespace Sys2Proof.Claims

open Sys2Proof.Machine

/-- Settles O29: the checks pass for each element that takes part; the vector is built of the loaded and the kept elements. -/
theorem vmovrsLoads : Obligations.VmovrsLoads := by
  intro f hf d k z m s phys ho ht hp hac
  obtain ⟨hpos, he, hvl, hmax⟩ := vmovrsForms_sizes f hf
  have hc : checkElems s (segOf m) (s.ea m) (f.1 / 8) (activeElems s k (f.2.1 / f.1)) = .ok () :=
    checkElems_ok fun j hj => (hp j (mem_activeElems.mp hj)).1
  have hv : vectorAccess s (segOf m) (s.ea m) (f.1 / 8) (f.2.1 / 8) (activeElems s k (f.2.1 / f.1)) =
      .ok ((activeElems s k (f.2.1 / f.1)).map phys) := by
    have hnone : (∀ j, ¬ takesPart s k (f.2.1 / f.1) j) → activeElems s k (f.2.1 / f.1) = [] := fun h =>
      List.eq_nil_iff_forall_not_mem.mpr fun j hj => h j (mem_activeElems.mp hj)
    rw [vectorAccess_of_aligned hc (hac.imp_right (Or.imp_right hnone))]
    exact translateElems_ok fun j hj => (hp j (mem_activeElems.mp hj)).2
  rw [exec_vmovrs f hf, settle_vmovrs ho ht hv]
  have hd : (s.setZmm d (maskedLoad s f.1 f.2.1 d k z phys)).zmm d = maskedLoad s f.1 f.2.1 d k z phys :=
    (s.zmm_setZmm d d _).trans (if_pos rfl)
  refine ⟨_, rfl, State.loadsOnly_loaded, State.loaded_eq, rfl, rfl, fun q hq => ?_, fun j hj => ?_, ?_⟩
  · exact (s.zmm_setZmm q d _).trans (if_neg hq)
  · exact (congrArg _ hd).trans (extractLsb'_maskedLoad he (hvl.trans_le hmax) hj)
  · exact (congrArg (fun v : W512 => v >>> f.2.1) hd).trans (maskedLoad_ushiftRight hpos hvl)

end Sys2Proof.Claims

/-! ## Key binding and key programming -/

namespace Sys2Proof.Machine

variable {s u v : State} {as : List Nat}

/-! ### Memory after a store (R131) -/

/-- Updates that touch no byte of `fp` make the same of two memories that agree outside `fp`. -/
theorem readByte_raoPerformAll_congr_outside {m m' : Store Byte} {fp : List Nat} {l : List RaoEntry} {a : Nat}
    (hl : ∀ b ∈ fp, ∀ e ∈ l, b ∉ e.bytes) (h : ∀ b, b ∉ fp → readByte m b = readByte m' b) (ha : a ∉ fp) :
    readByte (raoPerformAll m l) a = readByte (raoPerformAll m' l) a := by
  induction l generalizing m m' with
  | nil => exact h a ha
  | cons e l ih =>
    refine ih (fun b hb f hf => hl b hb f (.tail _ hf)) fun b hb => ?_
    by_cases hbe : b ∈ e.bytes
    · exact readByte_raoPerform_of_mem hbe fun c hc => h c fun hcf => hl c hcf e (.head _) hc
    · rw [readByte_raoPerform_frame m e b hbe, readByte_raoPerform_frame m' e b hbe, h b hb]

/-- A store changes what is seen in its own bytes alone. -/
theorem State.readByte_seen_store (s : State) (bs : List Byte) {a : Nat} (ha : a ∉ as) :
    readByte ((s.raoForce as).store as bs).seen a = readByte s.seen a :=
  (readByte_raoPerformAll_congr_outside (fun _ hb => s.notMem_raoForce_rao hb)
    (fun b hb => readByte_writeBytes_frame _ as bs b hb) ha).trans (s.sameMemory_raoForce as a)

/-- What a store to addresses that are all different has written is seen there. -/
theorem State.readBytes_seen_store (s : State) {bs : List Byte} (hd : as.Nodup) (hl : bs.length = as.length) :
    readBytes ((s.raoForce as).store as bs).seen as = bs :=
  (readBytes_congr fun _ ha => readByte_raoPerformAll_frame _ (s.notMem_raoForce_rao ha)).trans
    (readBytes_writeBytes _ hd hl)

theorem State.loadsOnly_raoForce (s : State) (as : List Nat) : loadsOnly s (s.raoForce as) :=
  State.loadsOnly_loaded (g := s.gpr) (v := s.vec)

/-- A load that passes its checks reads memory as this processor sees it. -/
theorem memRead_of_access {seg : Seg} {off : W64} {n : Nat} {ac : Bool}
    (h : accessBytes s seg off n .read ac = .ok as) :
    memRead seg off n ac s = .ok (readBytes s.seen as) (s.raoForce as) := by
  rw [memRead_run, h]
  exact congrArg (EStateM.Result.ok · _) (s.readBytes_raoForce as)

/-! ### What the key instructions change before their results -/

/-- `u` is `s` but for memory with its posted updates and monitor, the key tables and the draw counter. -/
def KeyWork (s u : State) : Prop :=
  u = { s with mem := u.mem, rao := u.rao, monitor := u.monitor, tmemk := u.tmemk, tse := u.tse, draws := u.draws }

namespace KeyWork

theorem raoForce (s : State) (fp : List Nat) : KeyWork s (s.raoForce fp) := by
  unfold KeyWork State.raoForce; split <;> rfl

theorem trans (hu : KeyWork s u) (hv : KeyWork u v) : KeyWork s v := by
  unfold KeyWork at hv; rw [hv, hu]; rfl

/-- The checks of an access depend on nothing that is changed. -/
theorem accessBytes_eq (h : KeyWork s u) (seg : Seg) (off : W64) (n : Nat) (k : Access) (ac : Bool) :
    accessBytes u seg off n k ac = accessBytes s seg off n k ac := by
  have htranslate (la : W64) : translateBytes u k false n la = translateBytes s k false n la := by
    induction n generalizing la with
    | zero => rfl
    | succ n ih =>
      have hbyte : translate u la k false = translate s la k false := by rw [h]; rfl
      rw [translateBytes, translateBytes, hbyte, ih]
  have hlinear : checkLinear u seg off n (k == .write) = checkLinear s seg off n (k == .write) := by rw [h]; rfl
  have hac : u.acEnabled = s.acEnabled := by rw [h]; rfl
  simp only [accessBytes, hlinear, hac, htranslate]

end KeyWork

/-! ### Results (R452, R470) -/

/-- The machine after a key instruction: RAX, the flags, the next instruction. -/
def State.keyEnd (u : State) (rax : W64) (failed : Bool) : State := ((u.setReg .rax rax).keyFlags failed).advance

variable {rax : W64} {failed : Bool}

theorem State.reg_keyEnd (g : Gpr) : (u.keyEnd rax failed).reg g = if g = .rax then rax else u.reg g :=
  u.reg_setReg .rax g rax

theorem State.zf_keyEnd : Claims.zf (u.keyEnd rax failed) = failed :=
  (bitAt_setBitTo _ 6 6 failed).trans (if_pos ⟨rfl, by decide⟩)

/-- Neither RAX nor the flags decide whether the machine is in 64-bit mode. -/
theorem State.nextRip_keyFlags : ((u.setReg .rax rax).keyFlags failed).nextRip = u.nextRip := by
  have hmode (w : W64) : ({ u with rflags := w } : State).is64 = u.is64 := by
    simp only [State.is64, State.mode]
    split_ifs <;> rfl
  have h64 : ((u.setReg .rax rax).keyFlags failed).is64 = u.is64 := hmode _
  rw [State.nextRip, State.nextRip, h64]
  rfl

namespace KeyWork

variable (h : KeyWork s u)
include h

theorem keyFlagsOnly : Claims.keyFlagsOnly s (u.keyEnd rax failed) := by
  have hcleared (w : W64) : setBitTo (w &&& ~~~keyFlagMask) 6 failed &&& 0x895 = 0 := by
    have hmask : w &&& ~~~keyFlagMask &&& 0x895 = 0 := (BitVec.and_assoc ..).trans BitVec.and_zero
    cases failed with
    | false =>
      rw [setBitTo, if_neg nofun, BitVec.and_assoc, BitVec.and_comm _ 0x895, ← BitVec.and_assoc, hmask]
      rfl
    | true => exact BitVec.and_or_distrib_right.trans (by rw [hmask]; decide)
  refine ⟨hcleared _, ((u.setReg .rax rax).keyFlags_others failed).trans ?_⟩
  rw [h]; rfl

theorem reg_keyEnd {g : Gpr} (hg : g ≠ .rax) : (u.keyEnd rax failed).reg g = s.reg g := by
  rw [State.reg_keyEnd, if_neg hg, h]; rfl

theorem keyEnd_eq : u.keyEnd rax failed =
    { s with rip := s.nextRip, gpr := (u.keyEnd rax failed).gpr, rflags := (u.keyEnd rax failed).rflags, mem := u.mem,
             rao := u.rao, monitor := u.monitor, tmemk := u.tmemk, tse := u.tse, draws := u.draws } := by
  have hrip : ((u.setReg .rax rax).keyFlags failed).nextRip = s.nextRip := by
    rw [State.nextRip_keyFlags, h]; rfl
  unfold State.keyEnd State.advance
  rw [hrip, h]
  rfl

end KeyWork


/-! ### PBNDKB (R452) -/

/-- Random bits are free values, and so is whether there are any (R450). -/
theorem rng_run (s : State) : rng s = .ok (Config.rngOk s.draws, Config.rngBits s.draws) (s.drawn 1) := rfl

theorem length_bindOutput (key : BitVec 256) (iv : BitVec 96) (plain : BitVec 512) {btdata : List Byte} (ctrl : Byte) :
    (bindOutput key iv plain btdata ctrl).length = 256 := by
  simp only [bindOutput, List.length_append, toBytes_length, List.length_replicate, List.length_singleton]

theorem State.drawn_drawn (s : State) (m n : Nat) : (s.drawn m).drawn n = s.drawn (m + n) := by
  simp only [State.drawn, Nat.add_assoc]

/-- The keys to wrap: given, or mixed with random bits if there is entropy. -/
theorem bindKeys_cases (t : List Byte) (s : State) : ∃ n,
    (bindKeys t s = .ok none (s.drawn n) ∧ ∃ i, Config.rngOk i = false) ∨
      ∃ plain, bindKeys t s = .ok (some plain) (s.drawn n) ∧
        ((sliceVal t 160 1).toNat = 0 → plain = sliceVal t 64 64) := by
  unfold bindKeys
  by_cases hmix : (sliceVal t 160 1).toNat = 1
  · simp only [hmix, if_true, Act.bind_run, rng_run, State.drawn_drawn]
    cases hok : Config.rngOk s.draws && Config.rngOk (s.drawn 1).draws with
    | false =>
      exact ⟨2, .inl ⟨rfl, (Bool.and_eq_false_iff.mp hok).elim (fun h => ⟨_, h⟩) fun h => ⟨_, h⟩⟩⟩
    | true => exact ⟨2, .inr ⟨_, rfl, nofun⟩⟩
  · rw [if_neg hmix]
    exact ⟨0, .inr ⟨_, rfl, fun _ => rfl⟩⟩

/-- The bind structure for the keys `plain` that answers the bind structure `t`. -/
def boundStructure (t : List Byte) (iv : BitVec 96) (plain : BitVec 512) : List Byte :=
  bindOutput (wrappingKey (sliceVal t 128 32)) iv plain (slice t 128 128) (t.getD 160 0)

/-- What PBNDKB with a legal structure in the bytes `ins` and its output in the bytes `outs` has done, and its results:
RAX and whether it failed. -/
inductive BindOutcome (s : State) (ins outs : List Nat) : State → W64 → Bool → Prop
  | platformFails (w : W32) (hp : platformFailure s = some w) :
    BindOutcome s ins outs ((s.raoForce ins).drawn 1) (w.setWidth 64) true
  | entropyLacks (n i : Nat) (hp : platformFailure s = none) (hi : Config.rngOk i = false) :
    BindOutcome s ins outs ((s.raoForce ins).drawn n) 1 true
  | binds (n : Nat) (iv : BitVec 96) (plain : BitVec 512) (hp : platformFailure s = none)
    (hplain : (sliceVal (readBytes s.seen ins) 160 1).toNat = 0 → plain = sliceVal (readBytes s.seen ins) 64 64) :
    BindOutcome s ins outs
      ((((s.raoForce ins).drawn n).raoForce outs).store outs (boundStructure (readBytes s.seen ins) iv plain)) 0 false

section

variable {ins outs : List Nat} {out : W64}

/-- From the checked structure on, entropy decides. -/
theorem bindWrite_outcome (hp : platformFailure s = none) (hout : accessBytes s .ds out 256 .write false = .ok outs) :
    ∃ u rax failed, BindOutcome s ins outs u rax failed ∧
      bindWrite out (readBytes s.seen ins) (s.raoForce ins) = .ok () ((u.setReg .rax rax).keyFlags failed) := by
  unfold bindWrite
  obtain ⟨n, ⟨hrun, i, hi⟩ | ⟨plain, hrun, hplain⟩⟩ := bindKeys_cases (readBytes s.seen ins) (s.raoForce ins)
  · exact ⟨_, _, _, .entropyLacks n i hp hi, by rw [Act.bind_run, hrun]; rfl⟩
  · simp only [Act.bind_run, hrun, rng_run, State.drawn_drawn]
    cases hok : Config.rngOk ((s.raoForce ins).drawn n).draws with
    | false => exact ⟨_, _, _, .entropyLacks (n + 1) _ hp hok, rfl⟩
    | true =>
      have hwork : KeyWork s ((s.raoForce ins).drawn (n + 1)) := (KeyWork.raoForce s ins).trans rfl
      refine ⟨_, _, _, .binds (n + 1) ((Config.rngBits ((s.raoForce ins).drawn n).draws).setWidth 96) plain hp
        hplain, ?_⟩
      simp only [if_true, Act.bind_run, memWrite_run, length_bindOutput, hwork.accessBytes_eq, hout]
      rfl

theorem bindKey_outcome (hf : hasPbndkb s.cfg = true) (hcpl : s.cpl = 0) (h64 : s.is64 = true)
    (hroot : s.nonRoot = false ∨ s.tertiary 9 = true) (hb : (s.reg .rbx).toNat % 256 = 0)
    (hc : (s.reg .rcx).toNat % 256 = 0) (hbc : s.reg .rbx ≠ s.reg .rcx)
    (hcb : canonical s.cfg (s.reg .rbx) = true) (hcc : canonical s.cfg (s.reg .rcx) = true)
    (hin : accessBytes s .ds (s.reg .rbx) 256 .read false = .ok ins)
    (hout : accessBytes s .ds (s.reg .rcx) 256 .write false = .ok outs)
    (hok : bindOk (readBytes s.seen ins) = true) :
    ∃ u rax failed, BindOutcome s ins outs u rax failed ∧
      bindKey s = .ok () ((u.setReg .rax rax).keyFlags failed) := by
  have hfeature : (hasPbndkb s.cfg && s.cpl == 0 && s.is64) = true := by simp [hf, hcpl, h64]
  have hroot : (!s.nonRoot || s.tertiary 9) = true := by simpa using hroot
  have hplaces : (s.reg .rbx != s.reg .rcx && aligned (s.reg .rbx) 256 && aligned (s.reg .rcx) 256) = true := by
    simp [aligned, hb, hc, hbc]
  unfold bindKey
  simp only [Act.bind_run, Act.get_run, hfeature, hroot, hplaces, hcb, hcc, Bool.and_self, need_true,
    memRead_of_access hin, hok]
  cases hp : platformFailure s with
  | none => exact bindWrite_outcome hp hout
  | some w => exact ⟨_, _, _, .platformFails w hp, by rw [← BitVec.ofNat_toNat]; rfl⟩

namespace BindOutcome

variable (h : BindOutcome s ins outs u rax failed)
include h

theorem keyWork : KeyWork s u := by
  have hin (n : Nat) : KeyWork s ((s.raoForce ins).drawn n) := (KeyWork.raoForce s ins).trans rfl
  cases h with
  | platformFails | entropyLacks => exact hin _
  | binds => exact (hin _).trans ((KeyWork.raoForce _ outs).trans rfl)

/-- PBNDKB writes no key table. -/
theorem tables : u.tmemk = s.tmemk ∧ u.tse = s.tse := by
  cases h with
  | platformFails | entropyLacks => exact ⟨s.raoForce_tmemk ins, s.raoForce_tse ins⟩
  | binds n =>
    exact ⟨(State.raoForce_tmemk _ outs).trans (s.raoForce_tmemk ins),
      (State.raoForce_tse _ outs).trans (s.raoForce_tse ins)⟩

theorem readByte_seen {a : Nat} (ha : a ∉ outs) : readByte u.seen a = readByte s.seen a := by
  cases h with
  | platformFails | entropyLacks => exact s.sameMemory_raoForce ins a
  | binds => exact (State.readByte_seen_store _ _ ha).trans (s.sameMemory_raoForce ins a)

end BindOutcome

end

/-! ### PCONFIG (R470) -/

/-- What PCONFIG leaves in RAX as its result `n`: outside 64-bit mode the upper half is kept (R470). -/
def State.pconfigRax (s : State) (n : Nat) : W64 := (s.setPconfigRax n).reg .rax

theorem State.pconfigRax_of_is64 (h : s.is64 = true) (n : Nat) : s.pconfigRax n = BitVec.ofNat 64 n := by
  rw [State.pconfigRax, State.setPconfigRax, if_pos h, State.reg_setReg, if_pos rfl]

theorem State.setWidth_pconfigRax (s : State) (n : Nat) : (s.pconfigRax n).setWidth 32 = BitVec.ofNat 32 n := by
  have hwhole : (BitVec.ofNat 64 n).setWidth 32 = BitVec.ofNat 32 n := BitVec.setWidth_ofNat_of_le (by decide) n
  have hupper : (0xFFFFFFFF00000000 : W64).setWidth 32 = 0 := rfl
  unfold State.pconfigRax State.setPconfigRax
  split
  · rw [State.reg_setReg, if_pos rfl, hwhole]
  · rw [State.reg_setReg, if_pos rfl, BitVec.setWidth_or, BitVec.setWidth_and, hupper, hwhole]
    exact (congrArg (· ||| _) BitVec.and_zero).trans BitVec.zero_or

theorem KeyWork.setPconfigRax (h : KeyWork s u) (n : Nat) : u.setPconfigRax n = u.setReg .rax (s.pconfigRax n) := by
  have h64 : u.is64 = s.is64 := by rw [h]; rfl
  have hreg : u.reg .rax = s.reg .rax := by rw [h]; rfl
  unfold State.pconfigRax State.setPconfigRax
  rw [h64, hreg]
  split <;> rw [State.reg_setReg, if_pos rfl]

/-- PCONFIG completes in a state that `Q` holds of; of memory it only loads, of general registers it writes RAX alone, and
of the flags those of the key instructions. -/
def PconfigCompletes (s : State) (Q : State → Prop) : Prop :=
  ∃ t, exec .pconfig s = .next t ∧ loadsOnly s t ∧ Claims.keyFlagsOnly s t ∧ (∀ g, g ≠ .rax → t.reg g = s.reg g) ∧ Q t

theorem completes_of_run {n : Nat} {Q : State → Prop} (hw : KeyWork s u) (hl : loadsOnly s u)
    (hrun : configure s = .ok () ((u.setPconfigRax n).keyFlags failed)) (hQ : Q (u.keyEnd (s.pconfigRax n) failed)) :
    PconfigCompletes s Q := by
  rw [hw.setPconfigRax] at hrun
  exact ⟨_, settle_ok hrun, hl, hw.keyFlagsOnly, fun _ => hw.reg_keyEnd, hQ⟩

/-- The leaves of PCONFIG (R470). -/
def pconfigLeaf (s : State) : Nat → Act Unit
  | 0 => mktmeProgram
  | 1 => tseProgram
  | 2 => tseProgramWrapped
  | _ => throw (gpTrap s)

theorem configure_run (hf : hasPconfig s.cfg = true) (hcpl : s.cpl = 0) (hmode : s.mode ≠ .v86) :
    configure s = pconfigLeaf s (s.reg32 .rax).toNat s := by
  have hok : (hasPconfig s.cfg && s.cpl == 0 && s.mode != .v86) = true := by simp [hf, hcpl, hmode]
  unfold configure
  simp only [Act.bind_run, Act.get_run, hok, need_true]
  rfl

/-- Programming under the lock of the key table (R479). -/
def underLock (p : Act Unit) : Act Unit := do
  if ← tryLock then p else pconfigFailure 5

theorem underLock_run (p : Act Unit) (s : State) :
    underLock p s = if Config.tryLock s.draws then p (s.drawn 1)
      else .ok () (((s.drawn 1).setPconfigRax 5).keyFlags true) := by
  have hlock : tryLock s = .ok (Config.tryLock s.draws) (s.drawn 1) := rfl
  rw [underLock, Act.bind_run, hlock]
  dsimp only
  split <;> rfl

/-! ### Leaves 1 and 2: the TSE table (R475, R477) -/

/-- A slot of the TSE table is written. -/
def programTse (k : Nat) (slot : KeySlot) : Act Unit := do
  modify (·.setTse k slot)
  pconfigSuccess

theorem tseProgram_run (ht : pconfigTarget s.cfg 2 = true) (h64 : s.is64 = true) (ha : (s.reg .rbx).toNat % 256 = 0)
    (hin : accessBytes s .ds (s.reg .rbx) 192 .read false = .ok as) (hok : tseOk s (readBytes s.seen as) = true) :
    tseProgram s =
      underLock (programTse (keyId (readBytes s.seen as)) (tseSlot (readBytes s.seen as))) (s.raoForce as) := by
  have halign : aligned (s.reg .rbx) 256 = true := beq_iff_eq.mpr ha
  unfold tseProgram
  simp only [Act.bind_run, Act.get_run, ht, h64, halign, need_true, memRead_of_access hin, hok]
  rfl

theorem tseProgramWrapped_run (ht : pconfigTarget s.cfg 2 = true) (h64 : s.is64 = true) (hargs : wrappedArgsOk s = true)
    (hin : accessBytes s .ds (s.reg .rcx) 256 .read false = .ok as) (hok : bindOk (readBytes s.seen as) = true) :
    tseProgramWrapped s =
      (if unwrapMac (readBytes s.seen as) = leVal 128 (slice (readBytes s.seen as) 0 16) then
        underLock (programTse (fieldOf (s.reg .rbx) 15 0) (wrappedSlot s (readBytes s.seen as)))
      else pconfigFailure 7) (s.raoForce as) := by
  unfold tseProgramWrapped
  simp only [Act.bind_run, Act.get_run, ht, h64, hargs, Bool.and_self, need_true, memRead_of_access hin, hok]
  rfl

/-- `t` is `s` after the instruction, but for general registers, flags, memory and the TSE table. -/
def KeepsButTse (s t : State) : Prop :=
  t = { s with rip := s.nextRip, gpr := t.gpr, rflags := t.rflags, mem := t.mem, rao := t.rao, monitor := t.monitor,
               draws := t.draws, tse := t.tse }

/-- A completion that leaves the TME-MK table. -/
theorem completes_keepsButTse {n : Nat} {Q : State → Prop} (h64 : s.is64 = true) (hw : KeyWork s u) (hl : loadsOnly s u)
    (hm : u.tmemk = s.tmemk) (hrun : configure s = .ok () ((u.setPconfigRax n).keyFlags failed))
    (hQ : ∀ t, t.reg .rax = BitVec.ofNat 64 n → Claims.zf t = failed → t.tse = u.tse → Q t) :
    PconfigCompletes s fun t => KeepsButTse s t ∧ Q t := by
  have hframe := hw.keyEnd_eq (rax := s.pconfigRax n) (failed := failed)
  rw [hm] at hframe
  refine completes_of_run hw hl hrun ⟨hframe, hQ _ ?_ State.zf_keyEnd rfl⟩
  rw [State.reg_keyEnd, if_pos rfl, State.pconfigRax_of_is64 h64]

/-- With the lock free the slot is programmed, with the lock held the table is left (R479). -/
theorem completes_programTse {k : Nat} {slot : KeySlot} (h64 : s.is64 = true)
    (hrun : configure s = underLock (programTse k slot) (s.raoForce as)) :
    PconfigCompletes s fun t => KeepsButTse s t ∧
      if Config.tryLock s.draws then t.reg .rax = 0 ∧ Claims.zf t = false ∧
        t.tse = Store.put KeySlot.unprogrammed s.tse k slot
      else t.reg .rax = 5 ∧ Claims.zf t = true ∧ t.tse = s.tse := by
  have hwork := KeyWork.raoForce s as
  rw [underLock_run, State.raoForce_draws] at hrun
  split_ifs at hrun ⊢ with hlock
  · refine completes_keepsButTse (u := ((s.raoForce as).drawn 1).setTse k slot) h64 (hwork.trans rfl)
      (s.loadsOnly_raoForce as) (s.raoForce_tmemk as) hrun fun t hr hz ht => ⟨hr, hz, ht.trans ?_⟩
    exact congrArg (Store.put _ · k slot) (s.raoForce_tse as)
  · exact completes_keepsButTse (u := (s.raoForce as).drawn 1) h64 (hwork.trans rfl) (s.loadsOnly_raoForce as)
      (s.raoForce_tmemk as) hrun fun t hr hz ht => ⟨hr, hz, ht.trans (s.raoForce_tse as)⟩

/-! ### Leaf 0: the TME-MK table (R473) -/

theorem mktmeProgram_run (ht : pconfigTarget s.cfg 1 = true) (hready : tmeReady s = true)
    (ha : (s.linear .ds (s.pconfigOff .rbx)).toNat % 256 = 0)
    (hin : accessBytes s .ds (s.pconfigOff .rbx) 192 .read false = .ok as)
    (hok : mktmeOk s (readBytes s.seen as) = true) :
    mktmeProgram s = underLock (mktmeCommand (readBytes s.seen as)) (s.raoForce as) := by
  have halign : aligned (s.linear .ds (s.pconfigOff .rbx)) 256 = true := beq_iff_eq.mpr ha
  unfold mktmeProgram
  simp only [Act.bind_run, Act.get_run, ht, hready, halign, need_true, memRead_of_access hin, hok]
  rfl

/-- What a command has done, and its results: the error and whether it failed. -/
inductive CommandOutcome (t : List Byte) (s : State) : State → Nat → Bool → Prop
  | entropyLacks (n i : Nat) (hc : keyCommand t = 1) (hi : Config.rngOk i = false) :
    CommandOutcome t s (s.drawn n) 2 true
  | programs (n : Nat) (slot : KeySlot) (hslot : Claims.slotProgrammed t slot) :
    CommandOutcome t s ((s.drawn n).setTmemk (keyId t) slot) 0 false

theorem mktmeCommand_outcome (t : List Byte) (s : State) : ∃ u n failed, CommandOutcome t s u n failed ∧
    mktmeCommand t s = .ok () ((u.setPconfigRax n).keyFlags failed) := by
  unfold mktmeCommand
  match hc : keyCommand t with
  | 0 => exact ⟨_, _, _, .programs 0 _ (by rw [Claims.slotProgrammed, hc]; rfl), rfl⟩
  | 1 =>
    simp only [Act.bind_run, rng_run]
    cases hfirst : Config.rngOk s.draws with
    | false => exact ⟨_, _, _, .entropyLacks 1 _ hc hfirst, rfl⟩
    | true =>
      simp only [if_true, Act.bind_run, rng_run, State.drawn_drawn]
      cases hsecond : Config.rngOk (s.drawn 1).draws with
      | false => exact ⟨_, _, _, .entropyLacks 2 _ hc hsecond, rfl⟩
      | true => exact ⟨_, _, _, .programs 2 _ (by rw [Claims.slotProgrammed, hc]; exact ⟨rfl, rfl⟩), rfl⟩
  | 2 => exact ⟨_, _, _, .programs 0 _ (by rw [Claims.slotProgrammed, hc]; rfl), rfl⟩
  | c + 3 => exact ⟨_, _, _, .programs 0 _ (by rw [Claims.slotProgrammed, hc]; rfl), rfl⟩

/-- A command changes nothing but the TME-MK table and the draw counter. -/
theorem CommandOutcome.frame {t : List Byte} {n : Nat} (h : CommandOutcome t s u n failed) :
    KeyWork s u ∧ u.tse = s.tse ∧ ∀ r, loadsOnly r s → loadsOnly r u := by
  cases h with
  | entropyLacks | programs => exact ⟨rfl, rfl, fun _ h => h⟩

/-- `t` is `s` after the instruction, but for general registers, flags, memory and the TME-MK table. -/
def KeepsButTmemk (s t : State) : Prop :=
  t = { s with rip := s.nextRip, gpr := t.gpr, rflags := t.rflags, mem := t.mem, rao := t.rao, monitor := t.monitor,
               draws := t.draws, tmemk := t.tmemk }

/-- A completion that leaves the TSE table. -/
theorem completes_keepsButTmemk {n : Nat} {Q : State → Prop} (hw : KeyWork s u) (hl : loadsOnly s u) (ht : u.tse = s.tse)
    (hrun : configure s = .ok () ((u.setPconfigRax n).keyFlags failed))
    (hQ : ∀ t, t.reg32 .rax = BitVec.ofNat 32 n → Claims.zf t = failed → t.tmemk = u.tmemk → Q t) :
    PconfigCompletes s fun t => KeepsButTmemk s t ∧ Q t := by
  have hframe := hw.keyEnd_eq (rax := s.pconfigRax n) (failed := failed)
  rw [ht] at hframe
  refine completes_of_run hw hl hrun ⟨hframe, hQ _ ?_ State.zf_keyEnd rfl⟩
  rw [State.reg32, State.reg_keyEnd, if_pos rfl, State.setWidth_pconfigRax]

/-- With the lock free the command is run, with the lock held the table is left (R473, R479). -/
theorem completes_mktmeCommand {bs : List Byte} (hrun : configure s = underLock (mktmeCommand bs) (s.raoForce as)) :
    PconfigCompletes s fun t => KeepsButTmemk s t ∧
      if Config.tryLock s.draws then
        (Claims.zf t = true ∧ t.tmemk = s.tmemk ∧ t.reg32 .rax = 2 ∧ keyCommand bs = 1 ∧ ∃ n, Config.rngOk n = false) ∨
        (Claims.zf t = false ∧ t.reg32 .rax = 0 ∧
          (∀ k, k ≠ keyId bs → Store.get KeySlot.unprogrammed t.tmemk k = Store.get KeySlot.unprogrammed s.tmemk k) ∧
          Claims.slotProgrammed bs (Store.get KeySlot.unprogrammed t.tmemk (keyId bs)))
      else Claims.zf t = true ∧ t.tmemk = s.tmemk ∧ t.reg32 .rax = 5 := by
  have hwork : KeyWork s ((s.raoForce as).drawn 1) := (KeyWork.raoForce s as).trans rfl
  have hloads : loadsOnly s ((s.raoForce as).drawn 1) := s.loadsOnly_raoForce as
  have htse : ((s.raoForce as).drawn 1).tse = s.tse := s.raoForce_tse as
  have htmemk : ((s.raoForce as).drawn 1).tmemk = s.tmemk := s.raoForce_tmemk as
  rw [underLock_run, State.raoForce_draws] at hrun
  split_ifs at hrun ⊢ with hlock
  · obtain ⟨u, n, failed, ho, hcommand⟩ := mktmeCommand_outcome bs ((s.raoForce as).drawn 1)
    replace hrun := hrun.trans hcommand
    obtain ⟨hcwork, hctse, hcloads⟩ := ho.frame
    have hdone {Q : State → Prop} := completes_keepsButTmemk (Q := Q) (hwork.trans hcwork) (hcloads s hloads)
      (hctse.trans htse) hrun
    cases ho with
    | entropyLacks n i hc hi =>
      exact hdone fun t hr hz ht => .inl ⟨hz, ht.trans htmemk, hr, hc, i, hi⟩
    | programs n slot hslot =>
      refine hdone fun t hr hz ht => .inr ⟨hz, hr, ?_⟩
      have hget (k : Nat) : Store.get KeySlot.unprogrammed t.tmemk k =
          if k = keyId bs then slot else Store.get KeySlot.unprogrammed s.tmemk k := by
        rw [ht, State.setTmemk_tmemk, Store.get_put, ← htmemk]; rfl
      exact ⟨fun k hk => (hget k).trans (if_neg hk), by rwa [hget, if_pos rfl]⟩
  · exact completes_keepsButTmemk hwork hloads htse hrun fun t hr hz ht => ⟨hz, ht.trans htmemk, hr⟩

end Sys2Proof.Machine

namespace Sys2Proof.Claims

open Sys2Proof.Machine

/-- Settles O31: the outcomes of PBNDKB, a failure before it stores anything, or the store of a bind structure. -/
theorem pbndkbBinds : Obligations.PbndkbBinds := by
  intro s ins outs hf hcpl h64 hroot hb hc hbc hin hcb hout hcc hd hok
  obtain ⟨u, rax, failed, ho, hrun⟩ := bindKey_outcome hf hcpl h64 hroot hb hc hbc hcb hcc hin hout hok
  obtain ⟨htmemk, htse⟩ := ho.tables
  have hframe := ho.keyWork.keyEnd_eq (rax := rax) (failed := failed)
  rw [htmemk, htse] at hframe
  refine ⟨u.keyEnd rax failed, settle_ok hrun, hframe, fun _ => ho.keyWork.reg_keyEnd, ho.keyWork.keyFlagsOnly,
    fun _ => ho.readByte_seen, ?_⟩
  rw [State.zf_keyEnd, State.reg_keyEnd, if_pos rfl]
  cases ho with
  | platformFails w hp => exact .inl ⟨rfl, s.sameMemory_raoForce ins, .inl ⟨w, hp, rfl⟩⟩
  | entropyLacks n i hp hi => exact .inl ⟨rfl, s.sameMemory_raoForce ins, .inr ⟨hp, rfl, i, hi⟩⟩
  | binds n iv plain hp hplain =>
    have hlen : (boundStructure (readBytes s.seen ins) iv plain).length = outs.length :=
      (length_bindOutput ..).trans (accessBytes_length hout).symm
    exact .inr ⟨rfl, rfl, hp, iv, plain, State.readBytes_seen_store _ hd hlen, hplain⟩

/-- Settles O32: leaves 0 to 2 program a table under its lock, leaf 2 where the MAC is right; no other leaf exists. -/
theorem pconfigPrograms : Obligations.PconfigPrograms := by
  have hlong {s : State} (h64 : s.is64 = true) : s.mode ≠ .v86 := by
    rw [beq_iff_eq.mp h64]; nofun
  refine ⟨fun s as hf hcpl h64 ht => ?_, fun s as hf hcpl hmode hrax ht hready ha hin hok => ?_,
    fun s hf hcpl hmode hrax => ?_⟩
  · have hrun := configure_run hf hcpl (hlong h64)
    refine ⟨fun hrax ha hin hok => ?_, fun hrax hargs hin hok => ?_⟩
    · rw [hrax] at hrun
      exact completes_programTse h64 (hrun.trans (tseProgram_run ht h64 ha hin hok))
    · rw [hrax] at hrun
      replace hrun := hrun.trans (tseProgramWrapped_run ht h64 hargs hin hok)
      split_ifs at hrun with hmac
      · simp only [if_pos hmac]
        exact completes_programTse h64 hrun
      · simp only [if_neg hmac]
        exact completes_keepsButTse h64 (KeyWork.raoForce s as) (s.loadsOnly_raoForce as) (s.raoForce_tmemk as) hrun
          fun t hr hz htse => ⟨hr, hz, htse.trans (s.raoForce_tse as)⟩
  · have hrun := configure_run hf hcpl hmode
    rw [hrax] at hrun
    exact completes_mktmeCommand (hrun.trans (mktmeProgram_run ht hready ha hin hok))
  · obtain ⟨leaf, hleaf⟩ : ∃ leaf, (s.reg32 .rax).toNat = leaf + 3 := ⟨_, (Nat.sub_add_cancel hrax).symm⟩
    exact settle_error ((configure_run hf hcpl hmode).trans (by rw [hleaf]; rfl))

end Sys2Proof.Claims

/-! ## Outside privilege level 0 -/

namespace Sys2Proof.Machine

variable {s : State}

section

variable {c c' : State → Bool} {e : Trap} {e' : State → Trap} {k : State → Unit → Act Unit}

/-- An action that begins with two checks goes on where both pass. -/
theorem need_need_run (h : c s = true) (h' : c' s = true) :
    (get >>= fun t => need (c t) e >>= fun _ => need (c' t) (e' t) >>= k t) s = k s () s := by
  simp only [Act.bind_run, Act.get_run, h, h', need_true]

/-- An action that begins with two checks stops at the second where only that fails. -/
theorem settle_need_need (h : c s = true) (h' : c' s = false) :
    settle (get >>= fun t => need (c t) e >>= fun _ => need (c' t) (e' t) >>= k t) s = .next (s.takeTrap (e' s)) := by
  refine settle_error ?_
  simp only [Act.bind_run, Act.get_run, h, h', need_true, need_false]

end

/-- The first check of the immediate forms of RDMSR and WRMSRNS (R502, R503, R521). -/
theorem msrImmOk_of {apx : Bool} (h64 : s.is64 = true) (hi : hasMsrImm s.cfg = true)
    (ha : apx = true → hasApx s.cfg = true) : (s.is64 && hasMsrImm s.cfg && (!apx || hasApx s.cfg)) = true := by
  cases apx with
  | false => simp [h64, hi]
  | true => simp [h64, hi, ha rfl]

end Sys2Proof.Machine

namespace Sys2Proof.Claims

open Sys2Proof.Machine

/-- Settles O20: the privilege check fails, the first check of an instruction or the one after that of its feature. -/
theorem privilegeTraps : Obligations.PrivilegeTraps := by
  intro s hc
  have hcpl : (s.cpl == 0) = false := beq_false_of_ne hc
  have hlast (b : Bool) : (b && s.cpl == 0) = false := by rw [hcpl, Bool.and_false]
  refine ⟨fun h => settle_need_need h (hlast _), fun h => settle_need_need h (hlast _), fun d n h64 hi => ?_,
    settle_need (by rw [hlast, Bool.false_and]), settle_need (by rw [hlast, Bool.false_and]), settle_need (hlast _),
    fun g z => settle_need (hlast _)⟩
  have plain := msrImmOk_of (apx := false) h64 hi nofun
  refine ⟨settle_need_need plain hcpl, settle_need_need plain hcpl, fun ha => ?_⟩
  have apx := msrImmOk_of (apx := true) h64 hi fun _ => ha
  exact ⟨settle_need_need apx hcpl, settle_need_need apx hcpl⟩

end Sys2Proof.Claims

/-! ## RDMSR -/

namespace Sys2Proof.Machine

variable {s u : State}

/-! ### Reads (R500) -/

/-- The machine after a read of MSR `a`: undefined bits take a free value. -/
def State.msrSampled (s : State) (a : Nat) : State := if msrFreeBits s (msrHome a) = 0 then s else s.drawn 1

theorem State.msrSampled_eq (s : State) (a : Nat) :
    s.msrSampled a = { s with draws := (s.msrSampled a).draws } := by
  unfold State.msrSampled; split <;> rfl

theorem msrRead_run (a : Nat) (s : State) :
    msrRead a s = if msrExists s a then .ok (msrValue s a) (s.msrSampled a) else .error (gpTrap s) s := by
  unfold msrRead
  simp only [Act.bind_run, Act.get_run, need_run]
  cases msrExists s a <;> rfl

/-- How every read instruction ends: MSR `a` is read, and general registers take its value. -/
def readInto (a : Nat) (f : Gprs → W64 → Gprs) : Act Unit := do
  let v ← msrRead a
  modify fun t => { t with gpr := f t.gpr v }

/-- The machine after an instruction that ended so. -/
def State.msrReadInto (s : State) (a : Nat) (f : Gprs → W64 → Gprs) : State :=
  { s with rip := s.nextRip, gpr := f s.gpr (msrValue s a), draws := (s.msrSampled a).draws }

theorem settle_of_readInto {x : Act Unit} {a : Nat} {f : Gprs → W64 → Gprs} (h : x s = readInto a f u) :
    (msrExists u a = true → settle x s = .next (u.msrReadInto a f)) ∧
      (msrExists u a = false → settle x s = .next (u.takeTrap (gpTrap u))) := by
  unfold readInto at h
  rw [Act.bind_run, msrRead_run] at h
  refine ⟨fun he => ?_, fun he => ?_⟩
  · rw [if_pos he] at h
    rw [settle_ok h, State.msrSampled_eq]
    rfl
  · rw [he] at h
    exact settle_error h

/-! ### The forms (R501 to R503) -/

/-- The halves of a value in EDX:EAX, zero-extended. -/
def intoEdxEax (r : Gprs) (v : W64) : Gprs :=
  (r.set .rax ((v.setWidth 32).setWidth 64)).set .rdx ((v.extractLsb' 32 32).setWidth 64)

theorem get_intoEdxEax (r : Gprs) (v : W64) (g : Gpr) :
    (intoEdxEax r v).get g = if g = .rdx then (v.extractLsb' 32 32).setWidth 64
      else if g = .rax then (v.setWidth 32).setWidth 64 else r.get g := by
  simp only [intoEdxEax, Gprs.get_set]

theorem readMsrImplicit_run (hm : hasMsr s.cfg = true) (hp : implicitOk s = true) :
    readMsrImplicit s =
      (msrExit s (s.reg32 .rcx).toNat false 0 >>= fun _ => readInto (s.reg32 .rcx).toNat intoEdxEax) s :=
  need_need_run hm hp

theorem readMsrImm_run {apx : Bool} {d : Gpr} {n : W32} (h64 : s.is64 = true) (hi : hasMsrImm s.cfg = true)
    (hc : s.cpl = 0) (ha : apx = true → hasApx s.cfg = true) :
    readMsrImm apx d n s =
      (msrExit s n.toNat false (n.setWidth 64) >>= fun _ => readInto n.toNat (·.set d ·)) s :=
  need_need_run (msrImmOk_of h64 hi ha) (beq_iff_eq.mpr hc)

/-- Without a VM exit an instruction goes on after the check for one. -/
theorem msrExit_bind_run {a : Nat} {w : Bool} {q : W64} {k : Unit → Act Unit} (h : s.msrExits a w = false) :
    (msrExit s a w q >>= k) s = k () s := by
  rw [Act.bind_run, msrExit_run, h]
  rfl

end Sys2Proof.Machine

namespace Sys2Proof.Claims

open Sys2Proof.Machine

/-- Settles O33: past its checks each form ends in the same read. -/
theorem rdmsrReads : Obligations.RdmsrReads := by
  refine ⟨fun s hm hp hx => ?_, fun s d n h64 hi hc hx => ?_⟩
  · obtain ⟨reads, faults⟩ := settle_of_readInto ((readMsrImplicit_run hm hp).trans (msrExit_bind_run hx))
    refine ⟨fun he => ⟨_, reads he, rfl, get_intoEdxEax .., get_intoEdxEax .., fun g ha hd => ?_⟩, faults⟩
    exact (get_intoEdxEax ..).trans ((if_neg hd).trans (if_neg ha))
  · have run (apx : Bool) (ha : apx = true → hasApx s.cfg = true) :=
      settle_of_readInto ((readMsrImm_run (d := d) h64 hi hc ha).trans (msrExit_bind_run hx))
    obtain ⟨reads, faults⟩ := run false nofun
    refine ⟨fun he => ⟨_, reads he, rfl, ?_, fun g hg => ?_, fun ha => (run true fun _ => ha).1 he⟩,
      fun he => ⟨faults he, fun ha => (run true fun _ => ha).2 he⟩⟩
    · exact (Gprs.get_set ..).trans (if_pos rfl)
    · exact (Gprs.get_set ..).trans (if_neg hg)

end Sys2Proof.Claims

/-! ## User access to MSRs -/

namespace Sys2Proof.Machine

variable {s t u : State} {as : List Nat}

/-! ### What the load of the bitmap leaves (R131) -/

section

variable (s) (as) (a : Nat)

theorem State.nextRip_raoForce : (s.raoForce as).nextRip = s.nextRip := by rw [State.raoForce_eq]; rfl

theorem msrExists_raoForce : msrExists (s.raoForce as) a = msrExists s a := by rw [State.raoForce_eq]; rfl

theorem msrValue_raoForce : msrValue (s.raoForce as) a = msrValue s a := by rw [State.raoForce_eq]; rfl

theorem msrWriteOk_raoForce (v : W64) : msrWriteOk (s.raoForce as) a v = msrWriteOk s a v := by
  rw [State.raoForce_eq]; rfl

/-- The MSR bitmaps of a guest are read in memory as this processor sees it. -/
theorem State.userMsrExits_raoForce (write : Bool) : (s.raoForce as).userMsrExits a write = s.userMsrExits a write := by
  have hseen (b : Nat) : readByte (s.raoForce as).seen b = readByte s.seen b := s.sameMemory_raoForce as b
  simp only [State.userMsrExits, State.msrBitmapBit, hseen]
  rw [State.raoForce_eq]
  rfl

end

theorem State.msrWritten_userTimer (s : State) (v : W64) : s.msrWritten 0x1B00 v = s.writeUserTimer v := rfl

theorem State.msrWritten_uarchMiscCtl (s : State) (v : W64) : s.msrWritten 0x1B01 v = s.setMsr 0x1B01 v := rfl

/-- A write to an MSR of Table 2-7 neither reads nor changes memory, its posted updates or the monitor (R511). -/
theorem State.msrWritten_raoForce {a : Nat} (h : a = 0x1B00 ∨ a = 0x1B01) (s : State) (as : List Nat) (v : W64) :
    (s.raoForce as).msrWritten a v =
      { s.msrWritten a v with mem := (s.raoForce as).mem, rao := (s.raoForce as).rao,
                              monitor := (s.raoForce as).monitor } := by
  obtain rfl | rfl := h
  · have hroot : (s.raoForce as).nonRoot = s.nonRoot := congrArg (·.vmx == .nonRoot) (s.raoForce_ctx as)
    rw [State.msrWritten_userTimer, State.msrWritten_userTimer, State.writeUserTimer, State.writeUserTimer, hroot]
    split <;> (rw [State.raoForce_eq]; rfl)
  · rw [State.msrWritten_uarchMiscCtl, State.msrWritten_uarchMiscCtl, State.raoForce_eq]
    rfl

/-! ### The bitmap (R45, R46) -/

theorem gpTrap_of_is64 (h : s.is64 = true) : gpTrap s = .exn .gp (some 0) := by
  have hmode : s.mode = .long := beq_iff_eq.mp h
  rw [gpTrap, hmode]
  rfl

section

variable {write b : Bool} {w : W64}

/-- The linear address of the bitmap's byte for an MSR address. -/
def State.bitmapByte (s : State) (write : Bool) (w : W64) : W64 :=
  (s.msrVal 0x1C &&& 0xFFFFFFFFFFFFF000) + BitVec.ofNat 64 ((if write then 2048 else 0) + w.toNat / 8)

theorem userMsrAllowed_of_large (h : 0x4000 ≤ w.toNat) : userMsrAllowed write w s = .error (gpTrap s) s := by
  have hlarge : decide (w.toNat < 0x4000) = false := decide_eq_false h.not_gt
  unfold userMsrAllowed
  simp only [Act.bind_run, Act.get_run, hlarge, need_false]

/-- The bitmap's byte is inaccessible: the page fault of its load (D25). -/
theorem userMsrAllowed_of_fault {e : Trap} (hw : w.toNat < 0x4000)
    (h : translateBytes s .read true 1 (s.bitmapByte write w) = .error e) : userMsrAllowed write w s = .error e s := by
  unfold State.bitmapByte at h
  unfold userMsrAllowed userMsrBit
  simp only [Act.bind_run, Act.get_run, hw, decide_true, need_true, h, liftE_error]

/-- The bitmap's bit decides, after a load of its byte. -/
theorem userMsrAllowed_of_bit (hw : w.toNat < 0x4000) (h : Claims.bitmapBit s write w.toNat b) :
    ∃ as, userMsrAllowed write w s = need b (gpTrap (s.raoForce as)) (s.raoForce as) := by
  obtain ⟨as, ht, hbit⟩ := h
  refine ⟨as, ?_⟩
  unfold userMsrAllowed userMsrBit
  simp only [Act.bind_run, Act.get_run, Act.pure_run, hw, decide_true, need_true, ht, liftE_ok, loadPhys_run,
    s.readBytes_raoForce, hbit]

end

/-! ### The order of the checks (R505, R507, R510) -/

/-- What URDMSR and UWRMSR share: the conditions, the bitmap, the check `c` of the MSR and its value, the VM exit, and then the
access `k`. -/
def userAccess (write : Bool) (w : W64) (g : Gpr) (c : State → Bool) (k : State → Act Unit) : Act Unit := do
  need (userMsrOk (← get)) udTrap
  userMsrAllowed write w
  let s ← get
  need (c s) (gpTrap s)
  userMsrExit g w.toNat write
  k s

theorem userRead_eq (d : Gpr) (w : W64) :
    userRead d w = userAccess false w d (msrExists · w.toNat) fun _ => readInto w.toNat (·.set d ·) := rfl

/-- The checks of UWRMSR of the MSR and its value: Table 2-7, then the value (R500, R511). -/
def userWriteOk (w : W64) (g : Gpr) (s : State) : Bool := userWritable w.toNat && msrWriteOk s w.toNat (s.reg g)

theorem userWriteOk_iff {w : W64} {g : Gpr} : userWriteOk w g s = true ↔
    (w.toNat = 0x1B00 ∨ w.toNat = 0x1B01) ∧ msrWriteOk s w.toNat (s.reg g) = true := by
  simp only [userWriteOk, userWritable, Bool.and_eq_true, Bool.or_eq_true, beq_iff_eq]

theorem State.reg_raoForce (s : State) (as : List Nat) (g : Gpr) : (s.raoForce as).reg g = s.reg g :=
  congrArg (Gprs.get · g) (s.raoForce_gpr as)

theorem userWriteOk_raoForce (s : State) (w : W64) (g : Gpr) (as : List Nat) :
    userWriteOk w g (s.raoForce as) = userWriteOk w g s := by
  rw [userWriteOk, userWriteOk, msrWriteOk_raoForce, State.reg_raoForce]

theorem userWrite_eq (g : Gpr) (w : W64) :
    userWrite w g = userAccess true w g (userWriteOk w g) fun s => msrWrite w.toNat (s.reg g) := by
  have hneed (b c : Bool) (e : Trap) (k : Act Unit) :
      (need b e >>= fun _ => need c e >>= fun _ => k) = need (b && c) e >>= fun _ => k := by
    cases b <;> rfl
  unfold userWrite userAccess
  simp only [hneed, userWriteOk]

/-- URDMSR and UWRMSR of the same MSR, both register forms or both immediate forms, with the address `w` that they name. -/
def UserForms (s : State) (d : Gpr) (i j : Instr) (w : W64) : Prop :=
  (∃ a, i = .urdmsr d a ∧ j = .uwrmsr a d ∧ w = s.reg a) ∨
    (∃ n : W32, i = .urdmsrImm d n ∧ j = .uwrmsrImm n d ∧ w = n.setWidth 64)

theorem UserForms.exec_eq {d : Gpr} {i j : Instr} {w : W64} (h : UserForms s d i j w) :
    exec i s = settle (userRead d w) s ∧ exec j s = settle (userWrite w d) s := by
  obtain ⟨a, rfl, rfl, rfl⟩ | ⟨n, rfl, rfl, rfl⟩ := h <;> exact ⟨rfl, rfl⟩

section

variable {write : Bool} {w : W64} {g : Gpr} {c : State → Bool} {k : State → Act Unit}

theorem settle_userAccess_of_not_allowed {e : Trap} (hok : userMsrOk s = true)
    (h : userMsrAllowed write w s = .error e u) : settle (userAccess write w g c k) s = .next (u.takeTrap e) := by
  refine settle_error ?_
  unfold userAccess
  simp only [Act.bind_run, Act.get_run, hok, need_true, h]

/-- The bitmap allows the access: the check of the MSR comes next, in the state after the bitmap's load. -/
theorem userAccess_of_bit (hok : userMsrOk s = true) (hw : w.toNat < 0x4000)
    (hb : Claims.bitmapBit s write w.toNat true) :
    ∃ as, userAccess write w g c k s = (need (c (s.raoForce as)) (gpTrap (s.raoForce as)) >>= fun _ =>
      userMsrExit g w.toNat write >>= fun _ => k (s.raoForce as)) (s.raoForce as) := by
  obtain ⟨as, hallowed⟩ := userMsrAllowed_of_bit hw hb
  refine ⟨as, ?_⟩
  unfold userAccess
  simp only [Act.bind_run, Act.get_run, hok, need_true, hallowed]

/-- `t` is `s` with #GP(0) taken after loads. -/
def GpAfterLoad (s t : State) : Prop :=
  t.delivered = some (.exception 13 (some 0) s.rip) ∧ t.gpr = s.gpr ∧ sameMemory s t ∧ t.msr = s.msr

theorem gpAfterLoad_raoForce (hok : userMsrOk s = true) (as : List Nat) :
    GpAfterLoad s ((s.raoForce as).takeTrap (gpTrap (s.raoForce as))) := by
  have h64 : (s.raoForce as).is64 = true := by
    simp only [userMsrOk, Bool.and_eq_true] at hok
    obtain ⟨⟨h64, -⟩, -⟩ := hok
    rw [State.raoForce_eq]
    exact h64
  rw [gpTrap_of_is64 h64, State.takeTrap_exn]
  exact ⟨by rw [State.raoForce_rip]; rfl, s.raoForce_gpr as, s.sameMemory_raoForce as, s.raoForce_msr as⟩

section

variable (hok : userMsrOk s = true) (hw : w.toNat < 0x4000) (hc : ∀ as, c (s.raoForce as) = c s)
include hok hw hc

/-- The bitmap or the check of the MSR forbids the access. -/
theorem settle_userAccess_of_forbidden (h : Claims.bitmapBit s write w.toNat false ∨
      (Claims.bitmapBit s write w.toNat true ∧ c s = false)) :
    ∃ t, settle (userAccess write w g c k) s = .next t ∧ GpAfterLoad s t := by
  obtain hb | ⟨hb, hcs⟩ := h
  · obtain ⟨as, hallowed⟩ := userMsrAllowed_of_bit hw hb
    exact ⟨_, settle_userAccess_of_not_allowed hok hallowed, gpAfterLoad_raoForce hok as⟩
  · obtain ⟨as, hrun⟩ := userAccess_of_bit (g := g) (c := c) (k := k) hok hw hb
    rw [hc, hcs] at hrun
    exact ⟨_, settle_error hrun, gpAfterLoad_raoForce hok as⟩

variable (hb : Claims.bitmapBit s write w.toNat true) (hcs : c s = true)
include hb hcs

/-- Bitmap and MSR allow the access: the VM exit is decided next. -/
theorem userAccess_of_permitted : ∃ as, userAccess write w g c k s =
    (userMsrExit g w.toNat write >>= fun _ => k (s.raoForce as)) (s.raoForce as) := by
  obtain ⟨as, hrun⟩ := userAccess_of_bit (g := g) (c := c) (k := k) hok hw hb
  rw [hc, hcs] at hrun
  exact ⟨as, hrun⟩

/-- Nothing stops the access. -/
theorem userAccess_of_no_exit (hx : s.userMsrExits w.toNat write = false) :
    ∃ as, userAccess write w g c k s = k (s.raoForce as) (s.raoForce as) := by
  obtain ⟨as, hrun⟩ := userAccess_of_permitted (g := g) (k := k) hok hw hc hb hcs
  refine ⟨as, hrun.trans ?_⟩
  unfold userMsrExit
  simp only [Act.bind_run, Act.get_run, s.userMsrExits_raoForce, hx, Bool.false_eq_true, if_false, Act.pure_run]

end

end

/-! ### The access -/

theorem UserForms.register {d g : Gpr} {w : W64} (hg : s.reg g = w) :
    UserForms s d (.urdmsr d g) (.uwrmsr g d) w := .inl ⟨g, rfl, rfl, hg.symm⟩

theorem UserForms.immediate {d : Gpr} {a : Nat} (ha : a < 0x4000) :
    UserForms s d (.urdmsrImm d (BitVec.ofNat 32 a)) (.uwrmsrImm (BitVec.ofNat 32 a) d) (BitVec.ofNat 64 a) := by
  refine .inr ⟨_, rfl, rfl, BitVec.eq_of_toNat_eq ?_⟩
  rw [BitVec.toNat_setWidth, BitVec.toNat_ofNat, BitVec.toNat_ofNat]
  omega

theorem toNat_ofNat_of_user {a : Nat} (ha : a < 0x4000) : (BitVec.ofNat 64 a).toNat = a := by
  rw [BitVec.toNat_ofNat]
  omega

/-- `t` is `s` after URDMSR of MSR `a` into `d`: besides what the load of the bitmap did, the destination alone changed. -/
def UserReads (s t : State) (d : Gpr) (a : Nat) : Prop :=
  loadsOnly s t ∧
    t = { s with rip := s.nextRip, gpr := t.gpr, mem := t.mem, rao := t.rao, monitor := t.monitor, draws := t.draws } ∧
    t.reg d = msrValue s a ∧ ∀ q, q ≠ d → t.reg q = s.reg q

theorem userReads_raoForce (s : State) (as : List Nat) (d : Gpr) (a : Nat) :
    UserReads s ((s.raoForce as).msrReadInto a (·.set d ·)) d a := by
  refine ⟨s.loadsOnly_raoForce as, ?_, ?_, fun q hq => ?_⟩
  · rw [State.raoForce_eq]; rfl
  · exact ((Gprs.get_set ..).trans (if_pos rfl)).trans (msrValue_raoForce s as a)
  · exact ((Gprs.get_set ..).trans (if_neg hq)).trans (congrArg (Gprs.get · q) (s.raoForce_gpr as))

theorem userRead_completes {d : Gpr} {w : W64} (hok : userMsrOk s = true) (hw : w.toNat < 0x4000)
    (hb : Claims.bitmapBit s false w.toNat true) (he : msrExists s w.toNat = true)
    (hx : s.userMsrExits w.toNat false = false) :
    ∃ t, settle (userRead d w) s = .next t ∧ UserReads s t d w.toNat := by
  obtain ⟨as, hrun⟩ := userAccess_of_no_exit (g := d) (c := (msrExists · w.toNat))
    (k := fun _ => readInto w.toNat (·.set d ·)) hok hw (fun as => msrExists_raoForce s as w.toNat) hb he hx
  rw [userRead_eq]
  exact ⟨_, (settle_of_readInto hrun).1 ((msrExists_raoForce ..).trans he), userReads_raoForce s as d _⟩

/-- `t` is `s` after UWRMSR of `v` to MSR `a`: the MSR is written, and the bitmap was loaded. -/
def UserWrites (s t : State) (a : Nat) (v : W64) : Prop :=
  loadsOnly s t ∧ t = { s.msrWritten a v with rip := s.nextRip, mem := t.mem, rao := t.rao, monitor := t.monitor }

theorem userWrite_completes {g : Gpr} {w : W64} (hok : userMsrOk s = true) (ha : w.toNat = 0x1B00 ∨ w.toNat = 0x1B01)
    (hb : Claims.bitmapBit s true w.toNat true) (hv : msrWriteOk s w.toNat (s.reg g) = true)
    (hx : s.userMsrExits w.toNat true = false) :
    ∃ t, settle (userWrite w g) s = .next t ∧ UserWrites s t w.toNat (s.reg g) := by
  obtain ⟨as, hrun⟩ := userAccess_of_no_exit (g := g) (k := fun s => msrWrite w.toNat (s.reg g)) hok (by omega)
    (userWriteOk_raoForce s w g) hb (userWriteOk_iff.mpr ⟨ha, hv⟩) hx
  rw [msrWrite_run, msrWriteOk_raoForce, State.reg_raoForce, if_pos hv] at hrun
  rw [userWrite_eq]
  refine ⟨_, settle_ok hrun, ?_⟩
  rw [State.advance_msrWritten, State.nextRip_raoForce, State.msrWritten_raoForce ha]
  exact ⟨s.loadsOnly_raoForce as, rfl⟩

end Sys2Proof.Machine

namespace Sys2Proof.Claims

open Sys2Proof.Machine

/-- Settles O35: the register and the immediate form name the same address, and both complete. -/
theorem userMsrAccess : Obligations.UserMsrAccess := by
  refine ⟨fun s d a hok ha hb he hx => ?_, fun s v a hok ha hb hv hx => ?_⟩
  · have immediate := UserForms.immediate (s := s) (d := d) ha
    obtain ⟨w, hw, rfl⟩ : ∃ w : W64, BitVec.ofNat 64 a = w ∧ w.toNat = a := ⟨_, rfl, toNat_ofNat_of_user ha⟩
    rw [hw] at immediate ⊢
    obtain ⟨t, ht, hreads⟩ := userRead_completes (d := d) hok ha hb he hx
    exact ⟨fun g hg => ⟨t, (UserForms.register hg).exec_eq.1.trans ht, hreads⟩, t, immediate.exec_eq.1.trans ht, hreads⟩
  · have hlt : a < 0x4000 := by omega
    have immediate := UserForms.immediate (s := s) (d := v) hlt
    obtain ⟨w, hw, rfl⟩ : ∃ w : W64, BitVec.ofNat 64 a = w ∧ w.toNat = a := ⟨_, rfl, toNat_ofNat_of_user hlt⟩
    rw [hw] at immediate ⊢
    obtain ⟨t, ht, hwrites⟩ := userWrite_completes hok ha hb hv hx
    exact ⟨fun g hg => ⟨t, (UserForms.register hg).exec_eq.2.trans ht, hwrites⟩, t, immediate.exec_eq.2.trans ht, hwrites⟩

/-- Settles O36: the checks in their order, each for the register and the immediate form at once. -/
theorem userMsrTraps : Obligations.UserMsrTraps := by
  intro s d i j w hforms
  obtain ⟨hi, hj⟩ := UserForms.exec_eq hforms
  rw [userRead_eq] at hi
  rw [userWrite_eq] at hj
  rw [hi, hj]
  refine ⟨fun hok => ⟨settle_need hok, settle_need hok⟩, fun hok hw => ?_, fun hok hw => ?_⟩
  · have stops {write : Bool} {c : State → Bool} {k : State → Act Unit} :
        settle (userAccess write w d c k) s = .next (s.takeTrap (gpTrap s)) :=
      settle_userAccess_of_not_allowed hok (userMsrAllowed_of_large hw)
    exact ⟨stops, stops⟩
  · refine ⟨fun e he => settle_userAccess_of_not_allowed hok (userMsrAllowed_of_fault hw he),
      fun e he => settle_userAccess_of_not_allowed hok (userMsrAllowed_of_fault hw he), fun h => ?_, fun h => ?_⟩
    · obtain ⟨t, ht, hdel, hgpr, hmem, -⟩ := settle_userAccess_of_forbidden (c := (msrExists · w.toNat)) hok hw
        (fun as => msrExists_raoForce s as w.toNat) h
      exact ⟨t, ht, hdel, hgpr, hmem⟩
    · refine settle_userAccess_of_forbidden hok hw (userWriteOk_raoForce s w d) (h.imp_right fun h => ?_)
      obtain ⟨hb, hn0, hn1⟩ | ⟨hb, hv⟩ := h
      · exact ⟨hb, Bool.eq_false_iff.mpr fun ht => (userWriteOk_iff.mp ht).1.elim hn0 hn1⟩
      · exact ⟨hb, Bool.eq_false_iff.mpr fun ht => Bool.eq_false_iff.mp hv (userWriteOk_iff.mp ht).2⟩

end Sys2Proof.Claims

/-! ## VM exits of the MSR instructions -/

namespace Sys2Proof.Machine

variable {s t u : State} {as : List Nat}

/-! ### The state after an exit (R507, R860) -/

/-- The exit of an MSR instruction, taken as an instruction takes its traps. -/
def State.msrExitTaken (s : State) (reason : W32) (a : Nat) (info : W32) : State :=
  (s.drawn 1).takeTrap (.exit reason (BitVec.ofNat 64 a) info)

theorem State.vmcs_msrExitTaken (s : State) (reason : W32) (a : Nat) (info : W32) :
    let v := (s.msrExitTaken reason a info).vmcs
    v.exitReason = reason ∧ v.exitQualification = BitVec.ofNat 64 a ∧ v.exitLength = BitVec.ofNat 32 s.ilen ∧
      v.exitInfo = info := by
  unfold State.msrExitTaken State.takeTrap State.vmExit
  dsimp only
  split <;> exact ⟨rfl, rfl, rfl, rfl⟩

theorem msrExited_msrExitTaken (s : State) (reason : W32) (a : Nat) (info : W32) :
    Claims.msrExited s (s.msrExitTaken reason a info) reason a := by
  obtain ⟨hreason, hqual, hlength, -⟩ := s.vmcs_msrExitTaken reason a info
  exact ⟨rfl, rfl, hreason, hqual, hlength, rfl, rfl, rfl, rfl, rfl, fun _ => rfl⟩

/-- An exit after the load of the user bitmap is one of the instruction. -/
theorem msrExited_of_raoForce {reason : W32} {a : Nat} (h : Claims.msrExited (s.raoForce as) t reason a) :
    Claims.msrExited s t reason a := by
  simp only [Claims.msrExited, State.raoForce_rip, State.raoForce_ilen, State.raoForce_gpr, State.raoForce_rflags,
    State.raoForce_msr, State.raoForce_sys] at h ⊢
  obtain ⟨hdel, hroot, hreason, hqual, hlength, hgpr, hflags, hrip, hmsr, hsys, hmem⟩ := h
  exact ⟨hdel, hroot, hreason, hqual, hlength, hgpr, hflags, hrip, hmsr, hsys,
    fun b => (hmem b).trans (s.sameMemory_raoForce as b)⟩

/-- Bits 6:3 of the instruction information name the data register (Table 2-6). -/
theorem fieldOf_userExitInfo (g : Gpr) (draw : Nat) : fieldOf (userExitInfo g draw) 6 3 = g.code := by
  have hfree : (Config.exitInfoBits draw &&& 0xFFFFFF87).extractLsb 6 3 = 0 := by
    rw [BitVec.extractLsb_and]
    exact BitVec.and_zero
  have hcode : (BitVec.ofNat 32 (g.code * 8)).extractLsb 6 3 = BitVec.ofNat 4 g.code := by cases g <;> rfl
  unfold fieldOf userExitInfo
  rw [BitVec.extractLsb_or, hfree, hcode]
  cases g <;> rfl

/-! ### URDMSR and UWRMSR (R507) -/

theorem State.userMsrExits_iff {a : Nat} {write : Bool} : s.userMsrExits a write = true ↔ s.nonRoot = true ∧
    (s.vmcs.useMsrBitmaps = false ∨ 0x1FFF < a ∨ s.msrBitmapBit (if write then 2048 else 0) a = true) := by
  simp only [State.userMsrExits, Bool.and_eq_true, Bool.or_eq_true, Bool.not_eq_true', decide_eq_true_eq, or_assoc]

section

variable {write : Bool} {w : W64} {g : Gpr} {c : State → Bool} {k : State → Act Unit} (hok : userMsrOk s = true)
  (hw : w.toNat < 0x4000) (hc : ∀ as, c (s.raoForce as) = c s) (hb : Claims.bitmapBit s write w.toNat true)
  (hcs : c s = true) (hx : s.userMsrExits w.toNat write = true)
include hok hw hc hb hcs hx

/-- Outside an enclave the access exits with the address and the data register. -/
theorem settle_userAccess_of_exit (he : s.ctx.enclave = .none) :
    ∃ t, settle (userAccess write w g c k) s = .next t ∧
      Claims.msrExited s t (if write then 81 else 80) w.toNat ∧ fieldOf t.vmcs.exitInfo 6 3 = g.code := by
  obtain ⟨as, hrun⟩ := userAccess_of_permitted (g := g) (k := k) hok hw hc hb hcs
  unfold userMsrExit at hrun
  simp only [Act.bind_run, Act.get_run, s.userMsrExits_raoForce, hx, s.raoForce_ctx, he, if_true, Act.set_run,
    Act.throw_run] at hrun
  refine ⟨_, settle_error hrun, msrExited_of_raoForce (msrExited_msrExitTaken ..), ?_⟩
  obtain ⟨-, -, -, hinfo⟩ := (s.raoForce as).vmcs_msrExitTaken (if write then 81 else 80) w.toNat
    (userExitInfo g (s.raoForce as).draws)
  exact (congrArg (fieldOf · 6 3) hinfo).trans (fieldOf_userExitInfo g _)

/-- In an enclave it is #GP(0). -/
theorem settle_userAccess_of_enclave (he : s.ctx.enclave ≠ .none) :
    ∃ t, settle (userAccess write w g c k) s = .next t ∧ GpAfterLoad s t := by
  obtain ⟨as, hrun⟩ := userAccess_of_permitted (g := g) (k := k) hok hw hc hb hcs
  unfold userMsrExit at hrun
  simp only [Act.bind_run, Act.get_run, s.userMsrExits_raoForce, hx, s.raoForce_ctx, he, if_true, if_false,
    Act.throw_run] at hrun
  exact ⟨_, settle_error hrun, gpAfterLoad_raoForce hok as⟩

end

/-! ### RDMSR and WRMSRNS (R501, R520) -/

theorem State.msrExits_of_exitsByBitmap {a : Nat} {write : Bool} (hn : s.nonRoot = true)
    (h : Claims.exitsByBitmap s a (if write then 2048 else 0) (if write then 3072 else 1024)) :
    s.msrExits a write = true := by
  rw [State.msrExits, hn, Bool.true_and, Bool.or_eq_true, Bool.not_eq_true']
  refine or_iff_not_imp_left.mpr fun hbitmaps => ?_
  obtain h | ⟨hlo, hhi⟩ | h | ⟨hle, hbit⟩ | ⟨hlo, hhi, hbit⟩ := h
  · exact absurd h hbitmaps
  · rw [if_neg (by omega), if_neg (by omega)]
  · rw [if_neg (by omega), if_neg (by omega)]
  · rw [if_pos hle]; exact hbit
  · rw [if_neg (by omega), if_pos ⟨hlo, hhi⟩]; exact hbit

theorem implicitOk_iff : implicitOk s = true ↔ s.mode ≠ .v86 ∧ s.cpl = 0 := by
  simp only [implicitOk, Bool.and_eq_true, bne_iff_ne, beq_iff_eq]

/-- An instruction that comes to the exit check of MSR `n` and exits there. -/
theorem settle_of_msrExit {x : Act Unit} {n a : Nat} {write : Bool} {k : Unit → Act Unit}
    (h : x s = (msrExit s n write (BitVec.ofNat 64 a) >>= k) s) (hx : s.msrExits n write = true) :
    settle x s = .next (s.msrExitTaken (if write then 32 else 31) a (Config.exitInfoBits s.draws)) := by
  rw [Act.bind_run, msrExit_run, if_pos hx] at h
  exact settle_error h

theorem writeMsrImplicit_run (hm : hasWrmsrns s.cfg = true) (hp : implicitOk s = true) :
    writeMsrImplicit s =
      (msrExit s (s.reg32 .rcx).toNat true 0 >>= fun _ => msrWrite (s.reg32 .rcx).toNat s.edxEax) s :=
  need_need_run hm hp

theorem writeMsrImm_run {apx : Bool} {d : Gpr} {n : W32} (h64 : s.is64 = true) (hi : hasMsrImm s.cfg = true)
    (hc : s.cpl = 0) (ha : apx = true → hasApx s.cfg = true) :
    writeMsrImm apx n d s =
      (msrExit s n.toNat true (n.setWidth 64) >>= fun _ => msrWrite n.toNat (s.reg d)) s :=
  need_need_run (msrImmOk_of h64 hi ha) (beq_iff_eq.mpr hc)

/-- The immediate forms exit alike, with the immediate as the qualification. -/
theorem msrImm_exits {x : Bool → Act Unit} {n : W32} {write : Bool} {k : Unit → Act Unit}
    (h : ∀ apx, (apx = true → hasApx s.cfg = true) →
      x apx s = (msrExit s n.toNat write (n.setWidth 64) >>= k) s) (hx : s.msrExits n.toNat write = true) :
    ∃ t, settle (x false) s = .next t ∧ Claims.msrExited s t (if write then 32 else 31) n.toNat ∧
      (hasApx s.cfg = true → settle (x true) s = .next t) := by
  simp only [← BitVec.ofNat_toNat] at h
  exact ⟨_, settle_of_msrExit (h false nofun) hx, msrExited_msrExitTaken .., fun ha =>
    settle_of_msrExit (h true fun _ => ha) hx⟩

end Sys2Proof.Machine

namespace Sys2Proof.Claims

open Sys2Proof.Machine

/-- The first clause of O37. -/
theorem userMsr_exits {s : State} {d : Gpr} {i j : Instr} {w : W64} (hforms : UserForms s d i j w)
    (hw : w.toNat < 0x4000) (hok : userMsrOk s = true) (hn : s.nonRoot = true) :
    (bitmapBit s false w.toNat true → msrExists s w.toNat = true →
      (s.vmcs.useMsrBitmaps = false ∨ 0x1FFF < w.toNat ∨ s.msrBitmapBit 0 w.toNat = true) →
      (s.ctx.enclave = .none → ∃ t, exec i s = .next t ∧ msrExited s t 80 w.toNat ∧
        fieldOf t.vmcs.exitInfo 6 3 = d.code) ∧
      (s.ctx.enclave ≠ .none → ∃ t, exec i s = .next t ∧ GpAfterLoad s t)) ∧
    (bitmapBit s true w.toNat true → (w.toNat = 0x1B00 ∨ w.toNat = 0x1B01) → msrWriteOk s w.toNat (s.reg d) = true →
      (s.vmcs.useMsrBitmaps = false ∨ s.msrBitmapBit 2048 w.toNat = true) →
      (s.ctx.enclave = .none → ∃ t, exec j s = .next t ∧ msrExited s t 81 w.toNat ∧
        fieldOf t.vmcs.exitInfo 6 3 = d.code) ∧
      (s.ctx.enclave ≠ .none → ∃ t, exec j s = .next t ∧ GpAfterLoad s t)) := by
  obtain ⟨hi, hj⟩ := hforms.exec_eq
  rw [hi, hj, userRead_eq, userWrite_eq]
  refine ⟨fun hb he hx => ?_, fun hb ha hv hx => ?_⟩
  · have hc (as : List Nat) := msrExists_raoForce s as w.toNat
    have hexits : s.userMsrExits w.toNat false = true := State.userMsrExits_iff.mpr ⟨hn, hx⟩
    exact ⟨settle_userAccess_of_exit (c := (msrExists · w.toNat)) hok hw hc hb he hexits,
      settle_userAccess_of_enclave (c := (msrExists · w.toNat)) hok hw hc hb he hexits⟩
  · have hc := userWriteOk_raoForce s w d
    have hpermitted := userWriteOk_iff.mpr ⟨ha, hv⟩
    have hexits : s.userMsrExits w.toNat true = true := State.userMsrExits_iff.mpr ⟨hn, hx.imp_right .inr⟩
    exact ⟨settle_userAccess_of_exit hok hw hc hb hpermitted hexits,
      settle_userAccess_of_enclave hok hw hc hb hpermitted hexits⟩

/-- Settles O37: URDMSR and UWRMSR exit after the load of the user bitmap, RDMSR and WRMSRNS after their first two
checks. -/
theorem msrExits : Obligations.MsrExits := by
  refine ⟨fun s d i j w a hforms hwa ha hok hn => ?_, fun s a hn hcpl hmode => ⟨fun hx => ?_, fun hx => ?_⟩⟩
  · obtain rfl : w.toNat = a := by rw [hwa, toNat_ofNat_of_user ha]
    obtain ⟨reads, writes⟩ := userMsr_exits hforms ha hok hn
    refine ⟨fun hb he hx => (reads hb he hx).imp_right fun gp henclave => ?_,
      fun hb ht hv hx => (writes hb ht hv hx).imp_right fun gp henclave => ?_⟩
    · obtain ⟨t, ht, hdel, hgpr, -, -⟩ := gp henclave
      exact ⟨t, ht, hdel, hgpr⟩
    · obtain ⟨t, ht, hdel, -, -, hmsr⟩ := gp henclave
      exact ⟨t, ht, hdel, hmsr⟩
  · have hexits : s.msrExits a false = true := State.msrExits_of_exitsByBitmap hn hx
    refine ⟨fun hrcx hm => ?_, fun d n hna h64 hi => ?_⟩
    · rw [← hrcx] at hexits
      exact ⟨_, settle_of_msrExit (a := 0) (readMsrImplicit_run hm (implicitOk_iff.mpr ⟨hmode, hcpl⟩)) hexits,
        msrExited_msrExitTaken ..⟩
    · subst hna
      exact msrImm_exits (fun _ => readMsrImm_run h64 hi hcpl) hexits
  · have hexits : s.msrExits a true = true := State.msrExits_of_exitsByBitmap hn hx
    refine ⟨fun hrcx hm => ?_, fun d n hna h64 hi => ?_⟩
    · rw [← hrcx] at hexits
      exact ⟨_, settle_of_msrExit (a := 0) (writeMsrImplicit_run hm (implicitOk_iff.mpr ⟨hmode, hcpl⟩)) hexits,
        msrExited_msrExitTaken ..⟩
    · subst hna
      exact msrImm_exits (fun _ => writeMsrImm_run h64 hi hcpl) hexits

end Sys2Proof.Claims

/-! ## SM4 -/

namespace Sys2Proof.Machine

variable {s : State}

/-! ### Vectors of dwords -/

/-- A vector of dwords is a vector of elements of 32 bits. -/
theorem ofDwords_eq_ofElems (n : Nat) (f : Nat → W32) : ofDwords n f = ofElems n 32 fun j => (f j).setWidth 64 := by
  simp only [ofDwords, ofElems, BitVec.setWidth_setWidth_of_le _ (show 32 ≤ 64 by decide), BitVec.setWidth_eq]

theorem dwordAt_ofDwords {n j : Nat} (f : Nat → W32) (hj : j < n) (hn : n ≤ 16) : dwordAt (ofDwords n f) j = f j := by
  have hfits : 32 * n ≤ 512 := Nat.mul_le_mul_left 32 hn
  rw [ofDwords_eq_ofElems, dwordAt, extractLsb'_ofElems _ hj hfits,
    BitVec.setWidth_setWidth_of_le _ (by decide), BitVec.setWidth_eq]

theorem ofDwords_ushiftRight (n : Nat) (f : Nat → W32) : ofDwords n f >>> (32 * n) = 0 := by
  rw [ofDwords_eq_ofElems]
  exact ofElems_ushiftRight _ (by decide)

/-! ### The four rounds of a lane (R542 to R544) -/

/-- The rounds of a lane continue its words by their recurrence: `y` holds the four words and then the four results. -/
theorem eq_sm4Round_iff {l : W32 → W32} {p c y : Nat → W32} (hp : ∀ j < 4, p j = y j) :
    (∀ j < 4, y (j + 4) = sm4Round l p c j) ↔
      ∀ j < 4, y (j + 4) = sm4F l (y j) (y (j + 1)) (y (j + 2)) (y (j + 3)) (c j) := by
  have h0 : p 0 = y 0 := hp 0 (by decide)
  have h1 : p 1 = y 1 := hp 1 (by decide)
  have h2 : p 2 = y 2 := hp 2 (by decide)
  have h3 : p 3 = y 3 := hp 3 (by decide)
  simp only [Nat.forall_lt_succ_right, Nat.not_lt_zero, IsEmpty.forall_iff, implies_true, true_and, sm4Round, h0, h1, h2,
    h3, Nat.reduceAdd]
  constructor
  · rintro ⟨⟨⟨e0, e1⟩, e2⟩, e3⟩
    rw [← e0] at e1 e2 e3
    rw [← e1] at e2 e3
    rw [← e2] at e3
    exact ⟨⟨⟨e0, e1⟩, e2⟩, e3⟩
  · rintro ⟨⟨⟨e0, e1⟩, e2⟩, e3⟩
    rw [← e0, ← e1, ← e2]
    exact ⟨⟨⟨rfl, rfl⟩, rfl⟩, e3⟩

/-- Lane `i` of the result is the four rounds of lane `i` of the sources. -/
theorem dwordAt_sm4Lanes {vl i j : Nat} (l : W32 → W32) (v w : W512) (hvl : vl ≤ 512) (hi : i < vl / 128) (hj : j < 4) :
    dwordAt (sm4Lanes l vl v w) (4 * i + j) =
      sm4Round l (fun q => dwordAt v (4 * i + q)) (fun q => dwordAt w (4 * i + q)) j := by
  have hlane : (4 * i + j) / 4 = i := by omega
  have hplace : (4 * i + j) % 4 = j := by omega
  rw [sm4Lanes, dwordAt_ofDwords _ (by omega) (by omega), hlane, hplace]

theorem sm4Lanes_ushiftRight {vl : Nat} (l : W32 → W32) (v w : W512) (hvl : 32 * (vl / 32) = vl) :
    sm4Lanes l vl v w >>> vl = 0 :=
  (congrArg (sm4Lanes l vl v w >>> ·) hvl.symm).trans (ofDwords_ushiftRight _ _)

/-! ### The instructions (R543 to R546) -/

/-- The #UD conditions of an SM4 row (R546): class E6 for the EVEX rows, class 6 for the others. -/
def sm4Ok (vl : Nat) (evex : Bool) (s : State) : Bool := if evex then sm4EvexOk s vl else sm4VexOk s

theorem exec_sm4 : ∀ f ∈ Claims.sm4Forms, ∀ d a b s,
    exec (f.2.2.2 d a b) s = settle (sm4 (sm4Ok f.1 f.2.1) f.2.2.1 f.1 d a b) s := by
  simp only [Claims.sm4Forms, List.forall_mem_cons, List.not_mem_nil, false_imp_iff, implies_true, and_true]
  and_intros
  all_goals exact fun _ _ _ _ => rfl

/-- Every row has lanes that fill its vector. -/
theorem sm4Forms_sizes : ∀ f ∈ Claims.sm4Forms, f.1 ≤ 512 ∧ 32 * (f.1 / 32) = f.1 := by
  simp only [Claims.sm4Forms, List.forall_mem_cons, List.not_mem_nil, false_imp_iff, implies_true, and_true]
  decide

theorem sm4VexOk_iff : sm4VexOk s = true ↔
    s.mode ≠ .real ∧ s.mode ≠ .v86 ∧ bitAt s.sys.cr4 18 = true ∧ s.sys.xcr0 &&& 6 = 6 ∧ hasAvx s.cfg = true ∧
      hasSm4 s.cfg = true := by
  simp [sm4VexOk, and_assoc]

theorem sm4EvexOk_iff {vl : Nat} : sm4EvexOk s vl = true ↔
    s.mode ≠ .real ∧ s.mode ≠ .v86 ∧ bitAt s.sys.cr4 18 = true ∧ s.sys.xcr0 &&& 0xE6 = 0xE6 ∧ hasAvx102 s.cfg = true ∧
      vlSupported s.cfg vl = true ∧ hasSm4 s.cfg = true := by
  simp [sm4EvexOk, evexEnabled, and_assoc]

theorem sm4Ok_eq_false {vl : Nat} {evex : Bool} (h : s.mode = .real ∨ s.mode = .v86 ∨ bitAt s.sys.cr4 18 = false ∨
    hasSm4 s.cfg = false ∨ (evex = false ∧ (s.sys.xcr0 &&& 6 ≠ 6 ∨ hasAvx s.cfg = false)) ∨
    (evex = true ∧ (s.sys.xcr0 &&& 0xE6 ≠ 0xE6 ∨ hasAvx102 s.cfg = false ∨ vlSupported s.cfg vl = false))) :
    sm4Ok vl evex s = false := by
  refine Bool.eq_false_iff.mpr fun ho => ?_
  cases evex with
  | false =>
    obtain ⟨hreal, hv86, hosxsave, hxcr0, havx, hsm4⟩ := sm4VexOk_iff.mp ho
    simp only [hreal, hv86, hosxsave, hxcr0, havx, hsm4, ne_eq, not_true_eq_false, reduceCtorEq, or_self, and_false,
      false_and] at h
  | true =>
    obtain ⟨hreal, hv86, hosxsave, hxcr0, havx, hvl, hsm4⟩ := sm4EvexOk_iff.mp ho
    simp only [hreal, hv86, hosxsave, hxcr0, havx, hvl, hsm4, ne_eq, not_true_eq_false, reduceCtorEq, or_self, and_false,
      false_and] at h

theorem raoSplit_nil (l : List RaoEntry) : raoSplit [] l = ([], l, []) := by
  induction l with
  | nil => rfl
  | cons e l ih => simp [raoSplit, ih, overlaps]

/-- An access to no bytes follows no posted update. -/
theorem State.raoForce_nil (s : State) : s.raoForce [] = s := by
  unfold State.raoForce
  split
  · rfl
  · simp [raoSplit_nil, raoPerformAll, raoBytes, Monitor.stored]

section

variable {ok : State → Bool} {l : W32 → W32} {vl : Nat} {d a : VReg} {b : VecSrc} {v : W512}

/-- A source is read with no effect but that of a load; a register is a load of no bytes. -/
theorem vecSrc_run (hv : Claims.sourceIs s vl b v) : ∃ as, vecSrc vl b s = .ok v (s.raoForce as) := by
  cases b with
  | reg r =>
    obtain rfl : v = s.zmm r := hv
    refine ⟨[], ?_⟩
    rw [s.raoForce_nil]
    rfl
  | mem m =>
    obtain ⟨as, ha, rfl⟩ := hv
    refine ⟨as, ?_⟩
    simp only [vecSrc, Act.bind_run, loadOp_run, ha, Act.pure_run, s.readBytes_raoForce]

theorem settle_sm4 (ho : ok s = true) (ht : bitAt s.sys.cr0 3 = false) (hv : Claims.sourceIs s vl b v) :
    ∃ as, settle (sm4 ok l vl d a b) s =
      .next (s.loaded as s.gpr (s.setZmm d (sm4Lanes l vl (s.zmm a) v)).vec) := by
  obtain ⟨as, hsrc⟩ := vecSrc_run hv
  refine ⟨as, ?_⟩
  have hrun : sm4 ok l vl d a b s = .ok () { s.raoForce as with
      gpr := s.gpr, vec := (s.setZmm d (sm4Lanes l vl (s.zmm a) v)).vec } := by
    unfold sm4
    simp only [Act.bind_run, Act.get_run, ho, ht, need_true, Bool.not_false, hsrc, Act.modify_run, State.setZmm,
      State.raoForce_vec]
    rw [← s.raoForce_gpr as]
  rw [settle_ok hrun, State.advance_raoForce]

theorem settle_sm4_of_not_ok (ho : ok s = false) : settle (sm4 ok l vl d a b) s = .next (s.takeTrap udTrap) :=
  settle_need ho

theorem settle_sm4_of_taskSwitched (ho : ok s = true) (ht : bitAt s.sys.cr0 3 = true) :
    settle (sm4 ok l vl d a b) s = .next (s.takeTrap nmTrap) :=
  settle_need_need (c' := fun s => !bitAt s.sys.cr0 3) (e' := fun _ => nmTrap) ho (by rw [ht]; rfl)

end

/-! ### The whole cipher (R547) -/

theorem dwordAt_sm4Block (w : Nat → W32) {j : Nat} (hj : j < 4) : dwordAt (sm4Block w) j = w j :=
  dwordAt_ofDwords w hj (by decide)

/-- The operation of an instruction on one lane. -/
theorem dwordAt_sm4Lanes_one (l : W32 → W32) (v w : W512) {j : Nat} (hj : j < 4) :
    dwordAt (sm4Lanes l 128 v w) j = sm4Round l (dwordAt v) (dwordAt w) j := by
  have hlane := dwordAt_sm4Lanes (vl := 128) (i := 0) l v w (by decide) (by decide) hj
  simpa only [Nat.mul_zero, Nat.zero_add] using hlane

/-- The words of the key schedule: K[0..3], then the round keys. -/
def sm4KeyWord (mk : Nat → W32) (i : Nat) : W32 := if i < 4 then mk i ^^^ sm4Fk i else sm4RoundKey mk (i - 4)

/-- The words of the cipher state: four of input, then one a round. -/
def IsSm4Words (mk x y : Nat → W32) : Prop :=
  (∀ i, i < 4 → y i = x i) ∧
    ∀ i, y (i + 4) = sm4F lRnd (y i) (y (i + 1)) (y (i + 2)) (y (i + 3)) (sm4RoundKey mk i)

section

variable {mk x y : Nat → W32} {j : Nat}

theorem sm4KeyWord_add_four (i : Nat) : sm4KeyWord mk (i + 4) = sm4RoundKey mk i := by
  rw [sm4KeyWord, if_neg (by omega), Nat.add_sub_cancel]

theorem dwordAt_sm4KeyBlock_succ (r : Nat) (hj : j < 4) :
    dwordAt (sm4KeyBlock mk (r + 1)) j = sm4RoundKey mk (4 * r + j) := by
  have hblock : (4 * r + j) / 4 = r := by omega
  have hplace : (4 * r + j) % 4 = j := by omega
  rw [sm4RoundKey, hblock, hplace]

theorem dwordAt_sm4KeyBlock (r : Nat) (hj : j < 4) : dwordAt (sm4KeyBlock mk r) j = sm4KeyWord mk (4 * r + j) := by
  cases r with
  | zero => rw [sm4KeyBlock, dwordAt_sm4Block _ hj, Nat.mul_zero, Nat.zero_add, sm4KeyWord, if_pos hj]
  | succ r =>
    have hindex : 4 * (r + 1) + j = 4 * r + j + 4 := by omega
    rw [dwordAt_sm4KeyBlock_succ r hj, hindex, sm4KeyWord_add_four]

/-- A round key comes from the four words of the key schedule before it. -/
theorem sm4RoundKey_eq (mk : Nat → W32) (i : Nat) : sm4RoundKey mk i =
    sm4F lKey (sm4KeyWord mk i) (sm4KeyWord mk (i + 1)) (sm4KeyWord mk (i + 2)) (sm4KeyWord mk (i + 3)) (sm4Ck i) := by
  obtain ⟨r, j, hj, rfl⟩ : ∃ r j, j < 4 ∧ i = 4 * r + j :=
    ⟨i / 4, i % 4, Nat.mod_lt _ (by decide), (Nat.div_add_mod i 4).symm⟩
  have hrounds : ∀ q < 4, sm4KeyWord mk (4 * r + (q + 4)) =
      sm4Round lKey (dwordAt (sm4KeyBlock mk r)) (dwordAt (sm4Block fun j => sm4Ck (4 * r + j))) q := fun q hq => by
    rw [← Nat.add_assoc, sm4KeyWord_add_four, ← dwordAt_sm4KeyBlock_succ r hq, sm4KeyBlock, dwordAt_sm4Lanes_one _ _ _ hq]
  have hnext := (eq_sm4Round_iff (y := fun q => sm4KeyWord mk (4 * r + q)) fun q hq => dwordAt_sm4KeyBlock r hq).mp
    hrounds j hj
  rw [← sm4KeyWord_add_four]
  exact hnext.trans (congrArg (sm4F lKey _ _ _ _) (dwordAt_sm4Block _ hj))

/-- After `r` operations the state holds words `4r` to `4r + 3`. -/
theorem dwordAt_sm4State (hy : IsSm4Words mk x y) (r : Nat) (hj : j < 4) :
    dwordAt (sm4State mk x r) j = y (4 * r + j) := by
  obtain ⟨hinput, hround⟩ := hy
  induction r generalizing j with
  | zero => rw [sm4State, dwordAt_sm4Block _ hj, Nat.mul_zero, Nat.zero_add, hinput j hj]
  | succ r ih =>
    have hindex : 4 * (r + 1) + j = 4 * r + (j + 4) := by omega
    rw [sm4State, dwordAt_sm4Lanes_one _ _ _ hj, hindex]
    refine ((eq_sm4Round_iff (y := fun q => y (4 * r + q)) fun q hq => ih hq).mpr (fun q hq => ?_) j hj).symm
    rw [dwordAt_sm4KeyBlock_succ r hq]
    exact hround (4 * r + q)

/-- The ciphertext is the last four words in reverse. -/
theorem sm4Encrypt_eq (hy : IsSm4Words mk x y) (hj : j < 4) : sm4Encrypt mk x j = y (35 - j) := by
  have hindex : 35 - j = 4 * 8 + (3 - j) := by omega
  rw [sm4Encrypt, dwordAt_sm4State hy 8 (by omega), hindex]

end

end Sys2Proof.Machine

namespace Sys2Proof.Claims

open Sys2Proof.Machine

/-- Settles O40: the rows share one operation on lanes, and on one lane it continues the recurrences of the cipher. -/
theorem sm4Rounds : Obligations.Sm4Rounds := by
  refine ⟨fun f hf d a b s v ho ht hv => ?_, fun f hf d a b s => ?_, fun mk x y => ?_⟩
  · obtain ⟨hmax, hfill⟩ := sm4Forms_sizes f hf
    obtain ⟨as, hend⟩ := settle_sm4 (ok := sm4Ok f.1 f.2.1) (l := f.2.2.1) (d := d) (a := a) ho ht hv
    rw [exec_sm4 f hf, hend]
    have hd : (s.setZmm d (sm4Lanes f.2.2.1 f.1 (s.zmm a) v)).zmm d = sm4Lanes f.2.2.1 f.1 (s.zmm a) v :=
      (s.zmm_setZmm d d _).trans (if_pos rfl)
    refine ⟨_, rfl, State.loadsOnly_loaded, State.loaded_eq, rfl, rfl, fun q hq => ?_, ?_, fun i hi => ?_⟩
    · exact (s.zmm_setZmm q d _).trans (if_neg hq)
    · exact (congrArg (fun v : W512 => v >>> f.1) hd).trans (sm4Lanes_ushiftRight _ _ _ hfill)
    · intro p rk c
      have hc : ∀ j < 4, c j = sm4Round f.2.2.1 p rk j := fun j hj =>
        (congrArg (dwordAt · (4 * i + j)) hd).trans (dwordAt_sm4Lanes _ _ _ hmax hi hj)
      rw [hc 0 (by decide), hc 1 (by decide), hc 2 (by decide), hc 3 (by decide)]
      exact ⟨rfl, rfl, rfl, rfl⟩
  · rw [exec_sm4 f hf]
    exact ⟨fun h => settle_sm4_of_not_ok (sm4Ok_eq_false h), settle_sm4_of_taskSwitched (ok := sm4Ok f.1 f.2.1)⟩
  · exact ⟨sm4RoundKey_eq mk, fun hinput hround _ hj => sm4Encrypt_eq ⟨hinput, hround⟩ hj⟩

end Sys2Proof.Claims

/-! ## The checks of the instructions on tile data -/

namespace Sys2Proof.Machine

variable {s : State}

/-! ### One shape for all that check TILECFG (R582 to R594) -/

/-- The checks of an instruction on tile data, then `k` at the state that passed them. -/
def tileAction (ok : Cfg → Bool) (c : State → Bool) (k : State → Act Unit) : Act Unit := do
  amxBegin ok
  tileDataEnabled
  let s ← get
  need (c s) udTrap
  k s

section

variable {ok : Cfg → Bool} {c : State → Bool} {k : State → Act Unit}

theorem amxBegin_of_ready (h : Claims.amxReady ok s) : amxBegin ok s = .ok () s := by
  obtain ⟨he, hf, hx⟩ := h
  rw [amxBegin_run, he, hf, hx]
  rfl

theorem tileDataEnabled_of_on (h : Claims.tileDataOn s) : tileDataEnabled s = .ok () s := by
  rw [tileDataEnabled_run, h]
  rfl

theorem tileAction_run (hr : Claims.amxReady ok s) (hd : Claims.tileDataOn s) (hc : c s = true) :
    tileAction ok c k s = k s s := by
  unfold tileAction
  simp only [Act.bind_run, amxBegin_of_ready hr, tileDataEnabled_of_on hd, Act.get_run, hc, need_true]

theorem settle_tileAction_of_not (hr : Claims.amxReady ok s) (hd : Claims.tileDataOn s) (hc : c s = false) :
    settle (tileAction ok c k) s = .next (s.takeTrap udTrap) := by
  refine settle_error ?_
  unfold tileAction
  simp only [Act.bind_run, amxBegin_of_ready hr, tileDataEnabled_of_on hd, Act.get_run, hc, need_false]

end

/-! ### Tile data disabled (R561, R585) -/

/-- With tile data disabled the action stops with #UD or #NM, before it changes anything. -/
def StopsWithoutTileData (a : Act Unit) : Prop :=
  ∀ s, s.ctx.tsx = false → bitAt (s.msrVal 0x1C4) 18 = true → ∃ e, a s = .error e s ∧ (e = udTrap ∨ e = nmTrap ∨ e = .xfd)

theorem amxBegin_without_transaction (ok : Cfg → Bool) (hx : s.ctx.tsx = false) :
    amxBegin ok s = if amxEnabled s && ok s.cfg then .ok () s else .error udTrap s := by
  rw [amxBegin_run, hx]
  rfl

theorem stopsWithoutTileData_tileAction (ok : Cfg → Bool) (c : State → Bool) (k : State → Act Unit) :
    StopsWithoutTileData (tileAction ok c k) := by
  intro s hx hd
  unfold tileAction
  cases h : amxEnabled s && ok s.cfg with
  | false =>
    refine ⟨udTrap, ?_, .inl rfl⟩
    rw [Act.bind_run, amxBegin_without_transaction ok hx, h]
    rfl
  | true =>
    refine ⟨.xfd, ?_, .inr (.inr rfl)⟩
    simp only [Act.bind_run, amxBegin_without_transaction ok hx, h, if_true, tileDataEnabled_run, hd]

theorem stopsWithoutTileData_rowToZmm (f : W32 → W32) (d : VReg) (t : Tmm) (sel : RowSel) :
    StopsWithoutTileData (rowToZmm f d t sel) := by
  intro s hx hd
  have hbegin := amxBegin_without_transaction hasAmxAvx512 hx
  cases hm : rowMoveEnabled s with
  | false => exact ⟨udTrap, by simp only [rowToZmm, Act.bind_run, Act.get_run, hm, need_false], .inl rfl⟩
  | true =>
    cases he : amxEnabled s && hasAmxAvx512 s.cfg with
    | false =>
      rw [he, if_neg nofun] at hbegin
      exact ⟨udTrap, by simp only [rowToZmm, Act.bind_run, Act.get_run, hm, need_true, hbegin], .inl rfl⟩
    | true =>
      rw [he, if_pos rfl] at hbegin
      cases hts : bitAt s.sys.cr0 3 with
      | true =>
        refine ⟨nmTrap, ?_, .inr (.inl rfl)⟩
        simp only [rowToZmm, Act.bind_run, Act.get_run, hm, need_true, hbegin, hts, Bool.not_true, need_false]
      | false =>
        refine ⟨.xfd, ?_, .inr (.inr rfl)⟩
        simp only [rowToZmm, Act.bind_run, Act.get_run, hm, need_true, hbegin, hts, Bool.not_false, tileDataEnabled_run, hd,
          if_true]

theorem exec_eq_tileDataAction {i : Instr} (hi : touchesTileData i = true) (s : State) :
    ∃ a, StopsWithoutTileData a ∧ exec i s = settle a s := by
  cases i with
  | tilezero | tcmmimfp16ps | tcmmrlfp16ps | tdpbf8ps | tdpbhf8ps | tdphbf8ps | tdphf8ps | tmmultf32ps
  | tconjtcmmimfp16ps | ttcmmimfp16ps | ttcmmrlfp16ps | ttdpbf16ps | ttdpfp16ps | ttmmultf32ps | tconjtfp16
  | ttransposed | tileloadd | tileloaddT1 | tileloaddrs | tileloaddrsT1 | tilestored | t2rpntlvwZ0 | t2rpntlvwZ0T1
  | t2rpntlvwZ1 | t2rpntlvwZ1T1 | t2rpntlvwZ0RS | t2rpntlvwZ0RST1 | t2rpntlvwZ1RS | t2rpntlvwZ1RST1 =>
    exact ⟨_, stopsWithoutTileData_tileAction _ _ _, rfl⟩
  | tcvtrowd2psR d t | tcvtrowd2psI d t | tcvtrowps2pbf16hR d t | tcvtrowps2pbf16hI d t | tcvtrowps2pbf16lR d t
  | tcvtrowps2pbf16lI d t | tcvtrowps2phhR d t | tcvtrowps2phhI d t | tcvtrowps2phlR d t | tcvtrowps2phlI d t
  | tilemovrowR d t | tilemovrowI d t => exact ⟨_, stopsWithoutTileData_rowToZmm _ d t _, rfl⟩
  | _ => cases hi

/-! ### The rows of the instruction tables -/

theorem exec_mul : ∀ f ∈ Claims.mulForms, ∀ c a b s, exec (f.1 c a b) s = settle (tmul f.2.1 f.2.2 c a b) s := by
  simp only [Claims.mulForms, List.forall_mem_cons, List.not_mem_nil, false_imp_iff, implies_true, and_true]
  and_intros
  all_goals exact fun _ _ _ _ => rfl

theorem exec_mulTransposed : ∀ f ∈ Claims.transposedForms, ∀ c a b s,
    exec (f.1 c a b) s = settle (tmulTransposed f.2.1 f.2.2 c a b) s := by
  simp only [Claims.transposedForms, List.forall_mem_cons, List.not_mem_nil, false_imp_iff, implies_true, and_true]
  and_intros
  all_goals exact fun _ _ _ _ => rfl

theorem exec_transpose : ∀ f ∈ Claims.transposeForms, ∀ d a s,
    exec (f.1 d a) s = settle (tileTranspose f.2.1 f.2.2 d a) s := by
  simp only [Claims.transposeForms, List.forall_mem_cons, List.not_mem_nil, false_imp_iff, implies_true, and_true]
  and_intros
  all_goals exact fun _ _ _ => rfl

theorem exec_tileLoad : ∀ f ∈ Claims.tileLoadForms, ∀ c m s, exec (f.1 c m) s = settle (tileLoad f.2 c m) s := by
  simp only [Claims.tileLoadForms, List.forall_mem_cons, List.not_mem_nil, false_imp_iff, implies_true, and_true]
  and_intros
  all_goals exact fun _ _ _ => rfl

theorem exec_pairLoad : ∀ f ∈ Claims.pairLoadForms, ∀ c m s,
    exec (f.1 c m) s = settle (pairLoad f.2.1 f.2.2 c m) s := by
  simp only [Claims.pairLoadForms, List.forall_mem_cons, List.not_mem_nil, false_imp_iff, implies_true, and_true]
  and_intros
  all_goals exact fun _ _ _ => rfl

theorem exec_rowReg : ∀ f ∈ Claims.rowRegForms, ∀ d c r s,
    exec (f.1 d c r) s = settle (rowToZmm f.2 d c (selReg (s.reg32 r))) s := by
  simp only [Claims.rowRegForms, List.forall_mem_cons, List.not_mem_nil, false_imp_iff, implies_true, and_true]
  and_intros
  all_goals exact fun _ _ _ _ => rfl

theorem exec_rowImm : ∀ f ∈ Claims.rowImmForms, ∀ d c n s,
    exec (f.1 d c n) s = settle (rowToZmm f.2 d c (selImm n)) s := by
  simp only [Claims.rowImmForms, List.forall_mem_cons, List.not_mem_nil, false_imp_iff, implies_true, and_true]
  and_intros
  all_goals exact fun _ _ _ _ => rfl

/-! ### What the checks ask (R585 to R594) -/

theorem tileDwords_iff {t : Tmm} : s.tileDwords t = true ↔ s.tileValid t = true ∧ s.tileColsb t % 4 = 0 := by
  simp only [State.tileDwords, Bool.and_eq_true, beq_iff_eq]

theorem tileMemOk_iff {t : Tmm} : tileMemOk s t = true ↔ s.tilesConfigured = true ∧ s.tileValid t = true ∧
    s.tileColsb t % 4 = 0 ∧ s.amx.startRow.toNat < s.tileRows t := by
  simp only [tileMemOk, Bool.and_eq_true, tileDwords_iff, decide_eq_true_eq, and_assoc]

theorem tmulOk_iff {c a b : Tmm} : tmulOk s c a b = true ↔ s.tilesConfigured = true ∧ c ≠ a ∧ a ≠ b ∧ c ≠ b ∧
    (s.tileValid c = true ∧ s.tileColsb c % 4 = 0) ∧ (s.tileValid a = true ∧ s.tileColsb a % 4 = 0) ∧
    (s.tileValid b = true ∧ s.tileColsb b % 4 = 0) ∧ s.tileColsb c = s.tileColsb b ∧ s.tileColsb a / 4 = s.tileRows b ∧
    s.tileRows c = s.tileRows a ∧ s.tileColsb c ≤ tmulMaxN s.cfg ∧ s.tileRows b ≤ tmulMaxK s.cfg ∧
    s.tileColsb a / 4 ≤ tmulMaxK s.cfg := by
  simp only [tmulOk, Bool.and_eq_true, tileDwords_iff, decide_eq_true_eq, bne_iff_ne, beq_iff_eq, and_assoc]

theorem tmulTransposedOk_iff {c a b : Tmm} : tmulTransposedOk s c a b = true ↔
    xcr0SupportsPalette s s.amx.palette = true ∧ s.tilesConfigured = true ∧ c ≠ a ∧ a ≠ b ∧ c ≠ b ∧
    (s.tileValid c = true ∧ s.tileColsb c % 4 = 0) ∧ (s.tileValid a = true ∧ s.tileColsb a % 4 = 0) ∧
    (s.tileValid b = true ∧ s.tileColsb b % 4 = 0) ∧ s.tileColsb c = s.tileColsb b ∧ s.tileRows c = s.tileColsb a / 4 ∧
    s.tileRows a = s.tileRows b ∧ s.tileColsb c ≤ tmulMaxN s.cfg ∧ s.tileRows b ≤ tmulMaxK s.cfg := by
  simp only [tmulTransposedOk, Bool.and_eq_true, tileDwords_iff, decide_eq_true_eq, bne_iff_ne, beq_iff_eq, and_assoc]

theorem transposeOk_iff {d a : Tmm} : transposeOk s d a = true ↔ xcr0SupportsPalette s s.amx.palette = true ∧
    s.tilesConfigured = true ∧ (s.tileValid d = true ∧ s.tileColsb d % 4 = 0) ∧
    (s.tileValid a = true ∧ s.tileColsb a % 4 = 0) ∧ s.tileRows a = s.tileColsb d / 4 ∧
    s.tileColsb a / 4 = s.tileRows d := by
  simp only [transposeOk, Bool.and_eq_true, tileDwords_iff, beq_iff_eq, and_assoc]

theorem pairOk_iff {t : Tmm} : pairOk s t = true ↔ s.tilesConfigured = true ∧ s.tileName (pairBase t) = true ∧
    s.tileName (pairNext t) = true ∧ s.tileValid (pairBase t) = true ∧ s.tileColsb (pairBase t) % 8 = 0 ∧
    ((s.tileRows (pairNext t) = 0 ∧ s.tileColsb (pairNext t) = 0) ∨
      (s.tileRows (pairNext t) = s.tileRows (pairBase t) ∧ s.tileColsb (pairNext t) ≠ 0 ∧
        s.tileColsb (pairNext t) % 8 = 0 ∧ s.tileColsb (pairBase t) = bytesPerRow s.cfg s.amx.palette)) ∧
    s.amx.startRow.toNat < 2 * s.tileRows (pairBase t) := by
  simp only [pairOk, Bool.and_eq_true, Bool.or_eq_true, decide_eq_true_eq, bne_iff_ne, beq_iff_eq, and_assoc]

/-- Past the checks that need no TILECFG, the row instructions stop where the tile does not fit. -/
theorem settle_rowToZmm_of_not {f : W32 → W32} {d : VReg} {t : Tmm} {sel : RowSel}
    (hr : Claims.amxReady hasAmxAvx512 s) (hm : rowMoveEnabled s = true) (hts : bitAt s.sys.cr0 3 = false)
    (hd : Claims.tileDataOn s) (hc : (s.tilesConfigured && s.tileDwords t) = false) :
    settle (rowToZmm f d t sel) s = .next (s.takeTrap udTrap) := by
  refine settle_error ?_
  unfold rowToZmm
  simp only [Act.bind_run, Act.get_run, hm, need_true, amxBegin_of_ready hr, hts, Bool.not_false, tileDataEnabled_of_on hd,
    hc, need_false]

end Sys2Proof.Machine

namespace Sys2Proof.Claims

open Sys2Proof.Machine

/-- Settles O23: every instruction on tile data checks IA32_XFD[18] before it changes anything. -/
theorem tileDataDisabled : Obligations.TileDataDisabled := by
  refine ⟨fun i s t hi hx hd ht => ?_, fun s => ⟨rfl, ?_⟩⟩
  · obtain ⟨a, ha, he⟩ := exec_eq_tileDataAction hi s
    obtain ⟨e, hstop, h⟩ := ha s hx hd
    rw [he, settle_error hstop] at ht
    cases ht
    obtain rfl | rfl | rfl := h
    · exact .inl rfl
    · exact .inr (.inl rfl)
    · exact .inr (.inr rfl)
  · have hmsr : (s.takeTrap .xfd).msrVal 0x1C5 = setBitTo (s.msrVal 0x1C5) 18 true :=
      (s.msrVal_setMsr 0x1C5 0x1C5 _).trans (if_pos rfl)
    rw [hmsr, bitAt_setBitTo]
    rfl

/-- Settles O51: each condition denies one of the checks of its class. -/
theorem amxClassChecks : Obligations.AmxClassChecks := by
  refine ⟨fun s c m he hx hd => ⟨fun h => ?_, fun h => ?_⟩, fun f hf c a b s hr hd h => ?_, fun f hf c a b s hr hd h => ?_,
    fun f hf d a s hr hd h => ?_, fun f hf c m s hr hd => ?_, fun d c s hr hm hts hd h => ?_⟩
  · have hc : tileMemOk s c = false := Bool.eq_false_iff.mpr fun ho => by grind [tileMemOk_iff]
    refine ⟨fun f hf hok => ?_, settle_tileAction_of_not ⟨he, rfl, hx⟩ hd hc⟩
    rw [exec_tileLoad f hf]
    exact settle_tileAction_of_not ⟨he, hok, hx⟩ hd hc
  · exact settle_tileAction_of_not ⟨he, rfl, hx⟩ hd (by obtain h | h := h <;> simp [h])
  · rw [exec_mul f hf]
    exact settle_tileAction_of_not hr hd (Bool.eq_false_iff.mpr fun ho => by grind [tmulOk_iff])
  · rw [exec_mulTransposed f hf]
    exact settle_tileAction_of_not hr hd (Bool.eq_false_iff.mpr fun ho => by grind [tmulTransposedOk_iff])
  · rw [exec_transpose f hf]
    exact settle_tileAction_of_not hr hd (Bool.eq_false_iff.mpr fun ho => by grind [transposeOk_iff])
  · intro a b h
    rw [exec_pairLoad f hf]
    exact settle_tileAction_of_not hr hd (Bool.eq_false_iff.mpr fun ho => by grind [pairOk_iff])
  · have hc : (s.tilesConfigured && s.tileDwords c) = false := by
      obtain h | h | h := h <;> simp [State.tileDwords, h]
    refine ⟨fun f hf r => ?_, fun f hf n => ?_⟩
    · rw [exec_rowReg f hf]
      exact settle_rowToZmm_of_not hr hm hts hd hc
    · rw [exec_rowImm f hf]
      exact settle_rowToZmm_of_not hr hm hts hd hc

end Sys2Proof.Claims

/-! ## Tiles, row by row -/

namespace Sys2Proof.Machine

variable {s : State}

/-! ### The bits of a vector -/

theorem getLsbD_lowBits {n i : Nat} (v : W512) (hi : i < 512) :
    (lowBits n v).getLsbD i = (decide (i < n) && v.getLsbD i) := by
  rw [lowBits, BitVec.getLsbD_and, BitVec.getLsbD_ofNat, Nat.testBit_two_pow_sub_one, decide_eq_true hi, Bool.true_and,
    Bool.and_comm]

/-- A dword of a vector of `n` dwords, also of one that keeps only the first sixteen of them. -/
theorem dwordAt_ofDwords_of_lt {n j : Nat} (f : Nat → W32) (hj : j < 16) :
    dwordAt (ofDwords n f) j = if j < n then f j else 0 := by
  refine BitVec.eq_of_getLsbD_eq fun i hi => ?_
  have hin : 32 * j + i < 512 := by omega
  have hdiv : (32 * j + i) / 32 = j := by omega
  have hmod : (32 * j + i) % 32 = i := by omega
  have hlt : 32 * j + i < 32 * n ↔ j < n := by omega
  rw [ofDwords_eq_ofElems, dwordAt, BitVec.getLsbD_extractLsb', getLsbD_ofElems _ (by decide) hin, hdiv, hmod,
    BitVec.getLsbD_setWidth]
  simp only [hlt]
  by_cases h : j < n
  · simp [h, hi, show i < 64 by omega]
  · simp [h]

/-! ### The rows of a tile -/

/-- Row `r` of a tile's data. -/
def rowAt (v : Vector W512 16) (r : Nat) : W512 := v.toList.getD r 0

theorem State.tileRow_eq (s : State) (t : Tmm) (r : Nat) : s.tileRow t r = rowAt (s.tile t) r := rfl

theorem rowAt_eq (v : Vector W512 16) (r : Nat) : rowAt v r = if h : r < 16 then v[r] else 0 := by
  rw [rowAt, List.getD_eq_getElem?_getD]
  split
  · next h => simp [h]
  · next h => simp [h]

theorem rowAt_replicate (r : Nat) : rowAt (Vector.replicate 16 0) r = 0 := by
  rw [rowAt_eq]
  split
  · simp
  · rfl

theorem rowAt_setIfInBounds {v : Vector W512 16} {i r : Nat} {x : W512} (hr : r < 16) :
    rowAt (v.setIfInBounds i x) r = if r = i then x else rowAt v r := by
  simp only [rowAt_eq, hr, dif_pos, Vector.getElem_setIfInBounds]
  simp only [eq_comm]

/-- Replacing, row by row, the rows below `n` that a condition selects. -/
theorem rowAt_foldl_setIfInBounds (p : Nat → Prop) [DecidablePred p] (f : Nat → W512) (v : Vector W512 16) {n r : Nat}
    (hr : r < 16) :
    rowAt ((List.range n).foldl (fun w i => if p i then w.setIfInBounds i (f i) else w) v) r =
      if r < n ∧ p r then f r else rowAt v r := by
  induction n with
  | zero => simp
  | succ n ih =>
    rw [List.range_succ, List.foldl_append, List.foldl_cons, List.foldl_nil]
    split
    · next hp =>
      rw [rowAt_setIfInBounds hr, ih]
      by_cases h : r = n
      · subst h; simp [hp]
      · have hlt : r < n + 1 ↔ r < n := by omega
        simp [h, hlt]
    · next hp =>
      rw [ih]
      refine if_congr ⟨fun ⟨h, hq⟩ => ⟨by omega, hq⟩, fun ⟨h, hq⟩ => ⟨?_, hq⟩⟩ rfl rfl
      have hne : r ≠ n := fun e => hp (e ▸ hq)
      omega

theorem rowAt_zeroFrom (v : Vector W512 16) {n r : Nat} (hr : r < 16) :
    rowAt (zeroFrom v n) r = if n ≤ r then 0 else rowAt v r := by
  rw [zeroFrom, rowAt_foldl_setIfInBounds (n ≤ ·) (fun _ => 0) v hr]
  simp only [hr, true_and]

theorem rowAt_tileOf (n : Nat) (f : Nat → W512) {r : Nat} (hr : r < 16) :
    rowAt (tileOf n f) r = if r < n then f r else 0 := by
  rw [tileOf, rowAt_foldl_setIfInBounds (· < n) f _ hr, rowAt_replicate]
  simp only [hr, true_and]

/-! ### Tiles of the state (R562, R564) -/

theorem State.tile_setTile (s : State) (t q : Tmm) (v : Vector W512 16) :
    (s.setTile t v).tile q = if tileIx q = tileIx t then v else s.tile q := by
  simp only [State.tile, State.setTile]
  by_cases h : tileIx q = tileIx t
  · simp [h]
  · have hne : (tileIx t).val ≠ (tileIx q).val := fun e => h (Fin.ext e.symm)
    simp [h, hne]

@[simp] theorem State.tileRow_setStartRow (s : State) (n : Nat) (q : Tmm) (r : Nat) :
    (s.setStartRow n).tileRow q r = s.tileRow q r := rfl

theorem State.tileRow_setTile_same (s : State) (t : Tmm) (v : Vector W512 16) (r : Nat) :
    (s.setTile t v).tileRow t r = rowAt v r := by
  rw [State.tileRow_eq, State.tile_setTile, if_pos rfl]

/-- Writing one tile and clearing start_row leaves the rest of the AMX state (R567, R572). -/
theorem oneTileOnly_setTile (s : State) (t : Tmm) (v : Vector W512 16) :
    Claims.oneTileOnly s ((s.setTile t v).setStartRow 0).advance t :=
  ⟨rfl, rfl, rfl, rfl, fun q hq => (s.tile_setTile t q v).trans (if_neg hq)⟩

/-! ### Results of the compute instructions (R567, R621) -/

/-- The machine after an instruction that computes a tile. -/
theorem State.advance_setResult (s : State) (c : Tmm) (f : Nat → Nat → W32) : (s.setResult c f).advance =
    { s with rip := s.nextRip, amx := (s.setResult c f).advance.amx } := rfl

theorem dwordAt_setResult (s : State) (c : Tmm) (f : Nat → Nat → W32) {r n : Nat} (hr : r < 16) (hn : n < 16) :
    dwordAt ((s.setResult c f).advance.tileRow c r) n =
      if r < s.tileRows c ∧ n < s.tileColsb c / 4 then f r n else 0 := by
  have hrow : (s.setResult c f).advance.tileRow c r =
      rowAt (tileOf (s.tileRows c) fun m => ofDwords (s.tileColsb c / 4) (f m)) r :=
    s.tileRow_setTile_same c _ r
  rw [hrow, rowAt_tileOf _ _ hr, ite_and]
  split
  · exact dwordAt_ofDwords_of_lt _ hn
  · exact BitVec.extractLsb'_zero

/-- An instruction that computes a tile ends, its elements where its checks pass. -/
theorem completes_setResult {ok : Cfg → Bool} {check : State → Bool} {c : Tmm} {f : State → Nat → Nat → W32}
    (hr : Claims.amxReady ok s) (hd : Claims.tileDataOn s) (hc : check s = true) :
    ∃ t, settle (tileAction ok check fun s => set (s.setResult c (f s))) s = .next t ∧
      t = { s with rip := s.nextRip, amx := t.amx } ∧ Claims.oneTileOnly s t c ∧
      ∀ r n, r < 16 → n < 16 → dwordAt (t.tileRow c r) n =
        if r < s.tileRows c ∧ n < s.tileColsb c / 4 then f s r n else 0 :=
  ⟨_, settle_ok (tileAction_run hr hd hc), s.advance_setResult c _, oneTileOnly_setTile s c _,
    fun _ _ hr hn => dwordAt_setResult s c _ hr hn⟩

/-! ### Rows into vector registers (R590, R591, R628) -/

theorem dwordAt_chunkDwords (row : W512) (colsb chunk : Nat) (f : W32 → W32) {j : Nat} (hj : j < 16) :
    dwordAt (chunkDwords row colsb chunk f) j =
      if chunk / 4 + j < colsb / 4 then f (dwordAt row (chunk / 4 + j)) else 0 := by
  rw [chunkDwords, dwordAt_ofDwords_of_lt _ hj, if_pos hj]
  by_cases h : chunk / 4 + j < colsb / 4
  · have hin : ¬ colsb / 4 ≤ j + chunk / 4 := by omega
    rw [if_neg hin, if_pos h]
  · have hout : colsb / 4 ≤ j + chunk / 4 := by omega
    rw [if_pos hout, if_neg h]

section

variable {f : W32 → W32} {d : VReg} {t : Tmm} {sel : RowSel} (hr : Claims.amxReady hasAmxAvx512 s)
  (hm : rowMoveEnabled s = true) (hts : bitAt s.sys.cr0 3 = false) (hd : Claims.tileDataOn s)
  (hcfg : s.tilesConfigured = true) (ht : s.tileDwords t = true)
include hr hm hts hd hcfg ht

theorem rowToZmm_run : rowToZmm f d t sel s =
    (if sel.row < s.tileRows t ∧ sel.chunk < s.tileColsb t then
      .ok () ((s.setZmm d (chunkDwords (s.tileRow t sel.row) (s.tileColsb t) sel.chunk f)).setStartRow 0)
    else .error (gpTrap s) s) := by
  unfold rowToZmm
  simp only [Act.bind_run, Act.get_run, hm, need_true, amxBegin_of_ready hr, hts, Bool.not_false, tileDataEnabled_of_on hd,
    hcfg, ht, Bool.and_self, need_run (_ && _), Bool.and_eq_true, decide_eq_true_eq]
  split_ifs <;> rfl

theorem settle_rowToZmm_of_selected (hrow : sel.row < s.tileRows t) (hchunk : sel.chunk < s.tileColsb t) :
    ∃ u, settle (rowToZmm f d t sel) s = .next u ∧
      u = { s with rip := s.nextRip, vec := u.vec, amx := { s.amx with startRow := 0 } } ∧
      u.vec.k = s.vec.k ∧ u.vec.mxcsr = s.vec.mxcsr ∧ (∀ q, q ≠ d → u.zmm q = s.zmm q) ∧
      ∀ j, j < 16 → dwordAt (u.zmm d) j =
        if sel.chunk / 4 + j < s.tileColsb t / 4 then f (dwordAt (s.tileRow t sel.row) (sel.chunk / 4 + j)) else 0 := by
  refine ⟨_, settle_ok ((rowToZmm_run hr hm hts hd hcfg ht).trans (if_pos ⟨hrow, hchunk⟩)), rfl, rfl, rfl,
    fun q hq => (s.zmm_setZmm q d _).trans (if_neg hq), fun j hj => ?_⟩
  have hzmm := (s.zmm_setZmm d d (chunkDwords (s.tileRow t sel.row) (s.tileColsb t) sel.chunk f)).trans (if_pos rfl)
  exact (congrArg (dwordAt · j) hzmm).trans (dwordAt_chunkDwords _ _ _ f hj)

theorem settle_rowToZmm_of_not_selected (h : s.tileRows t ≤ sel.row ∨ s.tileColsb t ≤ sel.chunk) :
    settle (rowToZmm f d t sel) s = .next (s.takeTrap (gpTrap s)) :=
  settle_error ((rowToZmm_run hr hm hts hd hcfg ht).trans (if_neg (by omega)))

end

/-! ### TILERELEASE (R599) -/

theorem releaseTileConfig_run (hr : Claims.amxReady (fun _ => true) s) : releaseTileConfig s = .ok () s.releaseTiles := by
  unfold releaseTileConfig
  simp only [Act.bind_run, amxBegin_of_ready hr, Act.modify_run]

end Sys2Proof.Machine

namespace Sys2Proof.Claims

open Sys2Proof.Machine

/-- Settles O43: neither instruction reads memory, and what they write is all zero. -/
theorem tileReleaseAndZero : Obligations.TileReleaseAndZero := by
  refine ⟨fun s hr => settle_ok (releaseTileConfig_run hr), fun c s hr hd hcfg ht => ?_⟩
  have hcheck : (s.tilesConfigured && s.tileValid c) = true := by rw [hcfg, ht]; rfl
  have hrun : zeroTile c s = .ok () ((s.setTile c (Vector.replicate 16 0)).setStartRow 0) :=
    tileAction_run (c := fun s => s.tilesConfigured && s.tileValid c) hr hd hcheck
  exact ⟨_, settle_ok hrun, rfl, oneTileOnly_setTile s c _,
    fun r => (s.tileRow_setTile_same c _ r).trans (rowAt_replicate r)⟩

/-- Settles O47: each multiply computes its tile of elements. -/
theorem tileMultiplies : Obligations.TileMultiplies := by
  intro f hf c a b s hr hd hc
  rw [exec_mul f hf]
  exact completes_setResult (check := fun s => tmulOk s c a b) hr hd hc

/-- Settles O48: as O47, the lanes of the first source taken from its columns. -/
theorem transposedMultiplies : Obligations.TransposedMultiplies := by
  intro f hf c a b s hr hd hc
  rw [exec_mulTransposed f hf]
  exact completes_setResult (check := fun s => tmulTransposedOk s c a b) hr hd hc

/-- Settles O49: the elements are computed from the state before the instruction. -/
theorem tileTransposes : Obligations.TileTransposes := by
  intro f hf d a s hr hd hc
  rw [exec_transpose f hf]
  exact completes_setResult (check := fun s => transposeOk s d a) hr hd hc

/-- Settles O50: both selectors name a row and a chunk for one operation. -/
theorem rowMoves : Obligations.RowMoves := by
  refine ⟨fun f hf d c r s hr hm hts hd hcfg ht => ?_, fun f hf d c n s hr hm hts hd hcfg ht => ?_⟩
  · intro row chunk
    rw [exec_rowReg f hf]
    exact ⟨settle_rowToZmm_of_selected (sel := selReg (s.reg32 r)) hr hm hts hd hcfg ht,
      settle_rowToZmm_of_not_selected (sel := selReg (s.reg32 r)) hr hm hts hd hcfg ht⟩
  · intro row chunk
    rw [exec_rowImm f hf]
    exact ⟨settle_rowToZmm_of_selected (sel := selImm n) hr hm hts hd hcfg ht,
      settle_rowToZmm_of_not_selected (sel := selImm n) hr hm hts hd hcfg ht⟩

end Sys2Proof.Claims

/-! ## LDTILECFG and STTILECFG -/

namespace Sys2Proof.Machine

variable {s u v : State} {as : List Nat}

/-! ### What the AMX instructions with a memory operand change -/

/-- `u` is `s` but for AMX state and memory with its posted updates and monitor. -/
def AmxWork (s u : State) : Prop := u = { s with amx := u.amx, mem := u.mem, rao := u.rao, monitor := u.monitor }

namespace AmxWork

theorem refl (s : State) : AmxWork s s := rfl

theorem trans (hu : AmxWork s u) (hv : AmxWork u v) : AmxWork s v := by
  unfold AmxWork at hv; rw [hv, hu]; rfl

theorem raoForce (s : State) (fp : List Nat) : AmxWork s (s.raoForce fp) := by
  unfold AmxWork State.raoForce; split <;> rfl

/-- An update of AMX state alone. -/
theorem update (a : Amx) : AmxWork s { s with amx := a } := rfl

theorem accessBytes_eq (h : AmxWork s u) (seg : Seg) (off : W64) (n : Nat) (k : Access) (ac : Bool) :
    accessBytes u seg off n k ac = accessBytes s seg off n k ac := by
  have htranslate (la : W64) : translateBytes u k false n la = translateBytes s k false n la := by
    induction n generalizing la with
    | zero => rfl
    | succ n ih => rw [translateBytes, translateBytes, ih, h]; rfl
  have hlinear : checkLinear u seg off n (k == .write) = checkLinear s seg off n (k == .write) := by rw [h]; rfl
  have hac : u.acEnabled = s.acEnabled := by rw [h]; rfl
  simp only [accessBytes, hlinear, hac, htranslate]

theorem rowAddr_eq (h : AmxWork s u) (m : MemOp) (i : Nat) : u.rowAddr m i = s.rowAddr m i := by rw [h]; rfl

theorem is64_eq (h : AmxWork s u) : u.is64 = s.is64 := by rw [h]; rfl

theorem amxOnly_advance (h : AmxWork s u) : Claims.amxOnly s u.advance := by
  have hrip : u.nextRip = s.nextRip := by rw [h]; rfl
  unfold Claims.amxOnly State.advance
  rw [hrip, h]

end AmxWork

theorem loadsOnly_trans (hu : loadsOnly s u) (hv : loadsOnly u v) : loadsOnly s v := by
  refine ⟨fun a => (hv.1 a).trans (hu.1 a), fun h => ?_⟩
  obtain ⟨hmem, hrao, hmon⟩ := hu.2 h
  obtain ⟨hmem', hrao', hmon'⟩ := hv.2 hrao
  exact ⟨hmem'.trans hmem, hrao', hmon'.trans hmon⟩

/-! ### LDTILECFG (R597) -/

theorem cfgOk_raoForce (s : State) (as : List Nat) (b : List Byte) : cfgOk (s.raoForce as) b = cfgOk s b := by
  rw [State.raoForce_eq]; rfl

theorem loadTileConfig_run {m : MemOp} (hr : Claims.amxReady (fun _ => true) s)
    (ha : accessBytes s (segOf m) (s.ea m) 64 .read false = .ok as) :
    loadTileConfig m s = if cfgOk s (readBytes s.seen as) then .ok () ((s.raoForce as).loadConfig (readBytes s.seen as))
      else .error (gpTrap (s.raoForce as)) (s.raoForce as) := by
  unfold loadTileConfig
  simp only [Act.bind_run, amxBegin_of_ready hr, loadOp_run, ha, s.readBytes_raoForce, Act.get_run, need_run,
    cfgOk_raoForce]
  split_ifs <;> rfl

section

variable {b : List Byte}

theorem State.loadConfig_of_init (h : b.getD 0 0 = 0) : s.loadConfig b = s.releaseTiles := if_pos h

theorem State.loadConfig_of_palette (h : b.getD 0 0 ≠ 0) : s.loadConfig b =
    s.configureTiles (b.getD 0 0) (b.getD 1 0) (perTile (cfgRows b)) (perTile (cfgColsb b)) := if_neg h

/-- Loading a configuration changes AMX state alone. -/
theorem State.loadConfig_eq (s : State) (b : List Byte) : s.loadConfig b = { s with amx := (s.loadConfig b).amx } := by
  unfold State.loadConfig; split <;> rfl

theorem State.tileRow_configureTiles (s : State) (p r : Byte) (rows : Vector Byte 16) (colsb : Vector (BitVec 16) 16)
    (q : Tmm) (n : Nat) : (s.configureTiles p r rows colsb).tileRow q n = 0 := by
  have htile : (s.configureTiles p r rows colsb).tile q = Vector.replicate 16 0 := Vector.getElem_replicate _
  rw [State.tileRow_eq, htile, rowAt_replicate]

theorem State.tileRow_loadConfig (s : State) (b : List Byte) (q : Tmm) (n : Nat) : (s.loadConfig b).tileRow q n = 0 := by
  unfold State.loadConfig; split <;> exact State.tileRow_configureTiles ..

theorem State.palette_loadConfig (s : State) (b : List Byte) : (s.loadConfig b).amx.palette = b.getD 0 0 := by
  by_cases h : b.getD 0 0 = 0
  · rw [State.loadConfig_of_init h, h]; rfl
  · rw [State.loadConfig_of_palette h]; rfl

theorem State.startRow_loadConfig (s : State) (b : List Byte) :
    (s.loadConfig b).amx.startRow = if b.getD 0 0 = 0 then 0 else b.getD 1 0 := by
  unfold State.loadConfig; split <;> rfl

theorem getElem_perTile {α : Type} (f : Nat → α) {q : Tmm} (hq : q.val < 16) : (perTile f)[tileIx q] = f q.val := by
  have hix : (tileIx q).val = q.val := Nat.mod_eq_of_lt hq
  simp [perTile, hix]

theorem State.tileShape_loadConfig (s : State) (b : List Byte) {q : Tmm} (hq : q.val < 16) :
    (s.loadConfig b).tileRows q = (if b.getD 0 0 = 0 then 0 else (cfgRows b q.val).toNat) ∧
      (s.loadConfig b).tileColsb q = (if b.getD 0 0 = 0 then 0 else (cfgColsb b q.val).toNat) := by
  by_cases h : b.getD 0 0 = 0
  · rw [State.loadConfig_of_init h, if_pos h, if_pos h]
    exact ⟨congrArg BitVec.toNat (Vector.getElem_replicate _), congrArg BitVec.toNat (Vector.getElem_replicate _)⟩
  · rw [State.loadConfig_of_palette h, if_neg h, if_neg h]
    exact ⟨congrArg BitVec.toNat (getElem_perTile _ hq), congrArg BitVec.toNat (getElem_perTile _ hq)⟩

end

/-! ### The image of a configuration (R562, R598) -/

/-- Byte `i` of words written one after another. -/
theorem getD_flatMap_toBytes (l : List (BitVec 16)) (i : Nat) :
    (l.flatMap (toBytes 2)).getD i 0 = (toBytes 2 (l.getD (i / 2) 0)).getD (i % 2) 0 := by
  induction l generalizing i with
  | nil =>
    obtain h | h := Nat.mod_two_eq_zero_or_one i <;> rw [h, List.getD_nil] <;> rfl
  | cons w l ih =>
    rw [List.flatMap_cons]
    match i with
    | 0 => rfl
    | 1 => rfl
    | i + 2 =>
      have hdiv : (i + 2) / 2 = i / 2 + 1 := by omega
      have hmod : (i + 2) % 2 = i % 2 := by omega
      rw [hdiv, hmod]
      exact ih i

section

variable {a : Amx}

theorem length_flatMap_toBytes (l : List (BitVec 16)) : (l.flatMap (toBytes 2)).length = 2 * l.length := by
  rw [List.length_flatMap, List.map_congr_left fun w _ => toBytes_length 2 w, List.map_const', List.sum_replicate,
    smul_eq_mul, Nat.mul_comm]

theorem length_configImage (a : Amx) : (configImage a).length = 64 := by
  unfold configImage
  split
  · exact List.length_replicate
  · simp only [List.length_append, length_flatMap_toBytes, Vector.length_toList, List.length_replicate, List.length_cons,
      List.length_nil]

theorem configImage_of_palette (h : a.palette ≠ 0) : configImage a =
    ([a.palette, a.startRow] ++ List.replicate 14 0) ++ (a.colsb.toList.flatMap (toBytes 2) ++ a.rows.toList) :=
  (if_neg h).trans (List.append_assoc ..)

theorem getD_configImage_reserved (h : a.palette ≠ 0) {i : Nat} (hlo : 2 ≤ i) (hhi : i < 16) :
    (configImage a).getD i 0 = 0 := by
  rw [configImage_of_palette h, List.getD_append _ _ _ _ hhi, List.getD_append_right _ _ _ _ hlo]
  exact List.getD_replicate _ (Nat.sub_lt_sub_right hlo hhi)

theorem getD_configImage_colsb (h : a.palette ≠ 0) {i : Nat} (hi : i < 32) :
    (configImage a).getD (16 + i) 0 = (toBytes 2 (a.colsb.toList.getD (i / 2) 0)).getD (i % 2) 0 := by
  have hlen : i < (a.colsb.toList.flatMap (toBytes 2)).length := by
    rw [length_flatMap_toBytes, Vector.length_toList]; exact hi
  rw [configImage_of_palette h, List.getD_append_right _ _ _ _ (Nat.le_add_right 16 i)]
  refine (congrArg (List.getD _ · 0) (Nat.add_sub_cancel_left 16 i)).trans ?_
  rw [List.getD_append _ _ _ _ hlen, getD_flatMap_toBytes]

theorem cfgRows_configImage (h : a.palette ≠ 0) (n : Nat) : cfgRows (configImage a) n = a.rows.toList.getD n 0 := by
  have hlen : (a.colsb.toList.flatMap (toBytes 2)).length = 32 := by
    rw [length_flatMap_toBytes, Vector.length_toList]
  have hlo : 16 ≤ 48 + n := by omega
  have hsub : 48 + n - 16 = 32 + n := by omega
  rw [cfgRows, configImage_of_palette h, List.getD_append_right _ _ _ _ hlo]
  refine (congrArg (List.getD _ · 0) hsub).trans ?_
  rw [List.getD_append_right _ _ _ _ (hlen.trans_le (Nat.le_add_right 32 n)), hlen, Nat.add_sub_cancel_left]

/-- Two bytes of a list that holds them. -/
theorem take_two_drop {b : List Byte} {i : Nat} (h : i + 2 ≤ b.length) :
    (b.drop i).take 2 = [b.getD i 0, b.getD (i + 1) 0] := by
  have h0 : i < b.length := by omega
  have h1 : i + 1 < b.length := by omega
  rw [List.drop_eq_getElem_cons h0, List.drop_eq_getElem_cons h1, List.getD_eq_getElem _ _ h0, List.getD_eq_getElem _ _ h1]
  rfl

theorem leVal_toBytes (v : BitVec 16) : leVal 16 (toBytes 2 v) = v := by
  have hlt : v.toNat < 256 ^ 2 := v.isLt
  rw [leVal, toBytes, leNat_leBytes, Nat.mod_eq_of_lt hlt, BitVec.ofNat_toNat, BitVec.setWidth_eq]

theorem cfgColsb_configImage (h : a.palette ≠ 0) {n : Nat} (hn : n < 16) :
    cfgColsb (configImage a) n = a.colsb.toList.getD n 0 := by
  have hlo := getD_configImage_colsb h (i := 2 * n) (by omega)
  have hhi := getD_configImage_colsb h (i := 2 * n + 1) (by omega)
  rw [show 2 * n / 2 = n by omega, show 2 * n % 2 = 0 by omega] at hlo
  rw [show (2 * n + 1) / 2 = n by omega, show (2 * n + 1) % 2 = 1 by omega] at hhi
  rw [cfgColsb, take_two_drop (by rw [length_configImage]; omega), hlo, Nat.add_assoc, hhi]
  exact leVal_toBytes _

theorem zeroBytes_of_forall {b : List Byte} {lo hi : Nat} (h : ∀ i, lo ≤ i → i < hi → b.getD i 0 = 0) :
    zeroBytes b lo hi = true := by
  refine List.all_eq_true.mpr fun x hx => beq_iff_eq.mpr ?_
  obtain ⟨i, hi, rfl⟩ := List.mem_iff_getElem.mp hx
  rw [List.length_take, List.length_drop] at hi
  have hin : lo + i < b.length := by omega
  rw [List.getElem_take, List.getElem_drop, ← h (lo + i) (by omega) (by omega), List.getD_eq_getElem _ _ hin]

/-- The tiles that a palette does not name are not configured, and the others are within its limits (R562, R597). -/
def Amx.Legal (a : Amx) (c : Cfg) : Prop :=
  ∀ n, n < 16 →
    if n < maxNames c a.palette then
      (a.rows.toList.getD n 0).toNat ≤ maxRows c a.palette ∧ (a.colsb.toList.getD n 0).toNat ≤ bytesPerRow c a.palette ∧
        (a.rows.toList.getD n 0 = 0 ↔ a.colsb.toList.getD n 0 = 0)
    else a.rows.toList.getD n 0 = 0 ∧ a.colsb.toList.getD n 0 = 0

theorem getD_configImage_palette (h : a.palette ≠ 0) :
    (configImage a).getD 0 0 = a.palette ∧ (configImage a).getD 1 0 = a.startRow := by
  rw [configImage_of_palette h]
  exact ⟨rfl, rfl⟩

theorem cfgOk_configImage (h : s.amx.palette ≠ 0) (hmax : s.amx.palette.toNat ≤ maxPalette s.cfg)
    (hx : xcr0SupportsPalette s s.amx.palette = true) (hl : s.amx.Legal s.cfg) : cfgOk s (configImage s.amx) = true := by
  have hnames : maxNames s.cfg s.amx.palette ≤ 16 := min_le_left _ _
  have hreserved : zeroBytes (configImage s.amx) 2 16 = true :=
    zeroBytes_of_forall fun i hlo hhi => getD_configImage_reserved h hlo hhi
  have hcols : zeroBytes (configImage s.amx) (16 + 2 * maxNames s.cfg s.amx.palette) 48 = true := by
    refine zeroBytes_of_forall fun i hlo hhi => ?_
    obtain ⟨j, rfl⟩ := Nat.exists_eq_add_of_le (show 16 ≤ i by omega)
    have hunused := hl (j / 2) (by omega)
    rw [if_neg (by omega)] at hunused
    rw [getD_configImage_colsb h (by omega), hunused.2]
    obtain hm | hm := Nat.mod_two_eq_zero_or_one j <;> rw [hm] <;> rfl
  have hrows : zeroBytes (configImage s.amx) (48 + maxNames s.cfg s.amx.palette) 64 = true := by
    refine zeroBytes_of_forall fun i hlo hhi => ?_
    obtain ⟨j, rfl⟩ := Nat.exists_eq_add_of_le (show 48 ≤ i by omega)
    have hunused := hl j (by omega)
    rw [if_neg (by omega)] at hunused
    exact (cfgRows_configImage h j).trans hunused.1
  have htiles : (List.range (maxNames s.cfg s.amx.palette)).all
      (cfgTileOk s.cfg s.amx.palette (configImage s.amx)) = true := by
    refine List.all_eq_true.mpr fun n hn => ?_
    have hlt := List.mem_range.mp hn
    have hused := hl n (by omega)
    rw [if_pos hlt] at hused
    obtain ⟨hr, hc, hz⟩ := hused
    have hsame : (s.amx.rows.toList.getD n 0 == 0) = (s.amx.colsb.toList.getD n 0 == 0) := by
      rw [Bool.eq_iff_iff, beq_iff_eq, beq_iff_eq]
      exact hz
    simp only [cfgTileOk, cfgRows_configImage h, cfgColsb_configImage h (hlt.trans_le hnames), hr, hc, decide_true,
      Bool.true_and, hsame, beq_self_eq_true]
  simp only [cfgOk, (getD_configImage_palette h).1, hmax, hx, hreserved, hcols, hrows, htiles, decide_true, Bool.and_self,
    Bool.or_true]

/-- An image gives back its configuration. -/
theorem loadConfig_configImage (h : s.amx.palette ≠ 0) :
    (s.loadConfig (configImage s.amx)).amx = { s.amx with tiles := Vector.replicate 16 (Vector.replicate 16 0) } := by
  obtain ⟨hp, hs⟩ := getD_configImage_palette h
  have hrows : perTile (cfgRows (configImage s.amx)) = s.amx.rows := by
    refine Vector.ext fun n hn => ?_
    simp [perTile, cfgRows_configImage h]
  have hcols : perTile (cfgColsb (configImage s.amx)) = s.amx.colsb := by
    refine Vector.ext fun n hn => ?_
    simp [perTile, cfgColsb_configImage h hn, hn]
  rw [State.loadConfig_of_palette (hp.trans_ne h), hp, hs, hrows, hcols]
  rfl

theorem storeTileConfig_run {m : MemOp} (hr : Claims.amxReady (fun _ => true) s)
    (ha : accessBytes s (segOf m) (s.ea m) 64 .write false = .ok as) :
    storeTileConfig m s = .ok () ((s.raoForce as).store as (configImage s.amx)) := by
  unfold storeTileConfig
  simp only [Act.bind_run, amxBegin_of_ready hr, Act.get_run, storeOp_run, length_configImage, ha]

end
end Sys2Proof.Machine

namespace Sys2Proof.Claims

open Sys2Proof.Machine

/-- Settles O41: one load, then the checks of the image alone decide. -/
theorem tileConfigLoads : Obligations.TileConfigLoads := by
  intro m s as hr ha
  have hrun := loadTileConfig_run hr ha
  generalize readBytes s.seen as = b at hrun ⊢
  refine ⟨fun hok => ?_, fun hok => ?_⟩
  · rw [hok, if_pos rfl] at hrun
    have hwork : AmxWork s ((s.raoForce as).loadConfig b) := by
      rw [State.loadConfig_eq]
      exact (AmxWork.raoForce s as).trans (AmxWork.update _)
    have hload : loadsOnly s ((s.raoForce as).loadConfig b).advance := by
      rw [State.loadConfig_eq]
      exact s.loadsOnly_raoForce as
    have hp := (s.raoForce as).palette_loadConfig b
    have hs := (s.raoForce as).startRow_loadConfig b
    rw [← hp] at hs
    refine ⟨_, settle_ok hrun, hload, hwork.amxOnly_advance, hp, hs, fun q hq => ?_,
      fun q r => (s.raoForce as).tileRow_loadConfig b q r⟩
    have hshape := (s.raoForce as).tileShape_loadConfig b hq
    rw [← hp] at hshape
    exact hshape
  · rw [hok, if_neg nofun] at hrun
    have h64 : (s.raoForce as).is64 = true := by
      obtain ⟨he, -⟩ := hr
      rw [(AmxWork.raoForce s as).is64_eq]
      simp only [amxEnabled, Bool.and_eq_true] at he
      exact he.1.1.1
    rw [gpTrap_of_is64 h64] at hrun
    refine ⟨_, settle_error hrun, ?_, s.raoForce_amx as, s.sameMemory_raoForce as⟩
    exact congrArg (fun r => some (Delivered.exception 13 (some 0) r)) (s.raoForce_rip as)

/-- Settles O42: one store of the image, whose bytes give every field back. -/
theorem tileConfigStores : Obligations.TileConfigStores := by
  refine ⟨fun m s as hr ha hd => ?_, fun s hp hmax hx hl => ⟨cfgOk_configImage hp hmax hx fun n hn => ?_,
    loadConfig_configImage hp⟩⟩
  · have hlen : (configImage s.amx).length = as.length := (length_configImage _).trans (accessBytes_length ha).symm
    have hwork : AmxWork s ((s.raoForce as).store as (configImage s.amx)) := (AmxWork.raoForce s as).trans rfl
    exact ⟨_, settle_ok (storeTileConfig_run hr ha), hwork.amxOnly_advance, s.raoForce_amx as,
      s.readBytes_seen_store hd hlen, fun a ha => s.readByte_seen_store _ ha⟩
  · have hq := hl ⟨n, by omega⟩ hn
    have hrows : s.tileRows ⟨n, by omega⟩ = (s.amx.rows.toList.getD n 0).toNat := by
      simp [State.tileRows, tileIx, Nat.mod_eq_of_lt hn, hn]
    have hcols : s.tileColsb ⟨n, by omega⟩ = (s.amx.colsb.toList.getD n 0).toNat := by
      simp [State.tileColsb, tileIx, Nat.mod_eq_of_lt hn, hn]
    have hzero {w : Nat} (v : BitVec w) : v.toNat = 0 ↔ v = 0 := BitVec.toNat_inj (y := 0#w)
    simpa only [hrows, hcols, hzero] using hq

end Sys2Proof.Claims

/-! ## Strided tile rows in memory -/

namespace Sys2Proof.Machine

variable {s u v : State} {as : List Nat} {m : MemOp} {t : Tmm} {nbytes : Nat} {phys : Nat → List Nat}

/-! ### Work on some tiles -/

/-- TILECFG but start_row, and every tile that is none of `ts`, are the same. -/
def KeepsTilesBut (ts : List Tmm) (s u : State) : Prop :=
  u.amx.palette = s.amx.palette ∧ u.amx.rows = s.amx.rows ∧ u.amx.colsb = s.amx.colsb ∧
    ∀ q : Tmm, (∀ t ∈ ts, tileIx q ≠ tileIx t) → u.tile q = s.tile q

namespace KeepsTilesBut

variable {ts : List Tmm}

theorem refl (s : State) : KeepsTilesBut ts s s := ⟨rfl, rfl, rfl, fun _ _ => rfl⟩

theorem trans (hu : KeepsTilesBut ts s u) (hv : KeepsTilesBut ts u v) : KeepsTilesBut ts s v := by
  obtain ⟨hp, hr, hc, ht⟩ := hu
  obtain ⟨hp', hr', hc', ht'⟩ := hv
  exact ⟨hp'.trans hp, hr'.trans hr, hc'.trans hc, fun q hq => (ht' q hq).trans (ht q hq)⟩

theorem setTile (s : State) (x : Vector W512 16) (h : t ∈ ts) : KeepsTilesBut ts s (s.setTile t x) :=
  ⟨rfl, rfl, rfl, fun q hq => (s.tile_setTile t q x).trans (if_neg (hq t h))⟩

theorem setStartRow (s : State) (n : Nat) : KeepsTilesBut ts s (s.setStartRow n) := ⟨rfl, rfl, rfl, fun _ _ => rfl⟩

theorem of_amx_eq (h : u.amx = s.amx) : KeepsTilesBut ts s u := by
  have htile (q : Tmm) : u.tile q = s.tile q := by rw [State.tile, h]; rfl
  rw [KeepsTilesBut, h]
  exact ⟨rfl, rfl, rfl, fun q _ => htile q⟩

theorem tileColsb_eq (h : KeepsTilesBut ts s u) (q : Tmm) : u.tileColsb q = s.tileColsb q := by
  obtain ⟨-, -, hc, -⟩ := h
  rw [State.tileColsb, hc]; rfl

end KeepsTilesBut

theorem State.tileRow_congr (h : u.amx = s.amx) (q : Tmm) (r : Nat) : u.tileRow q r = s.tileRow q r := by
  rw [State.tileRow, State.tile, h]; rfl

/-! ### Reading rows (R568, R613) -/

/-- `u` is reached from `s` by loads and changes of AMX state. -/
def LoadWork (s u : State) : Prop := AmxWork s u ∧ loadsOnly s u

namespace LoadWork

theorem refl (s : State) : LoadWork s s := ⟨.refl s, fun _ => rfl, fun h => ⟨rfl, h, rfl⟩⟩

theorem trans (hu : LoadWork s u) (hv : LoadWork u v) : LoadWork s v :=
  ⟨hu.1.trans hv.1, loadsOnly_trans hu.2 hv.2⟩

theorem update (a : Amx) : LoadWork s { s with amx := a } := ⟨.update a, (refl s).2⟩

theorem raoForce (s : State) (fp : List Nat) : LoadWork s (s.raoForce fp) := ⟨.raoForce s fp, s.loadsOnly_raoForce fp⟩

end LoadWork

/-- Reading a row reads memory as the processor saw it before the instruction. -/
theorem readRow_completes {i : Nat} (h : LoadWork s u)
    (ha : accessBytes s (segOf m) (s.rowAddr m i) nbytes .read false = .ok as) :
    readRow m i nbytes u = .ok (ofBytes (readBytes s.seen as)) ((u.setStartRow i).raoForce as) := by
  have hwork : LoadWork s (u.setStartRow i) := h.trans (.update _)
  obtain ⟨hamx, hsame, -⟩ := hwork
  have hread : readBytes ((u.setStartRow i).raoForce as).mem as = readBytes s.seen as :=
    ((u.setStartRow i).readBytes_raoForce as).trans (readBytes_congr fun a _ => hsame a)
  rw [readRow_run, hamx.accessBytes_eq, hamx.rowAddr_eq, ha]
  exact congrArg (fun b => EStateM.Result.ok (ofBytes b) ((u.setStartRow i).raoForce as)) hread

theorem loadWork_readRow (u : State) (i : Nat) (as : List Nat) : LoadWork u ((u.setStartRow i).raoForce as) :=
  (LoadWork.update _).trans (.raoForce _ as)

theorem keepsTilesBut_readRow (ts : List Tmm) (u : State) (i : Nat) (as : List Nat) :
    KeepsTilesBut ts u ((u.setStartRow i).raoForce as) :=
  (KeepsTilesBut.setStartRow u i).trans (.of_amx_eq (State.raoForce_amx ..))

/-! ### Tile loads (R601, R613) -/

theorem State.tileRow_writeRow (s : State) (t : Tmm) (i : Nat) (x : W512) (n : Nat) {r : Nat} (hr : r < 16) :
    (s.writeRow t i x n).tileRow t r = if r = i then lowBits (8 * n) x else s.tileRow t r := by
  rw [State.writeRow, State.tileRow_setTile_same, rowAt_setIfInBounds hr]
  rfl

theorem State.tileRow_zeroUpperRows (s : State) (t : Tmm) (n : Nat) {r : Nat} (hr : r < 16) :
    (s.zeroUpperRows t n).tileRow t r = if n ≤ r then 0 else s.tileRow t r := by
  rw [State.zeroUpperRows, State.tileRow_setTile_same, rowAt_zeroFrom _ hr]
  rfl

theorem loadRows_completes {n i : Nat} (h : LoadWork s u) (ha : ∀ j, i ≤ j → j < i + n →
      accessBytes s (segOf m) (s.rowAddr m j) nbytes .read false = .ok (phys j)) :
    ∃ v, loadRows t m nbytes n i u = .ok () v ∧ LoadWork s v ∧ KeepsTilesBut [t] u v ∧
      ∀ r, r < 16 → v.tileRow t r =
        if i ≤ r ∧ r < i + n then lowBits (8 * nbytes) (ofBytes (readBytes s.seen (phys r))) else u.tileRow t r := by
  induction n generalizing i u with
  | zero =>
    refine ⟨u, rfl, h, .refl u, fun r _ => (if_neg ?_).symm⟩
    omega
  | succ n ih =>
    have hread := readRow_completes h (ha i (le_refl i) (by omega))
    generalize hw : (u.setStartRow i).raoForce (phys i) = w at hread
    have hwork : LoadWork u w := hw ▸ loadWork_readRow u i (phys i)
    have hkeeps : KeepsTilesBut [t] u w := hw ▸ keepsTilesBut_readRow [t] u i (phys i)
    have hrow (r : Nat) : w.tileRow t r = u.tileRow t r :=
      hw ▸ (State.tileRow_congr (State.raoForce_amx ..) t r).trans (u.tileRow_setStartRow i t r)
    obtain ⟨v, hrun, hv, hkv, hrows⟩ := ih (i := i + 1)
      ((h.trans hwork).trans (.update (w.writeRow t i (ofBytes (readBytes s.seen (phys i))) nbytes).amx))
      fun j hlo hhi => ha j (by omega) (by omega)
    refine ⟨v, ?_, hv, (hkeeps.trans (.setTile w _ (.head _))).trans hkv, fun r hr => ?_⟩
    · rw [loadRows, Act.bind_run, hread]
      exact hrun
    · refine (hrows r hr).trans ?_
      by_cases hri : r = i
      · subst hri
        have hlater : ¬ (r + 1 ≤ r ∧ r < r + 1 + n) := by omega
        have hhere : r ≤ r ∧ r < r + (n + 1) := by omega
        rw [if_neg hlater, if_pos hhere]
        exact (w.tileRow_writeRow t r _ nbytes hr).trans (if_pos rfl)
      · have hrange : i + 1 ≤ r ∧ r < i + 1 + n ↔ i ≤ r ∧ r < i + (n + 1) := by omega
        exact if_congr hrange rfl (((w.tileRow_writeRow t i _ nbytes hr).trans (if_neg hri)).trans (hrow r))

/-- The end of a load: start_row is cleared and the instruction ends. -/
theorem LoadWork.completes {ts : List Tmm} (h : LoadWork s u) (hk : KeepsTilesBut ts s u) :
    let t := (u.setStartRow 0).advance
    loadsOnly s t ∧ Claims.amxOnly s t ∧ t.amx.palette = s.amx.palette ∧ t.amx.rows = s.amx.rows ∧
      t.amx.colsb = s.amx.colsb ∧ t.amx.startRow = 0 ∧ ∀ q : Tmm, (∀ t ∈ ts, tileIx q ≠ tileIx t) → (u.tile q) = s.tile q := by
  obtain ⟨hp, hr, hc, ht⟩ := hk
  have hamx : AmxWork s (u.setStartRow 0) := h.1.trans (.update _)
  exact ⟨h.2, hamx.amxOnly_advance, hp, hr, hc, rfl, ht⟩

theorem tileLoad_completes {ok : Cfg → Bool} (hr : Claims.amxReady ok s) (hd : Claims.tileDataOn s)
    (hc : tileMemOk s t = true) (ha : ∀ j, s.amx.startRow.toNat ≤ j → j < s.tileRows t →
      accessBytes s (segOf m) (s.rowAddr m j) (s.tileColsb t) .read false = .ok (phys j)) :
    ∃ v, tileLoad ok t m s = .ok () (v.setStartRow 0) ∧ LoadWork s v ∧ KeepsTilesBut [t] s v ∧
      ∀ r, r < 16 → v.tileRow t r =
        if r < s.amx.startRow.toNat then s.tileRow t r
        else if r < s.tileRows t then lowBits (8 * s.tileColsb t) (ofBytes (readBytes s.seen (phys r)))
        else 0 := by
  obtain ⟨-, -, -, hlt⟩ := tileMemOk_iff.mp hc
  have hend : s.amx.startRow.toNat + (s.tileRows t - s.amx.startRow.toNat) = s.tileRows t := by omega
  have hzero : LoadWork s (s.zeroUpperRows t s.amx.startRow.toNat) := .update _
  obtain ⟨v, hrun, hv, hk, hrows⟩ := loadRows_completes (t := t) (n := s.tileRows t - s.amx.startRow.toNat) hzero
    fun j hlo hhi => ha j hlo (by omega)
  refine ⟨v, ?_, hv, (KeepsTilesBut.setTile s _ (.head _)).trans hk, fun r hr => ?_⟩
  · refine (tileAction_run (c := fun s => tileMemOk s t) hr hd hc).trans ?_
    rw [Act.bind_run, Act.modify_run]
    dsimp only
    rw [Act.bind_run, hrun]
    rfl
  · rw [hrows r hr, s.tileRow_zeroUpperRows t _ hr, hend]
    by_cases h : r < s.amx.startRow.toNat
    · have hlo : ¬ s.amx.startRow.toNat ≤ r := Nat.not_le.mpr h
      simp only [h, hlo, false_and, if_true, if_false]
    · have hlo : s.amx.startRow.toNat ≤ r := Nat.le_of_not_lt h
      simp only [h, hlo, true_and, if_true, if_false]

/-! ### Tile stores (R602) -/

theorem SameBytes.writeBytes {x y : Store Byte} (h : SameBytes x y) {bs : List Byte} (hl : as.length ≤ bs.length) :
    SameBytes (writeBytes x as bs) (writeBytes y as bs) := by
  intro b
  by_cases hb : b ∈ as
  · exact readByte_writeBytes_of_mem x y hl hb
  · rw [readByte_writeBytes_frame x as bs b hb, readByte_writeBytes_frame y as bs b hb, h b]

/-- A store is seen as if it had written the memory that the processor saw before it. -/
theorem State.sameBytes_seen_store (s : State) {bs : List Byte} (hl : as.length ≤ bs.length) :
    SameBytes ((s.raoForce as).store as bs).seen (Machine.writeBytes s.seen as bs) := by
  intro b
  by_cases hb : b ∈ as
  · exact (readByte_raoPerformAll_frame _ (s.notMem_raoForce_rao hb)).trans (readByte_writeBytes_of_mem _ _ hl hb)
  · exact (s.readByte_seen_store bs hb).trans (readByte_writeBytes_frame _ as bs b hb).symm

/-- Memory `x` with rows of tile `t` written, row `j` to the bytes `phys j`. -/
def writeRows (s : State) (t : Tmm) (phys : Nat → List Nat) (x : Store Byte) (rows : List Nat) : Store Byte :=
  rows.foldl (fun u j => writeBytes u (phys j) (toBytes (s.tileColsb t) (s.tileRow t j))) x

theorem readByte_writeRows_frame (s : State) (t : Tmm) (x : Store Byte) {rows : List Nat} {a : Nat}
    (h : ∀ j ∈ rows, a ∉ phys j) : readByte (writeRows s t phys x rows) a = readByte x a := by
  induction rows generalizing x with
  | nil => rfl
  | cons j rows ih =>
    obtain ⟨hj, hrows⟩ := List.forall_mem_cons.mp h
    exact (ih _ hrows).trans (readByte_writeBytes_frame x (phys j) _ a hj)

theorem SameBytes.writeRows {x y : Store Byte} (h : SameBytes x y) (s : State) (t : Tmm) {rows : List Nat}
    (hl : ∀ j ∈ rows, (phys j).length = s.tileColsb t) :
    SameBytes (writeRows s t phys x rows) (writeRows s t phys y rows) := by
  induction rows generalizing x y with
  | nil => exact h
  | cons j rows ih =>
    obtain ⟨hj, hrows⟩ := List.forall_mem_cons.mp hl
    exact ih (h.writeBytes (hj.trans (toBytes_length _ _).symm).le) hrows

/-- `u` is reached from `s` by stores and changes of start_row. -/
def StoreWork (s u : State) : Prop :=
  u = { s with amx := { s.amx with startRow := u.amx.startRow }, mem := u.mem, rao := u.rao, monitor := u.monitor }

namespace StoreWork

theorem trans (hu : StoreWork s u) (hv : StoreWork u v) : StoreWork s v := by
  unfold StoreWork at hv; rw [hv, hu]; rfl

theorem setStartRow (s : State) (n : Nat) : StoreWork s (s.setStartRow n) := rfl

theorem store (s : State) (bs : List Byte) : StoreWork s ((s.raoForce as).store as bs) := by
  unfold StoreWork State.raoForce; split <;> rfl

theorem amxWork (h : StoreWork s u) : AmxWork s u := by
  unfold AmxWork; rw [h]

theorem tileRow_eq (h : StoreWork s u) (q : Tmm) (r : Nat) : u.tileRow q r = s.tileRow q r := by rw [h]; rfl

theorem amx_eq (h : StoreWork s u) : u.amx = { s.amx with startRow := u.amx.startRow } := congrArg State.amx h

end StoreWork

theorem storeRows_completes {n i : Nat} (h : StoreWork s u) (ha : ∀ j, i ≤ j → j < i + n →
      accessBytes s (segOf m) (s.rowAddr m j) (s.tileColsb t) .write false = .ok (phys j)) :
    ∃ v, storeRows t m (s.tileColsb t) n i u = .ok () v ∧ StoreWork s v ∧
      SameBytes v.seen (writeRows s t phys u.seen (List.range' i n)) := by
  induction n generalizing i u with
  | zero => exact ⟨u, rfl, h, fun _ => rfl⟩
  | succ n ih =>
    have hw : StoreWork s (u.setStartRow i) := h.trans (.setStartRow u i)
    have hi := ha i (le_refl i) (by omega)
    have hlen {j : Nat} (hlo : i ≤ j) (hhi : j < i + (n + 1)) : (phys j).length = s.tileColsb t :=
      accessBytes_length (ha j hlo hhi)
    have hstore : memWrite (segOf m) ((u.setStartRow i).rowAddr m i) (toBytes (s.tileColsb t) ((u.setStartRow i).tileRow t i))
        false (u.setStartRow i) = .ok () (((u.setStartRow i).raoForce (phys i)).store (phys i)
          (toBytes (s.tileColsb t) (s.tileRow t i))) := by
      rw [memWrite_run, toBytes_length, hw.amxWork.accessBytes_eq, hw.amxWork.rowAddr_eq, hi, hw.tileRow_eq]
    have hseen := (u.setStartRow i).sameBytes_seen_store (as := phys i) (bs := toBytes (s.tileColsb t) (s.tileRow t i))
      ((hlen (le_refl i) (by omega)).trans (toBytes_length _ _).symm).le
    obtain ⟨v, hrun, hv, hmem⟩ := ih (i := i + 1) (hw.trans (.store (as := phys i) _ (toBytes (s.tileColsb t) (s.tileRow t i))))
      fun j hlo hhi => ha j (by omega) (by omega)
    refine ⟨v, ?_, hv, fun a => (hmem a).trans ?_⟩
    · rw [storeRows, Act.bind_run, Act.modify_run]
      dsimp only
      rw [Act.bind_run, Act.get_run]
      dsimp only
      rw [Act.bind_run, hstore]
      exact hrun
    · refine hseen.writeRows (phys := phys) s t (fun j hj => hlen ?_ ?_) a <;> have hj' := List.mem_range'_1.mp hj <;> omega

end Sys2Proof.Machine

namespace Sys2Proof.Claims

open Sys2Proof.Machine

/-- Settles O44: the rows from start_row on are zeroed, then loaded one by one. -/
theorem tileLoads : Obligations.TileLoads := by
  intro f hf c m s phys hr hd hc ha
  obtain ⟨v, hrun, hv, hk, hrows⟩ := tileLoad_completes hr hd hc ha
  rw [exec_tileLoad f hf]
  obtain ⟨hload, hamx, hp, hrw, hcb, hs, ht⟩ := hv.completes hk
  exact ⟨_, settle_ok hrun, hload, hamx, ⟨hp, hrw, hcb, hs, fun q hq => ht q (by simpa using hq)⟩, hrows⟩

/-- Settles O45: each row is one store, seen as if it wrote the memory that was seen before it. -/
theorem tileStores : Obligations.TileStores := by
  intro c m s phys hr hd hc ha
  obtain ⟨-, -, -, hlt⟩ := tileMemOk_iff.mp hc
  obtain ⟨v, hrun, hv, hmem⟩ := storeRows_completes (n := s.tileRows c - s.amx.startRow.toNat) (u := s) rfl
    fun j hlo hhi => ha j hlo (by omega)
  have hexec : tileStore m c s = .ok () (v.setStartRow 0) := by
    refine (tileAction_run (c := fun s => tileMemOk s c) hr hd hc).trans ?_
    rw [Act.bind_run, hrun]
    rfl
  have hend : StoreWork s (v.setStartRow 0) := hv.trans (.setStartRow v 0)
  refine ⟨_, settle_ok hexec, hend.amxWork.amxOnly_advance, hend.amx_eq, hmem, fun a hout => ?_⟩
  refine (hmem a).trans (readByte_writeRows_frame s c s.seen fun j hj => ?_)
  have hrange := List.mem_range'_1.mp hj
  exact hout j hrange.1 (by omega)

end Sys2Proof.Claims

/-! ## Pair loads -/

namespace Sys2Proof.Machine

variable {s u v : State} {m : MemOp} {t a b : Tmm} {phys : Nat → List Nat}

/-! ### Words of a row -/

/-- A word of a vector is a word of its dword. -/
theorem wordAt_eq (x : W512) (d : Nat) {w : Nat} (hw : w < 2) :
    wordAt x (2 * d + w) = (dwordAt x d).extractLsb' (16 * w) 16 := by
  refine BitVec.eq_of_getLsbD_eq fun i hi => ?_
  have hpos : 16 * (2 * d + w) + i = 32 * d + (16 * w + i) := by omega
  have hin : 16 * w + i < 32 := by omega
  simp only [wordAt, dwordAt, BitVec.getLsbD_extractLsb', hi, hin, hpos, decide_true, Bool.true_and]

/-- Vectors with the same words are the same. -/
theorem eq_of_wordAt {x y : W512} (h : ∀ d w, d < 16 → w < 2 → wordAt x (2 * d + w) = wordAt y (2 * d + w)) : x = y := by
  refine BitVec.eq_of_getLsbD_eq fun i hi => ?_
  have hbit := congrArg (BitVec.getLsbD · (i % 16)) (h (i / 32) (i / 16 % 2) (by omega) (by omega))
  have hpos : 16 * (2 * (i / 32) + i / 16 % 2) + i % 16 = i := by omega
  have hin : i % 16 < 16 := by omega
  simpa only [wordAt, BitVec.getLsbD_extractLsb', hin, hpos, decide_true, Bool.true_and] using hbit

theorem getLsbD_wordMasks : ∀ j < 32, (0xFFFF0000 : W32).getLsbD j = decide (16 ≤ j) ∧
    (0xFFFF : W32).getLsbD j = decide (j < 16) := by
  decide

theorem setWord_low (x : W32) (y : BitVec 16) : setWord x 0 y = (x &&& (0xFFFF0000 : W32)) ||| y.setWidth 32 := rfl

theorem setWord_high (x : W32) (y : BitVec 16) : setWord x 1 y = (x &&& (0xFFFF : W32)) ||| (y.setWidth 32 <<< 16) := rfl

/-- Bit `j` of a dword with a word replaced: of the new word or of the old dword. -/
theorem getLsbD_setWord (x : W32) {k j : Nat} (y : BitVec 16) (hk : k < 2) (hj : j < 32) :
    (setWord x k y).getLsbD j = if j / 16 = k then y.getLsbD (j % 16) else x.getLsbD j := by
  obtain ⟨hhigh, hlow⟩ := getLsbD_wordMasks j hj
  obtain rfl | rfl : k = 0 ∨ k = 1 := by omega
  · rw [setWord_low, BitVec.getLsbD_or, BitVec.getLsbD_and, BitVec.getLsbD_setWidth, hhigh, decide_eq_true hj, Bool.true_and]
    by_cases h : j < 16
    · rw [if_pos (by omega), Nat.mod_eq_of_lt h]
      simp [h]
    · rw [if_neg (by omega), BitVec.getLsbD_of_ge y j (by omega)]
      simp [Nat.le_of_not_lt h]
  · rw [setWord_high, BitVec.getLsbD_or, BitVec.getLsbD_and, BitVec.getLsbD_shiftLeft, BitVec.getLsbD_setWidth, hlow,
      decide_eq_true hj, Bool.true_and]
    by_cases h : j < 16
    · rw [if_neg (by omega)]
      simp [h]
    · rw [if_pos (by omega), show j % 16 = j - 16 by omega]
      simp [h, show j - 16 < 32 by omega]

theorem extractLsb'_setWord (x : W32) {k w : Nat} (y : BitVec 16) (hk : k < 2) (hw : w < 2) :
    (setWord x k y).extractLsb' (16 * w) 16 = if w = k then y else x.extractLsb' (16 * w) 16 := by
  refine BitVec.eq_of_getLsbD_eq fun i hi => ?_
  have hdiv : (16 * w + i) / 16 = w := by omega
  have hmod : (16 * w + i) % 16 = i := by omega
  rw [BitVec.getLsbD_extractLsb', decide_eq_true hi, Bool.true_and, getLsbD_setWord x y hk (by omega), hdiv, hmod]
  split
  · rfl
  · rw [BitVec.getLsbD_extractLsb', decide_eq_true hi, Bool.true_and]

theorem wordAt_zero (j : Nat) : wordAt 0 j = 0 := BitVec.extractLsb'_zero

theorem dwordAt_lowBits (x : W512) {n d : Nat} (hd : d < 16) :
    dwordAt (lowBits (32 * n) x) d = if d < n then dwordAt x d else 0 := by
  refine BitVec.eq_of_getLsbD_eq fun i hi => ?_
  have hin : 32 * d + i < 512 := by omega
  have hlt : 32 * d + i < 32 * n ↔ d < n := by omega
  rw [dwordAt, BitVec.getLsbD_extractLsb', getLsbD_lowBits x hin, decide_eq_true hi, Bool.true_and]
  simp only [hlt]
  by_cases h : d < n
  · simp [h, dwordAt, hi]
  · simp [h]

/-- A word of a row with word `k` of its first `n` dwords replaced, cut to these dwords (R570, R604). -/
theorem wordAt_interleave (x : W512) {n nbytes k d w : Nat} (f : Nat → BitVec 16) (hn : nbytes = 4 * n) (hk : k < 2)
    (hd : d < 16) (hw : w < 2) :
    wordAt (lowBits (8 * nbytes) (interleave x n k f)) (2 * d + w) =
      if d < n then (if w = k then f d else wordAt x (2 * d + w)) else 0 := by
  have hbits : 8 * nbytes = 32 * n := by omega
  rw [wordAt_eq _ d hw, hbits, dwordAt_lowBits _ hd, interleave, dwordAt_ofDwords_of_lt _ hd, wordAt_eq x d hw]
  split
  · exact extractLsb'_setWord _ _ hk hw
  · exact BitVec.extractLsb'_zero

/-! ### One memory row (R604) -/

/-- Word `w` of dword `d` in row `r` of a tile. -/
def State.tileWord (s : State) (t : Tmm) (r d w : Nat) : BitVec 16 := wordAt (s.tileRow t r) (2 * d + w)

/-- From row `n` on, the bytes of a tile past its configured width are zero. -/
def PaddedFrom (s : State) (t : Tmm) (n : Nat) : Prop :=
  ∀ r d w, n ≤ r → r < 16 → s.tileColsb t / 4 ≤ d → d < 16 → w < 2 → s.tileWord t r d w = 0

/-- One tile of a pair takes its share of memory row `i` into word `i % 2` of its row `i / 2`. -/
theorem State.tileWord_pairRow {i base : Nat} (x : W512) (h4 : s.tileColsb t % 4 = 0) (hp : PaddedFrom s t (i / 2))
    {r d w : Nat} (hr : r < 16) (hd : d < 16) (hw : w < 2) :
    (s.pairRow t i base x).tileWord t r d w =
      if 2 * r + w = i ∧ d < s.tileColsb t / 4 then wordAt x (base + d) else s.tileWord t r d w := by
  have hcols : s.tileColsb t = 4 * (s.tileColsb t / 4) := by omega
  have hi2 : i % 2 < 2 := Nat.mod_lt _ Nat.two_pos
  unfold State.pairRow
  by_cases hpos : 0 < s.tileColsb t
  · rw [if_pos hpos, State.tileWord, State.tileRow_writeRow _ _ _ _ _ hr]
    by_cases hri : r = i / 2
    · subst hri
      rw [if_pos rfl, wordAt_interleave _ _ hcols hi2 hd hw]
      by_cases hin : d < s.tileColsb t / 4
      · have hword : w = i % 2 ↔ 2 * (i / 2) + w = i := by omega
        simp only [hin, hword, and_true, if_true]
        rfl
      · rw [if_neg hin, if_neg fun h => hin h.2]
        exact (hp _ d w (le_refl _) hr (Nat.le_of_not_lt hin) hd hw).symm
    · have hother : ¬ (2 * r + w = i ∧ d < s.tileColsb t / 4) := by omega
      rw [if_neg hri, if_neg hother]
      rfl
  · have hother : ¬ (2 * r + w = i ∧ d < s.tileColsb t / 4) := by omega
    rw [if_neg hpos, if_neg hother]

theorem keepsTilesBut_pairRow {ts : List Tmm} (s : State) (ht : t ∈ ts) (i base : Nat) (x : W512) :
    KeepsTilesBut ts s (s.pairRow t i base x) := by
  unfold State.pairRow
  split
  · exact .setTile s _ ht
  · exact .refl s

theorem State.pairRow_eq (s : State) (t : Tmm) (i base : Nat) (x : W512) :
    s.pairRow t i base x = { s with amx := (s.pairRow t i base x).amx } := by
  unfold State.pairRow; split <;> rfl

theorem State.tileWord_congr (h : u.tile t = s.tile t) (r d w : Nat) : u.tileWord t r d w = s.tileWord t r d w := by
  rw [State.tileWord, State.tileRow, h]; rfl

theorem tileIx_pair (t : Tmm) : tileIx (pairBase t) ≠ tileIx (pairNext t) := by
  intro h
  have hval : t.val / 2 * 2 % 16 = (t.val / 2 * 2 + 1) % 16 := congrArg Fin.val h
  omega

/-- Both tiles of a pair take memory row `i`. -/
def State.pairMerge (s : State) (a b : Tmm) (i base : Nat) (x : W512) : State := (s.pairRow a i 0 x).pairRow b i base x

/-- `t` is a tile of the pair, and its share of a memory row begins at word `base` (R603). -/
def PairShare (s : State) (a b t : Tmm) (base : Nat) : Prop := (t = a ∧ base = 0) ∨ (t = b ∧ base = s.tileColsb a / 4)

theorem keepsTilesBut_pairMerge (s : State) (a b : Tmm) (i base : Nat) (x : W512) :
    KeepsTilesBut [a, b] s (s.pairMerge a b i base x) :=
  (keepsTilesBut_pairRow s (.head _) i 0 x).trans (keepsTilesBut_pairRow _ (.tail _ (.head _)) i base x)

theorem State.pairMerge_eq (s : State) (a b : Tmm) (i base : Nat) (x : W512) :
    s.pairMerge a b i base x = { s with amx := (s.pairMerge a b i base x).amx } := by
  unfold State.pairMerge
  rw [State.pairRow_eq, State.pairRow_eq]

theorem PaddedFrom.congr {n : Nat} (h : PaddedFrom s t n) (hc : u.tileColsb t = s.tileColsb t) (ht : u.tile t = s.tile t) :
    PaddedFrom u t n := by
  intro r d w hn hr hcol hd hw
  rw [State.tileWord_congr ht]
  exact h r d w hn hr (hc ▸ hcol) hd hw

theorem State.tileWord_pairMerge (hab : tileIx a ≠ tileIx b) {i base : Nat} {x : W512}
    (ht : PairShare s a b t base) (h4 : s.tileColsb t % 4 = 0) (hp : PaddedFrom s t (i / 2))
    {r d w : Nat} (hr : r < 16) (hd : d < 16) (hw : w < 2) :
    (s.pairMerge a b i (s.tileColsb a / 4) x).tileWord t r d w =
      if 2 * r + w = i ∧ d < s.tileColsb t / 4 then wordAt x (base + d) else s.tileWord t r d w := by
  obtain ⟨rfl, rfl⟩ | ⟨rfl, rfl⟩ := ht
  · obtain ⟨-, -, -, hother⟩ := keepsTilesBut_pairRow (ts := [b]) (s.pairRow t i 0 x) (.head _) i (s.tileColsb t / 4) x
    rw [State.pairMerge, State.tileWord_congr (hother t (by simpa using hab))]
    exact s.tileWord_pairRow x h4 hp hr hd hw
  · have hfirst := keepsTilesBut_pairRow (ts := [a]) s (.head _) i 0 x
    have hcols := hfirst.tileColsb_eq t
    obtain ⟨-, -, -, hother⟩ := hfirst
    have htile := hother t (by simpa using hab.symm)
    rw [State.pairMerge, State.tileWord_pairRow x (hcols ▸ h4) (hp.congr hcols htile) hr hd hw, hcols,
      State.tileWord_congr htile]

/-! ### The rows of a pair load (R604) -/

/-- Memory row `j` of a pair load: the bytes `phys j`, or zeros from `limit` on. -/
def pairSource (s : State) (phys : Nat → List Nat) (limit j : Nat) : W512 :=
  if j < limit then ofBytes (readBytes s.seen (phys j)) else 0

theorem wordAt_pairSource (s : State) (phys : Nat → List Nat) (limit j d : Nat) :
    wordAt (pairSource s phys limit j) d = if j < limit then wordAt (ofBytes (readBytes s.seen (phys j))) d else 0 := by
  unfold pairSource
  split
  · rfl
  · exact wordAt_zero d

theorem pairRead_completes {i limit nbytes : Nat} (h : LoadWork s u)
    (ha : i < limit → accessBytes s (segOf m) (s.rowAddr m i) nbytes .read false = .ok (phys i)) :
    ∃ v, pairRead m i limit nbytes u = .ok (pairSource s phys limit i) v ∧ LoadWork u v ∧ KeepsTilesBut [] u v := by
  unfold pairRead pairSource
  by_cases hi : i < limit
  · rw [if_pos hi, if_pos hi]
    exact ⟨_, readRow_completes h (ha hi), loadWork_readRow u i _, keepsTilesBut_readRow [] u i _⟩
  · rw [if_neg hi, if_neg hi]
    exact ⟨u, rfl, .refl u, .refl u⟩

theorem pairRows_completes (hab : tileIx a ≠ tileIx b) {limit n i : Nat}
    (hk : KeepsTilesBut [a, b] s u) (h : LoadWork s u) (h4 : ∀ t ∈ [a, b], s.tileColsb t % 4 = 0)
    (hp : ∀ t ∈ [a, b], PaddedFrom u t (i / 2)) (ha : ∀ j, i ≤ j → j < limit →
      accessBytes s (segOf m) (s.rowAddr m j) ((s.tileColsb a + s.tileColsb b) / 2) .read false = .ok (phys j)) :
    ∃ v, pairRows a b m limit n i u = .ok () v ∧ LoadWork s v ∧ KeepsTilesBut [a, b] s v ∧
      ∀ t base, PairShare s a b t base → ∀ r d w, r < 16 → d < 16 → w < 2 → v.tileWord t r d w =
        if (i ≤ 2 * r + w ∧ 2 * r + w < i + n) ∧ d < s.tileColsb t / 4 then
          wordAt (pairSource s phys limit (2 * r + w)) (base + d)
        else u.tileWord t r d w := by
  induction n generalizing i u with
  | zero =>
    refine ⟨u, rfl, h, hk, fun t base _ r d w _ _ _ => (if_neg ?_).symm⟩
    omega
  | succ n ih =>
    obtain ⟨x, hread, hx, hkx⟩ := pairRead_completes h (ha i (le_refl i))
    obtain ⟨hpal, hrows, hcolsb, htiles⟩ := hkx
    have htile (q : Tmm) : x.tile q = u.tile q := htiles q (by simp)
    have hkx' : KeepsTilesBut [a, b] u x := ⟨hpal, hrows, hcolsb, fun q _ => htile q⟩
    have hcols (q : Tmm) : x.tileColsb q = s.tileColsb q := (hkx'.tileColsb_eq q).trans (hk.tileColsb_eq q)
    have hword {t : Tmm} {base : Nat} (ht : PairShare s a b t base) {r d w : Nat} (hr : r < 16) (hd : d < 16) (hw : w < 2) :
        (x.pairMerge a b i (s.tileColsb a / 4) (pairSource s phys limit i)).tileWord t r d w =
          if 2 * r + w = i ∧ d < s.tileColsb t / 4 then wordAt (pairSource s phys limit i) (base + d)
          else u.tileWord t r d w := by
      have hmem : t ∈ [a, b] := by obtain ⟨rfl, -⟩ | ⟨rfl, -⟩ := ht <;> simp
      have hshare : PairShare x a b t base := by unfold PairShare; rw [hcols]; exact ht
      have hpad : PaddedFrom x t (i / 2) := (hp t hmem).congr (hkx'.tileColsb_eq t) (htile t)
      have hmerge := State.tileWord_pairMerge hab (x := pairSource s phys limit i) hshare (hcols t ▸ h4 t hmem) hpad hr hd hw
      rwa [hcols, hcols, State.tileWord_congr (htile t)] at hmerge
    have hkm := keepsTilesBut_pairMerge x a b i (s.tileColsb a / 4) (pairSource s phys limit i)
    have hshares {t : Tmm} (ht : t ∈ [a, b]) : ∃ base, PairShare s a b t base := by
      obtain rfl | rfl : t = a ∨ t = b := by simpa using ht
      · exact ⟨0, .inl ⟨rfl, rfl⟩⟩
      · exact ⟨_, .inr ⟨rfl, rfl⟩⟩
    have hwork : LoadWork s (x.pairMerge a b i (s.tileColsb a / 4) (pairSource s phys limit i)) := by
      rw [State.pairMerge_eq]
      exact (h.trans hx).trans (.update _)
    have hpad (t : Tmm) (ht : t ∈ [a, b]) :
        PaddedFrom (x.pairMerge a b i (s.tileColsb a / 4) (pairSource s phys limit i)) t ((i + 1) / 2) := by
      intro r d w hn hr hcol hd hw
      obtain ⟨base, hbase⟩ := hshares ht
      rw [hkm.tileColsb_eq, hcols] at hcol
      rw [hword hbase hr hd hw, if_neg fun hin => Nat.not_lt.mpr hcol hin.2]
      exact hp t ht r d w (by omega) hr (by rwa [hk.tileColsb_eq]) hd hw
    obtain ⟨v, hrun, hv, hkv, hwords⟩ := ih (i := i + 1) ((hk.trans hkx').trans hkm) hwork hpad
      fun j hlo hhi => ha j (by omega) hhi
    refine ⟨v, ?_, hv, hkv, fun t base ht r d w hr hd hw => ?_⟩
    · rw [pairRows, Act.bind_run, Act.get_run]
      dsimp only
      rw [hk.tileColsb_eq, hk.tileColsb_eq, Act.bind_run, hread]
      exact hrun
    · rw [hwords t base ht r d w hr hd hw, hword ht hr hd hw]
      by_cases hri : 2 * r + w = i
      · have hlater : ¬ ((i + 1 ≤ i ∧ i < i + 1 + n) ∧ d < s.tileColsb t / 4) := by omega
        have hhere : (i ≤ i ∧ i < i + (n + 1)) := by omega
        rw [hri, if_neg hlater]
        simp only [hhere, true_and]
      · have hrange : i + 1 ≤ 2 * r + w ∧ 2 * r + w < i + 1 + n ↔ i ≤ 2 * r + w ∧ 2 * r + w < i + (n + 1) := by omega
        simp only [hri, hrange, false_and, if_false]

/-! ### The start of a pair load (R604) -/

theorem State.tileWord_pairPrologue (s : State) {start : Nat} (h4 : s.tileColsb t % 4 = 0) {r d w : Nat} (hr : r < 16)
    (hd : d < 16) (hw : w < 2) : (s.pairPrologue t start).tileWord t r d w =
      if 2 * r + 2 ≤ start ∨ (2 * r + w < start ∧ d < s.tileColsb t / 4) then s.tileWord t r d w else 0 := by
  have hzeroed {r : Nat} (hr : r < 16) : (s.zeroUpperRows t ((start + 1) / 2)).tileWord t r d w =
      if (start + 1) / 2 ≤ r then 0 else s.tileWord t r d w := by
    rw [State.tileWord, s.tileRow_zeroUpperRows t _ hr]
    split
    · exact wordAt_zero _
    · rfl
  have hcols : s.tileColsb t = 4 * (s.tileColsb t / 4) := by omega
  unfold State.pairPrologue
  dsimp only
  by_cases hodd : start % 2 = 1
  · rw [if_pos hodd, State.tileWord, State.tileRow_writeRow _ _ _ _ _ hr]
    by_cases hri : r = start / 2
    · have hkept : ¬ (start + 1) / 2 ≤ r := by omega
      rw [if_pos hri, ← hri]
      refine (wordAt_interleave _ _ hcols Nat.one_lt_two hd hw).trans ?_
      have hword := (hzeroed hr).trans (if_neg hkept)
      by_cases hin : d < s.tileColsb t / 4
      · by_cases hw1 : w = 1
        · rw [if_pos hin, if_pos hw1, if_neg (by omega)]
        · rw [if_pos hin, if_neg hw1, if_pos (by omega)]
          exact hword
      · rw [if_neg hin, if_neg (by omega)]
    · have hrest : (start + 1) / 2 ≤ r ↔ ¬ (2 * r + 2 ≤ start ∨ (2 * r + w < start ∧ d < s.tileColsb t / 4)) := by omega
      rw [if_neg hri]
      refine (hzeroed hr).trans ?_
      simp only [hrest, ite_not]
  · have hrest : (start + 1) / 2 ≤ r ↔ ¬ (2 * r + 2 ≤ start ∨ (2 * r + w < start ∧ d < s.tileColsb t / 4)) := by omega
    rw [if_neg hodd, hzeroed hr]
    simp only [hrest, ite_not]

theorem keepsTilesBut_pairPrologue {ts : List Tmm} (s : State) (ht : t ∈ ts) (start : Nat) :
    KeepsTilesBut ts s (s.pairPrologue t start) := by
  have hzero : KeepsTilesBut ts s (s.zeroUpperRows t ((start + 1) / 2)) := .setTile s _ ht
  unfold State.pairPrologue
  dsimp only
  split
  · exact hzero.trans (.setTile _ _ ht)
  · exact hzero

theorem State.pairPrologue_eq (s : State) (t : Tmm) (start : Nat) :
    s.pairPrologue t start = { s with amx := (s.pairPrologue t start).amx } := by
  unfold State.pairPrologue; dsimp only; split <;> rfl

/-- The start of a pair load: what was read before `start` stays, the rest of both tiles is zero. -/
def State.pairStart (s : State) (a b : Tmm) (start : Nat) : State := (s.pairPrologue a start).pairPrologue b start

theorem keepsTilesBut_pairStart (s : State) (a b : Tmm) (start : Nat) :
    KeepsTilesBut [a, b] s (s.pairStart a b start) :=
  (keepsTilesBut_pairPrologue s (.head _) start).trans (keepsTilesBut_pairPrologue _ (.tail _ (.head _)) start)

theorem loadWork_pairStart (s : State) (a b : Tmm) (start : Nat) : LoadWork s (s.pairStart a b start) := by
  rw [State.pairStart, State.pairPrologue_eq, State.pairPrologue_eq]
  exact .update _

theorem State.tileWord_pairStart (s : State) (hab : tileIx a ≠ tileIx b) {start : Nat} (ht : t ∈ [a, b])
    (h4 : s.tileColsb t % 4 = 0) {r d w : Nat} (hr : r < 16) (hd : d < 16) (hw : w < 2) :
    (s.pairStart a b start).tileWord t r d w =
      if 2 * r + 2 ≤ start ∨ (2 * r + w < start ∧ d < s.tileColsb t / 4) then s.tileWord t r d w else 0 := by
  obtain rfl | rfl : t = a ∨ t = b := by simpa using ht
  · obtain ⟨-, -, -, hother⟩ := keepsTilesBut_pairPrologue (ts := [b]) (s.pairPrologue t start) (.head _) start
    rw [State.pairStart, State.tileWord_congr (hother t (by simpa using hab)), s.tileWord_pairPrologue h4 hr hd hw]
  · have hfirst := keepsTilesBut_pairPrologue (ts := [a]) s (.head _) start
    have hcols := hfirst.tileColsb_eq t
    obtain ⟨-, -, -, hother⟩ := hfirst
    rw [State.pairStart, State.tileWord_pairPrologue _ (hcols ▸ h4) hr hd hw, hcols,
      State.tileWord_congr (hother t (by simpa using hab.symm))]

theorem paddedFrom_pairStart (s : State) (hab : tileIx a ≠ tileIx b) (start : Nat) (ht : t ∈ [a, b])
    (h4 : s.tileColsb t % 4 = 0) : PaddedFrom (s.pairStart a b start) t (start / 2) := by
  intro r d w hn hr hcol hd hw
  rw [(keepsTilesBut_pairStart s a b start).tileColsb_eq] at hcol
  rw [s.tileWord_pairStart hab ht h4 hr hd hw, if_neg (by omega)]

/-! ### The whole instruction -/

theorem pairOk_colsb (hc : pairOk s t = true) : ∀ q ∈ [pairBase t, pairNext t], s.tileColsb q % 4 = 0 := by
  obtain ⟨-, -, -, -, hbase, hnext, -⟩ := pairOk_iff.mp hc
  intro q hq
  obtain rfl | rfl : q = pairBase t ∨ q = pairNext t := by simpa using hq
  · omega
  · omega

theorem pairLoad_completes {ok : Cfg → Bool} {pad : Nat} (hr : Claims.amxReady ok s) (hd : Claims.tileDataOn s)
    (hc : pairOk s t = true) (ha : ∀ j, s.amx.startRow.toNat ≤ j → j < 2 * s.tileRows (pairBase t) - pad →
      accessBytes s (segOf m) (s.rowAddr m j) ((s.tileColsb (pairBase t) + s.tileColsb (pairNext t)) / 2) .read false =
        .ok (phys j)) :
    ∃ v, pairLoad ok pad t m s = .ok () (v.setStartRow 0) ∧ LoadWork s v ∧
      KeepsTilesBut [pairBase t, pairNext t] s v ∧
      ∀ q base, PairShare s (pairBase t) (pairNext t) q base → ∀ r d w, r < 16 → d < 16 → w < 2 → v.tileWord q r d w =
        if 2 * r + 2 ≤ s.amx.startRow.toNat then s.tileWord q r d w
        else if s.tileColsb q / 4 ≤ d then 0
        else if 2 * r + w < s.amx.startRow.toNat then s.tileWord q r d w
        else wordAt (pairSource s phys (2 * s.tileRows (pairBase t) - pad) (2 * r + w)) (base + d) := by
  obtain ⟨-, -, -, -, -, -, hlt⟩ := pairOk_iff.mp hc
  have h4 := pairOk_colsb hc
  have hab := tileIx_pair t
  generalize hstart : s.amx.startRow.toNat = start at *
  generalize htotal : 2 * s.tileRows (pairBase t) = total at *
  obtain ⟨v, hrun, hv, hk, hwords⟩ := pairRows_completes (n := total - start) hab
    (keepsTilesBut_pairStart s (pairBase t) (pairNext t) start) (loadWork_pairStart s _ _ start) h4
    (fun q hq => paddedFrom_pairStart s hab start hq (h4 q hq)) ha
  refine ⟨v, ?_, hv, hk, fun q base hq r d w hr hd hw => ?_⟩
  · refine (tileAction_run (c := fun s => pairOk s t) hr hd hc).trans ?_
    rw [Act.bind_run, Act.modify_run]
    dsimp only
    rw [hstart, htotal, Act.bind_run]
    rw [← State.pairStart, hrun]
    rfl
  · have hmem : q ∈ [pairBase t, pairNext t] := by obtain ⟨rfl, -⟩ | ⟨rfl, -⟩ := hq <;> simp
    rw [hwords q base hq r d w hr hd hw, s.tileWord_pairStart hab hmem (h4 q hmem) hr hd hw]
    by_cases hdone : 2 * r + 2 ≤ start
    · rw [if_neg (by omega), if_pos (.inl hdone), if_pos hdone]
    rw [if_neg hdone]
    by_cases hpast : s.tileColsb q / 4 ≤ d
    · rw [if_neg (by omega), if_neg (by omega), if_pos hpast]
    rw [if_neg hpast]
    by_cases hread : 2 * r + w < start
    · rw [if_neg (by omega), if_pos (by omega), if_pos hread]
    rw [if_neg hread]
    by_cases hrow : 2 * r + w < total
    · rw [if_pos (by omega)]
    · rw [if_neg (by omega), if_neg (by omega), wordAt_pairSource, if_neg (by omega)]

end Sys2Proof.Machine

namespace Sys2Proof.Claims

open Sys2Proof.Machine

/-- Settles O46: the words of both tiles after the prologue, and after each memory row. -/
theorem pairLoads : Obligations.PairLoads := by
  intro f hf c m s phys hr hd hc ha
  obtain ⟨v, hrun, hv, hk, hwords⟩ := pairLoad_completes hr hd hc ha
  obtain ⟨hload, hamx, hp, hrw, hcb, hs, ht⟩ := hv.completes hk
  rw [exec_pairLoad f hf]
  refine ⟨_, settle_ok hrun, hload, hamx, hp, hrw, hcb, hs, fun q hqa hqb => ht q (by simp [hqa, hqb]),
    fun u base hu r hr => ?_⟩
  obtain ⟨-, -, -, -, -, -, hlt⟩ := pairOk_iff.mp hc
  refine ⟨fun hdone => eq_of_wordAt fun d w hd hw => ?_, fun hlate hout => eq_of_wordAt fun d w hd hw => ?_,
    fun hlate hin d w hd hw => ?_⟩
  · exact (hwords u base hu r d w hr hd hw).trans (if_pos hdone)
  · refine (hwords u base hu r d w hr hd hw).trans ?_
    have hread : ¬ 2 * r + w < s.amx.startRow.toNat := by omega
    have hrow : ¬ 2 * r + w < 2 * s.tileRows (pairBase c) - f.2.2 := by omega
    rw [wordAt_zero, if_neg (Nat.not_le.mpr hlate), if_neg hread, wordAt_pairSource, if_neg hrow, ite_self]
  · refine (hwords u base hu r d w hr hd hw).trans ?_
    rw [if_neg (Nat.not_le.mpr hlate), wordAt_pairSource]
    rfl

end Sys2Proof.Claims

/-! ## Rounding and conversions -/

namespace Sys2Proof.Machine

/-! ### Rounding to nearest even (R569) -/

/-- The rounded quotient is the one below or the one above, by the remainder. -/
theorem roundRne_cases (n q : Nat) : ∃ f r, n = f * 2 ^ q + r ∧ r < 2 ^ q ∧
    ((2 * r < 2 ^ q ∧ roundRne n q = f) ∨ (2 * r = 2 ^ q ∧ f % 2 = 0 ∧ roundRne n q = f) ∨
      (2 * r = 2 ^ q ∧ f % 2 = 1 ∧ roundRne n q = f + 1) ∨ (2 ^ q < 2 * r ∧ roundRne n q = f + 1)) := by
  refine ⟨n / 2 ^ q, n % 2 ^ q, ?_, Nat.mod_lt _ (Nat.two_pow_pos q), ?_⟩
  · rw [Nat.mul_comm]
    exact (Nat.div_add_mod n (2 ^ q)).symm
  · unfold roundRne
    rw [Nat.shiftRight_eq_div_pow]
    dsimp only
    split <;> omega

theorem roundRne_nearest (n q : Nat) : 2 * (n - roundRne n q * 2 ^ q) ≤ 2 ^ q ∧ 2 * (roundRne n q * 2 ^ q - n) ≤ 2 ^ q ∧
    ((2 * (n - roundRne n q * 2 ^ q) = 2 ^ q ∨ 2 * (roundRne n q * 2 ^ q - n) = 2 ^ q) → roundRne n q % 2 = 0) := by
  obtain ⟨f, r, hn, hr, h⟩ := roundRne_cases n q
  have hnext : (f + 1) * 2 ^ q = f * 2 ^ q + 2 ^ q := Nat.succ_mul f _
  obtain ⟨hlt, h⟩ | ⟨htie, heven, h⟩ | ⟨htie, hodd, h⟩ | ⟨hgt, h⟩ := h
  · rw [h]; omega
  · rw [h]; omega
  · rw [h, hnext]; omega
  · rw [h, hnext]; omega

/-- An even number is reached by rounding from half a unit below it on. -/
theorem le_roundRne_iff {n q M : Nat} (hM : M % 2 = 0) : M ≤ roundRne n q ↔ 2 * (M * 2 ^ q) ≤ 2 * n + 2 ^ q := by
  obtain ⟨f, r, hn, hr, h⟩ := roundRne_cases n q
  have hle {a b : Nat} (hab : a ≤ b) : a * 2 ^ q ≤ b * 2 ^ q := Nat.mul_le_mul_right _ hab
  have hsucc : (f + 1) * 2 ^ q = f * 2 ^ q + 2 ^ q := Nat.succ_mul f _
  have hsucc2 : (f + 2) * 2 ^ q = f * 2 ^ q + 2 ^ q + 2 ^ q := by rw [Nat.succ_mul, hsucc]
  obtain hM | rfl | hM : M ≤ f ∨ M = f + 1 ∨ f + 2 ≤ M := by omega
  · have := hle hM
    constructor <;> omega
  · rw [hsucc]
    constructor <;> omega
  · have := hle hM
    rw [hsucc2] at this
    constructor <;> omega

/-- A multiple of the unit is not changed. -/
theorem roundRne_exact {n q : Nat} (h : 2 ^ q ∣ n) : roundRne n q * 2 ^ q = n := by
  have hr : n % 2 ^ q = 0 := Nat.mod_eq_zero_of_dvd h
  have hkept : roundRne n q = n / 2 ^ q := by
    have hpos := Nat.two_pow_pos q
    unfold roundRne
    rw [Nat.shiftRight_eq_div_pow]
    dsimp only
    rw [if_neg (by omega)]
  rw [hkept, Nat.div_mul_cancel h]

theorem roundRne_le {n q p : Nat} (h : n < 2 ^ (p + 1 + q)) : roundRne n q ≤ 2 ^ (p + 1) := by
  obtain ⟨f, r, hn, hr, hcases⟩ := roundRne_cases n q
  have hf : f < 2 ^ (p + 1) := by
    refine Nat.lt_of_mul_lt_mul_right (a := 2 ^ q) ?_
    rw [← pow_add]
    omega
  omega

/-! ### Magnitude patterns -/

/-- A significand that was rounded in place, or rounded to `p + 1` bits, over `k` steps of the exponent. -/
theorem magValue_pattern {p qmin R k : Nat} (hR : R ≤ 2 ^ (p + 1)) (hk : k = 0 ∨ 2 ^ p ≤ R) :
    Claims.magValue p qmin (R + k * 2 ^ p) = R * 2 ^ (k + qmin) := by
  have hpos := Nat.two_pow_pos p
  have htwo : 2 ^ (p + 1) = 2 ^ p + 2 ^ p := by rw [pow_succ]; omega
  unfold Claims.magValue
  rw [Nat.add_mul_div_right _ _ hpos, Nat.add_mul_mod_self_right]
  obtain hlt | hge := Nat.lt_or_ge R (2 ^ p)
  · obtain rfl : k = 0 := hk.resolve_right (Nat.not_le.mpr hlt)
    rw [Nat.div_eq_of_lt hlt, if_pos rfl, Nat.zero_mul, Nat.add_zero, Nat.zero_add]
  · obtain ⟨j, rfl⟩ := Nat.exists_eq_add_of_le hge
    obtain hlt | rfl : j < 2 ^ p ∨ j = 2 ^ p := by omega
    · have hdiv : (2 ^ p + j) / 2 ^ p = 1 := by
        rw [Nat.add_div_left _ hpos, Nat.div_eq_of_lt hlt]
      have hmod : (2 ^ p + j) % 2 ^ p = j := by rw [Nat.add_mod_left, Nat.mod_eq_of_lt hlt]
      rw [hdiv, hmod, if_neg (by omega), show 1 + k - 1 + qmin = k + qmin by omega]
    · have hdiv : (2 ^ p + 2 ^ p) / 2 ^ p = 2 := by rw [Nat.add_div_left _ hpos, Nat.div_self hpos]
      have hmod : (2 ^ p + 2 ^ p) % 2 ^ p = 0 := by rw [Nat.add_mod_left, Nat.mod_self]
      rw [hdiv, hmod, if_neg (by omega), show 2 + k - 1 + qmin = (k + qmin) + 1 by omega, pow_succ]
      ring

/-- The unit of a packed number: its significand has `p + 1` bits, or it is a multiple of the least denormal. -/
def packUnit (p qmin n : Nat) : Nat := max (Nat.log2 n - p) qmin

theorem packMag_eq (p qmin top n : Nat) : packMag p qmin top n =
    min (roundRne n (packUnit p qmin n) + (packUnit p qmin n - qmin) * 2 ^ p) top := rfl

theorem lt_two_pow_packUnit (p qmin n : Nat) : n < 2 ^ (p + 1 + packUnit p qmin n) := by
  refine Nat.lt_log2_self.trans_le (Nat.pow_le_pow_right Nat.two_pos ?_)
  unfold packUnit
  omega

theorem roundRne_packUnit (p qmin n : Nat) : roundRne n (packUnit p qmin n) ≤ 2 ^ (p + 1) ∧
    (packUnit p qmin n = qmin ∨ 2 ^ p ≤ roundRne n (packUnit p qmin n)) := by
  refine ⟨roundRne_le (lt_two_pow_packUnit p qmin n), ?_⟩
  obtain h | h := Nat.lt_or_ge qmin (Nat.log2 n - p)
  · have hunit : packUnit p qmin n = Nat.log2 n - p := max_eq_left h.le
    have hn : n ≠ 0 := by rintro rfl; simp at h
    have hle : 2 ^ p ≤ n := (Nat.le_log2 hn).mp (by omega)
    rw [hunit]
    exact .inr (roundRne_bounds hle).1
  · exact .inl (max_eq_right h)

/-- A packed magnitude below infinity stands for the rounded number. -/
theorem magValue_packMag {p qmin top n : Nat} (h : packMag p qmin top n < top) :
    Claims.magValue p qmin (packMag p qmin top n) = roundRne n (packUnit p qmin n) * 2 ^ packUnit p qmin n := by
  obtain ⟨hle, hnormal⟩ := roundRne_packUnit p qmin n
  have hq : qmin ≤ packUnit p qmin n := le_max_right _ _
  rw [packMag_eq] at h ⊢
  rw [min_eq_left (by omega), magValue_pattern hle (by omega), Nat.sub_add_cancel hq]

/-- Infinity begins half a unit above the largest finite number. -/
theorem packMag_lt_iff {p qmin e n : Nat} (he : 3 ≤ e) :
    packMag p qmin (e * 2 ^ p) n < e * 2 ^ p ↔ n < (2 ^ (p + 2) - 1) * 2 ^ (qmin + e - 3) := by
  obtain ⟨k, rfl⟩ := Nat.exists_eq_add_of_le' he
  obtain ⟨hle, hnormal⟩ := roundRne_packUnit p qmin n
  have hP : 2 ^ (p + 1) = 2 * 2 ^ p := pow_succ' 2 _
  have hQ : 2 ^ (qmin + k + 1) = 2 * 2 ^ (qmin + k) := pow_succ' 2 _
  have hbound : (2 ^ (p + 2) - 1) * 2 ^ (qmin + (k + 3) - 3) + 2 ^ (qmin + k) = 2 ^ (p + 1) * 2 ^ (qmin + k + 1) := by
    have hone : 2 ^ (p + 2) - 1 + 1 = 2 ^ (p + 2) := Nat.sub_add_cancel Nat.one_le_two_pow
    rw [show qmin + (k + 3) - 3 = qmin + k by omega, ← Nat.succ_mul, Nat.succ_eq_add_one, hone, hQ, pow_succ]
    ring
  have htop : 2 ^ (p + 1) * 2 ^ (qmin + k + 1) = 2 * 2 ^ (p + (qmin + k + 1)) := by
    rw [hP, Nat.mul_assoc, ← pow_add]
  have hsmall : 2 ^ (qmin + k) ≤ 2 ^ (p + (qmin + k + 1)) := Nat.pow_le_pow_right Nat.two_pos (by omega)
  have hsteps (j : Nat) : (k + j) * 2 ^ p = k * 2 ^ p + j * 2 ^ p := Nat.add_mul k j _
  rw [packMag_eq, min_lt_iff, or_iff_left (lt_irrefl _), hsteps]
  obtain hlt | heq | hgt := Nat.lt_trichotomy (packUnit p qmin n) (qmin + k + 1)
  · have hk : (packUnit p qmin n - qmin) * 2 ^ p ≤ k * 2 ^ p := Nat.mul_le_mul_right _ (by omega)
    have hn : n < 2 ^ (p + (qmin + k + 1)) :=
      (lt_two_pow_packUnit p qmin n).trans_le (Nat.pow_le_pow_right Nat.two_pos (by omega))
    have hpos := Nat.two_pow_pos p
    constructor <;> omega
  · have hround := le_roundRne_iff (n := n) (q := qmin + k + 1) (M := 2 ^ (p + 1)) (by omega)
    rw [heq, show qmin + k + 1 - qmin = k + 1 by omega, hsteps]
    constructor <;> omega
  · have hk : (k + 2) * 2 ^ p ≤ (packUnit p qmin n - qmin) * 2 ^ p := Nat.mul_le_mul_right _ (by omega)
    have hn : 2 ^ (p + (qmin + k + 1) + 1) ≤ n := by
      have hunit : packUnit p qmin n = max (Nat.log2 n - p) qmin := rfl
      have hn0 : n ≠ 0 := by rintro rfl; simp at hunit; omega
      exact (Nat.le_log2 hn0).mp (by omega)
    rw [hsteps] at hk
    rw [pow_succ] at hn
    constructor <;> omega

/-! ### FP32 and FP16 numbers by their patterns (R182, R184) -/

theorem signed_toNat {w mag : Nat} (neg : Bool) (hw : 0 < w) (h : mag < 2 ^ (w - 1)) :
    (signed w neg mag).toNat = mag + if neg then 2 ^ (w - 1) else 0 := by
  have htwo : 2 ^ w = 2 ^ (w - 1) + 2 ^ (w - 1) := by
    rw [← Nat.two_mul, ← pow_succ', Nat.sub_add_cancel hw]
  rw [signed, BitVec.toNat_ofNat, Nat.mod_eq_of_lt]
  split <;> omega

/-- The magnitude of a finite number is what its pattern stands for. -/
theorem fMag_signed_eq {mag : Nat} (neg : Bool) (h : mag < 2 ^ 31) :
    fMag (signed 32 neg mag) = Claims.magValue 23 0 mag := by
  obtain ⟨-, he, hf⟩ := signed_fields neg h
  rw [fMag, he, hf, Claims.magValue]
  split
  · next h0 => rw [pow_zero, Nat.mul_one, Nat.mod_eq_of_lt (by omega)]
  · rfl

/-- The fields of an FP16 number given by its sign and magnitude pattern. -/
theorem signedHalf_fields {mag : Nat} (neg : Bool) (h : mag < 2 ^ 15) :
    bitAt (signed 16 neg mag) 15 = neg ∧ fieldOf (signed 16 neg mag) 14 10 = mag / 2 ^ 10 ∧
      hMag (signed 16 neg mag) = Claims.magValue 10 0 mag := by
  have hs := signed_toNat (w := 16) neg (by decide) h
  have hexp : fieldOf (signed 16 neg mag) 14 10 = mag / 2 ^ 10 := by
    rw [fieldOf_eq, hs]
    split <;> omega
  have hfrac : fieldOf (signed 16 neg mag) 9 0 = mag % 2 ^ 10 := by
    rw [fieldOf_eq, hs]
    split <;> omega
  refine ⟨?_, hexp, ?_⟩
  · rw [bitAt, BitVec.getLsbD, hs, Nat.testBit_eq_decide_div_mod_eq]
    cases neg <;> simp <;> omega
  · rw [hMag, hexp, hfrac, Claims.magValue]
    split
    · next h0 => rw [pow_zero, Nat.mul_one, Nat.mod_eq_of_lt (by omega)]
    · rfl

theorem magValue_mul (p qmin m : Nat) : Claims.magValue p 0 m * 2 ^ qmin = Claims.magValue p qmin m := by
  unfold Claims.magValue
  split
  · rw [pow_zero, Nat.mul_one]
  · rw [Nat.add_zero, pow_add, Nat.mul_assoc]

section

variable (x : W32)

theorem fExp_lt : fExp x < 256 := by rw [fExp, fieldOf_eq]; exact Nat.mod_lt _ (by decide)

theorem fFrac_lt : fFrac x < 2 ^ 23 := by rw [fFrac, fieldOf_eq]; exact Nat.mod_lt _ (by decide)

/-- A dword is the number of its three fields. -/
theorem toNat_eq_fields : x.toNat = (if fNeg x then 2 ^ 31 else 0) + fExp x * 2 ^ 23 + fFrac x := by
  have hx := x.isLt
  rw [fExp, fFrac, fieldOf_eq, fieldOf_eq, fNeg, bitAt, BitVec.getLsbD, Nat.testBit_eq_decide_div_mod_eq]
  simp only [decide_eq_true_eq]
  split <;> omega

end

variable {x : W32}

theorem fMag_of_infinite_exponent (h : fExp x = 255) : 2 ^ 277 ≤ fMag x := by
  have hone : 2 ^ 277 = 2 ^ 23 * 2 ^ 254 := by rw [← pow_add]
  rw [fMag, h, if_neg (by decide), hone]
  exact Nat.mul_le_mul_right _ (Nat.le_add_right _ _)

theorem fMag_of_denormal (h : fExp x = 0) : fMag x < 2 ^ 23 := by
  rw [fMag, if_pos h]
  exact fFrac_lt x

/-- What the classes of a number say of its fields. -/
theorem fNan_iff : fNan x = true ↔ fExp x = 255 ∧ fFrac x ≠ 0 := by
  simp only [fNan, Bool.and_eq_true, beq_iff_eq, bne_iff_ne]

theorem fInf_iff : fInf x = true ↔ fExp x = 255 ∧ fFrac x = 0 := by
  simp only [fInf, Bool.and_eq_true, beq_iff_eq]

theorem fZero_iff : fZero x = true ↔ fExp x = 0 ∧ fFrac x = 0 := by
  simp only [fZero, Bool.and_eq_true, beq_iff_eq]

theorem fDenormal_iff : fDenormal x = true ↔ fExp x = 0 ∧ fFrac x ≠ 0 := by
  simp only [fDenormal, Bool.and_eq_true, beq_iff_eq, bne_iff_ne]

/-- Only the exponent 0 makes a zero or a denormal. -/
theorem not_small_of_fExp (h : fExp x ≠ 0) : (fZero x || fDenormal x) = false := by
  rw [Bool.or_eq_false_iff, Bool.eq_false_iff, Bool.eq_false_iff]
  exact ⟨fun hz => h (fZero_iff.mp hz).1, fun hd => h (fDenormal_iff.mp hd).1⟩

/-- Only the exponent 255 makes a NaN or an infinity. -/
theorem not_special_of_fExp (h : fExp x ≠ 255) : fNan x = false ∧ fInf x = false := by
  rw [Bool.eq_false_iff, Bool.eq_false_iff]
  exact ⟨fun hn => h (fNan_iff.mp hn).1, fun hi => h (fInf_iff.mp hi).1⟩

/-! ### To BF16 (R578) -/

theorem toNat_upperHalf (x : W32) : (x.extractLsb' 16 16).toNat = x.toNat / 2 ^ 16 := by
  have hx := x.isLt
  rw [BitVec.extractLsb'_toNat, Nat.shiftRight_eq_div_pow]
  omega

theorem singleToBf16_of_inf (h : fInf x = true) : singleToBf16 x = signed 16 (fNeg x) 0x7F80 := by
  obtain ⟨he, hf⟩ := fInf_iff.mp h
  have hval := toNat_eq_fields x
  have hbf : singleToBf16 x = x.extractLsb' 16 16 := by
    rw [singleToBf16, not_small_of_fExp (by omega), if_neg nofun, if_pos h]
  refine BitVec.eq_of_toNat_eq ?_
  rw [hbf, toNat_upperHalf, signed_toNat _ (by decide) (by decide), hval, he, hf]
  split <;> decide

/-- A bit set below a multiple of its power of two. -/
theorem or_mul_two_pow_add {k a b : Nat} (j : Nat) (ha : a < 2 ^ k) (hb : b < 2 ^ k) :
    (2 ^ k * j + a) ||| b = 2 ^ k * j + (a ||| b) := by
  rw [Nat.two_pow_add_eq_or_of_lt ha, Nat.or_assoc, ← Nat.two_pow_add_eq_or_of_lt (Nat.or_lt_two_pow ha hb)]

theorem singleToBf16_of_nan (h : fNan x = true) :
    singleToBf16 x = signed 16 (fNeg x) (0x7F80 + (fFrac x / 2 ^ 16 ||| 0x40)) := by
  obtain ⟨he, hf⟩ := fNan_iff.mp h
  have hval := toNat_eq_fields x
  have hfrac := fFrac_lt x
  have hinf : fInf x = false := Bool.eq_false_iff.mpr fun hi => hf (fInf_iff.mp hi).2
  have hbf : singleToBf16 x = x.extractLsb' 16 16 ||| 0x40 := by
    rw [singleToBf16, not_small_of_fExp (by omega), hinf, h, if_neg nofun, if_neg nofun, if_pos rfl]
  have hquiet : fFrac x / 2 ^ 16 ||| 0x40 < 2 ^ 7 := Nat.or_lt_two_pow (by omega) (by decide)
  have hupper : x.toNat / 2 ^ 16 = 2 ^ 7 * (0xFF + if fNeg x then 2 ^ 8 else 0) + fFrac x / 2 ^ 16 := by
    rw [hval, he]
    split <;> omega
  refine BitVec.eq_of_toNat_eq ?_
  rw [hbf, BitVec.toNat_or, toNat_upperHalf, signed_toNat _ (by decide) (by omega), hupper,
    show (0x40 : BitVec 16).toNat = 0x40 from rfl, or_mul_two_pow_add _ (by omega) (by decide)]
  split <;> omega

theorem singleToBf16_of_normal (h0 : fExp x ≠ 0) (h255 : fExp x ≠ 255) :
    (singleToBf16 x).toNat = roundRne x.toNat 16 := by
  obtain ⟨hnan, hinf⟩ := not_special_of_fExp h255
  have hval := toNat_eq_fields x
  have hexp := fExp_lt x
  have hfrac := fFrac_lt x
  have hlt : x.toNat < 0xFF800000 := by
    rw [hval]
    split <;> omega
  have hbf : singleToBf16 x = (x + 0x7FFF + (if bitAt x 16 then 1 else 0)).extractLsb' 16 16 := by
    rw [singleToBf16, not_small_of_fExp h0, hinf, hnan, if_neg nofun, if_neg nofun, if_neg nofun]
  have hbit : bitAt x 16 = decide (x.toNat / 2 ^ 16 % 2 = 1) := by
    rw [bitAt, BitVec.getLsbD, Nat.testBit_eq_decide_div_mod_eq]
  have hsum : (x + 0x7FFF + (if bitAt x 16 then 1 else 0)).toNat = x.toNat + 0x7FFF + x.toNat / 2 ^ 16 % 2 := by
    have hlow : (0x7FFF : W32).toNat = 0x7FFF := rfl
    rw [BitVec.toNat_add, BitVec.toNat_add, hlow, hbit]
    obtain hm | hm := Nat.mod_two_eq_zero_or_one (x.toNat / 2 ^ 16) <;> rw [hm]
    · simp; omega
    · simp; omega
  unfold roundRne
  rw [hbf, toNat_upperHalf, hsum, Nat.shiftRight_eq_div_pow]
  dsimp only
  split <;> omega

/-! ### To FP16 and from FP16 (R579) -/

/-- A finite number that is no denormal is rounded; the zeros pack to zeros. -/
theorem singleToHalf_of_finite (he : fExp x ≠ 255) (hd : fDenormal x = false) :
    singleToHalf x = signed 16 (fNeg x) (packMag 10 125 0x7C00 (fMag x)) := by
  obtain ⟨hnan, hinf⟩ := not_special_of_fExp he
  rw [singleToHalf, hnan, hinf, hd, if_neg nofun, if_neg nofun, Bool.or_false]
  split
  · next hz =>
    obtain ⟨h0, hf⟩ := fZero_iff.mp hz
    have hmag : fMag x = 0 := by rw [fMag, if_pos h0, hf]
    rw [hmag]
    rfl
  · rfl

theorem packMag_half_lt_iff (n : Nat) : packMag 10 125 0x7C00 n < 0x7C00 ↔ n < 65520 * 2 ^ 149 := by
  have h := packMag_lt_iff (p := 10) (qmin := 125) (e := 31) (n := n) (by decide)
  rwa [show 31 * 2 ^ 10 = 0x7C00 from rfl, show (2 ^ (10 + 2) - 1) * 2 ^ (125 + 31 - 3) = 65520 * 2 ^ 149 by norm_num] at h

theorem singleToHalf_of_large (hn : fNan x = false) (h : 65520 * 2 ^ 149 ≤ fMag x) :
    singleToHalf x = signed 16 (fNeg x) 0x7C00 := by
  by_cases he : fExp x = 255
  · have hinf : fInf x = true := by
      rw [fInf_iff]
      by_contra hf
      exact Bool.eq_false_iff.mp hn (fNan_iff.mpr ⟨he, fun h0 => hf ⟨he, h0⟩⟩)
    rw [singleToHalf, hn, hinf, if_neg nofun, if_pos rfl]
  · have hd : fDenormal x = false := Bool.eq_false_iff.mpr fun hd => by
      have hlt := fMag_of_denormal (fDenormal_iff.mp hd).1
      omega
    have htop : packMag 10 125 0x7C00 (fMag x) = 0x7C00 :=
      le_antisymm (min_le_right _ _) (Nat.not_lt.mp fun hlt => Nat.not_lt.mpr h ((packMag_half_lt_iff _).mp hlt))
    rw [singleToHalf_of_finite he hd, htop]

theorem singleToHalf_of_denormal (h : fDenormal x = true) : singleToHalf x = signed 16 (fNeg x) 0 := by
  obtain ⟨h0, -⟩ := fDenormal_iff.mp h
  obtain ⟨hnan, hinf⟩ := not_special_of_fExp (x := x) (by omega)
  rw [singleToHalf, hnan, hinf, h, Bool.or_true, if_neg nofun, if_neg nofun, if_pos rfl]

theorem singleToHalf_of_small (hd : fDenormal x = false) (h : fMag x < 65520 * 2 ^ 149) :
    bitAt (singleToHalf x) 15 = fNeg x ∧ fieldOf (singleToHalf x) 14 10 < 31 ∧ hMag (singleToHalf x) * 2 ^ 125 =
      roundRne (fMag x) (packUnit 10 125 (fMag x)) * 2 ^ packUnit 10 125 (fMag x) := by
  have he : fExp x ≠ 255 := fun he => by
    have hge := fMag_of_infinite_exponent he
    omega
  have hlt := (packMag_half_lt_iff _).mpr h
  rw [singleToHalf_of_finite he hd]
  obtain ⟨hneg, hexp, hmag⟩ := signedHalf_fields (fNeg x) (hlt.trans (by decide : 0x7C00 < 2 ^ 15))
  refine ⟨hneg, by omega, ?_⟩
  rw [hmag, magValue_mul, magValue_packMag hlt]

/-- A finite FP16 number is a significand of at most eleven bits times a power of two. -/
theorem hMag_eq (h : BitVec 16) (he : fieldOf h 14 10 ≠ 31) : ∃ m j, hMag h = m * 2 ^ j ∧ m < 2 ^ 11 ∧ j ≤ 29 := by
  have hexp : fieldOf h 14 10 < 2 ^ 5 := by rw [fieldOf_eq]; exact Nat.mod_lt _ (by decide)
  have hfrac : fieldOf h 9 0 < 2 ^ 10 := by rw [fieldOf_eq]; exact Nat.mod_lt _ (by decide)
  unfold hMag
  split
  · exact ⟨_, 0, (Nat.mul_one _).symm, by omega, by decide⟩
  · exact ⟨_, _, rfl, by omega, by omega⟩

/-- A number of at most 24 bits times a power of two has an FP32 pattern of its own. -/
theorem roundRne_log2_exact {m j : Nat} (hm : m < 2 ^ 24) (h0 : m ≠ 0) :
    roundRne (m * 2 ^ j) (Nat.log2 (m * 2 ^ j) - 23) * 2 ^ (Nat.log2 (m * 2 ^ j) - 23) = m * 2 ^ j := by
  have hn : m * 2 ^ j ≠ 0 := Nat.mul_ne_zero h0 (Nat.two_pow_pos j).ne'
  have hlog : Nat.log2 (m * 2 ^ j) < 24 + j := by
    rw [Nat.log2_lt hn, pow_add]
    exact Nat.mul_lt_mul_of_pos_right hm (Nat.two_pow_pos j)
  exact roundRne_exact ((Nat.pow_dvd_pow 2 (by omega)).trans (Nat.dvd_mul_left _ _))

theorem halfToSingle_of_finite {h : BitVec 16} (he : fieldOf h 14 10 ≠ 31) : fNeg (halfToSingle h) = bitAt h 15 ∧
    fExp (halfToSingle h) < 255 ∧ fDenormal (halfToSingle h) = false ∧ fMag (halfToSingle h) = hMag h * 2 ^ 125 := by
  rw [halfToSingle, if_neg he]
  by_cases h0 : hMag h = 0
  · rw [if_pos h0, h0, Nat.zero_mul]
    cases bitAt h 15 <;> decide
  · obtain ⟨m, j, hm, hlt, hj⟩ := hMag_eq h he
    have hm0 : m ≠ 0 := by rintro rfl; exact h0 (by rw [hm, Nat.zero_mul])
    have hval : hMag h * 2 ^ 125 = m * 2 ^ (j + 125) := by rw [hm, Nat.mul_assoc, ← pow_add]
    have hlo : 2 ^ 23 ≤ hMag h * 2 ^ 125 :=
      (by decide : 2 ^ 23 ≤ 2 ^ 125).trans (Nat.le_mul_of_pos_left _ (Nat.pos_of_ne_zero h0))
    have hlog : Nat.log2 (hMag h * 2 ^ 125) < 250 := by
      rw [hval, Nat.log2_lt (Nat.mul_ne_zero hm0 (Nat.two_pow_pos _).ne')]
      calc m * 2 ^ (j + 125) < 2 ^ 11 * 2 ^ (j + 125) := Nat.mul_lt_mul_of_pos_right hlt (Nat.two_pow_pos _)
        _ = 2 ^ (11 + (j + 125)) := (pow_add 2 11 _).symm
        _ ≤ 2 ^ 250 := Nat.pow_le_pow_right Nat.two_pos (by omega)
    obtain ⟨hexp, hneg, hmag⟩ := packMag_fields (bitAt h 15) hlo hlog
    rw [hval] at hmag
    rw [roundRne_log2_exact (by omega) hm0, ← hval] at hmag
    rw [if_neg h0]
    have hexp' := fExp_lt (signed 32 (bitAt h 15) (packMag 23 0 0x7F800000 (hMag h * 2 ^ 125)))
    refine ⟨hneg, by omega, Bool.eq_false_iff.mpr fun hd => ?_, hmag⟩
    have hsmall := fMag_of_denormal (fDenormal_iff.mp hd).1
    omega

/-! ### From integers (R579) -/

theorem intToSingle_fields (d : W32) : fNeg (intToSingle d) = decide (d.toInt < 0) ∧ fExp (intToSingle d) < 255 ∧
    fMag (intToSingle d) = roundRne (d.toInt.natAbs * 2 ^ 149) (Nat.log2 (d.toInt.natAbs * 2 ^ 149) - 23) *
      2 ^ (Nat.log2 (d.toInt.natAbs * 2 ^ 149) - 23) := by
  by_cases h0 : d = 0
  · subst h0
    decide
  · have hd : d.toInt ≠ 0 := fun h => h0 (BitVec.eq_of_toInt_eq h)
    have habs : d.toInt.natAbs ≤ 2 ^ 31 := by
      have hlt := BitVec.toInt_lt (x := d)
      have hge := BitVec.le_toInt (x := d)
      omega
    have hpos : 0 < d.toInt.natAbs := Int.natAbs_pos.mpr hd
    have hlo : 2 ^ 23 ≤ d.toInt.natAbs * 2 ^ 149 :=
      (by decide : 2 ^ 23 ≤ 2 ^ 149).trans (Nat.le_mul_of_pos_left _ hpos)
    have hlog : Nat.log2 (d.toInt.natAbs * 2 ^ 149) < 250 := by
      rw [Nat.log2_lt (by omega)]
      omega
    obtain ⟨hexp, hneg, hmag⟩ := packMag_fields (decide (d.toInt < 0)) hlo hlog
    have hexp' := fExp_lt (signed 32 (decide (d.toInt < 0)) (packMag 23 0 0x7F800000 (d.toInt.natAbs * 2 ^ 149)))
    rw [intToSingle, if_neg h0]
    exact ⟨hneg, by omega, hmag⟩

/-! ### Flushing (R569, R575) -/

theorem flush_false (x : W32) : flush false x = x := rfl

theorem flush_of_not_denormal (on : Bool) (h : fDenormal x = false) : flush on x = x := by
  rw [flush, h, Bool.and_false, if_neg nofun]

theorem flush_of_denormal (h : fDenormal x = true) : flush true x = fZeroOf (fNeg x) := if_pos h

theorem fDenormal_flush (x : W32) : fDenormal (flush true x) = false := by
  cases h : fDenormal x with
  | true =>
    rw [flush_of_denormal h]
    cases fNeg x <;> decide
  | false => rw [flush_of_not_denormal true h, h]

end Sys2Proof.Machine

namespace Sys2Proof.Claims

open Sys2Proof.Machine

/-- Settles O52: one rounding, and what the patterns of each format stand for. -/
theorem roundsToNearestEven : Obligations.RoundsToNearestEven := by
  refine ⟨roundRne_nearest, fun p qmin top n h => magValue_packMag h, fun x => ⟨fun h => ?_, singleToBf16_of_inf,
    singleToBf16_of_nan, singleToBf16_of_normal⟩, fun x => ⟨fun h => ?_, singleToHalf_of_large, singleToHalf_of_denormal,
    singleToHalf_of_small⟩, fun h => halfToSingle_of_finite, intToSingle_fields, fun acc x y daz => fDenormal_flush _⟩
  · rw [singleToBf16, if_pos (Bool.or_eq_true_iff.mpr h)]
  · rw [singleToHalf, if_pos h, Nat.shiftRight_eq_div_pow]

end Sys2Proof.Claims

/-! ## What the multiplies add up -/

namespace Sys2Proof.Machine

variable {acc x y : W32}

/-! ### NaN, infinity and zero under flushing -/

/-- A number whose exponent field is that of the NaNs, with the quiet bit set, is a quiet NaN. -/
theorem fNan_of_quiet (he : fExp x = 255) (hq : bitAt x 22 = true) : fNan x = true := by
  refine fNan_iff.mpr ⟨he, fun hf => ?_⟩
  rw [fFrac, fieldOf_eq] at hf
  rw [bitAt, BitVec.getLsbD, Nat.testBit_eq_decide_div_mod_eq, decide_eq_true_eq] at hq
  omega

/-- The exponent field is eight bits of the number. -/
theorem fExp_congr (h : ∀ i, 23 ≤ i → i < 31 → bitAt x i = bitAt y i) : fExp x = fExp y := by
  refine congrArg BitVec.toNat (BitVec.eq_of_getLsbD_eq fun i hi => ?_)
  rw [BitVec.getLsbD_extractLsb, BitVec.getLsbD_extractLsb]
  exact congrArg _ (h (23 + i) (by omega) (by omega))

theorem amxNan_quiet (acc x y : W32) : fNan (amxNan acc x y) = true ∧ bitAt (amxNan acc x y) 22 = true := by
  have hmask : ∀ i, 22 ≤ i → i < 31 → (0x7FC00000 : W32).getLsbD i = true := by decide
  have hbit (i : Nat) (hlo : 22 ≤ i) (hhi : i < 31) : bitAt (amxNan acc x y) i = bitAt (0x7FC00000 : W32) i := by
    rw [amxNan, bitAt, bitAt, BitVec.getLsbD_or, hmask i hlo hhi, Bool.or_true]
  have hq : bitAt (amxNan acc x y) 22 = true := (hbit 22 (by decide) (by decide)).trans (by decide)
  have he : fExp (amxNan acc x y) = 255 := (fExp_congr fun i hlo hhi => hbit i (by omega) hhi).trans (by decide)
  exact ⟨fNan_of_quiet he hq, hq⟩

theorem fDenormal_of_fExp (h : fExp x ≠ 0) : fDenormal x = false := (Bool.or_eq_false_iff.mp (not_small_of_fExp h)).2

theorem flush_of_special (ftz : Bool) (h : fExp x = 255) : flush ftz x = x :=
  flush_of_not_denormal ftz (fDenormal_of_fExp (by omega))

theorem fZeroOf_eq (x : W32) : fZeroOf (fNeg x) = x &&& 0x80000000 := by
  have hmask : ∀ i < 32, (0x80000000 : W32).getLsbD i = decide (i = 31) := by decide
  have hzero : ∀ b, ∀ i < 32, (fZeroOf b).getLsbD i = (b && decide (i = 31)) := by decide
  refine BitVec.eq_of_getLsbD_eq fun i hi => ?_
  rw [hzero _ i hi, BitVec.getLsbD_and, hmask i hi, fNeg, bitAt]
  by_cases h : i = 31
  · rw [h]
  · simp [h]

theorem fZeroOf_fields (neg : Bool) :
    fNeg (fZeroOf neg) = neg ∧ fExp (fZeroOf neg) = 0 ∧ fFrac (fZeroOf neg) = 0 := by
  cases neg <;> decide

/-- Flushing keeps the sign, the exponent field and so the NaNs and infinities; the zeros are those of before and what is flushed. -/
theorem flush_classes (on : Bool) (x : W32) : fNeg (flush on x) = fNeg x ∧ fExp (flush on x) = fExp x ∧
    fNan (flush on x) = fNan x ∧ fInf (flush on x) = fInf x ∧ fZero (flush on x) = (fZero x || (on && fDenormal x)) := by
  cases h : on && fDenormal x with
  | false =>
    have hkept : flush on x = x := by rw [flush, h, if_neg nofun]
    rw [hkept, Bool.or_false]
    exact ⟨rfl, rfl, rfl, rfl, rfl⟩
  | true =>
    have hflushed : flush on x = fZeroOf (fNeg x) := by rw [flush, h, if_pos rfl]
    obtain ⟨h0, -⟩ := fDenormal_iff.mp (Bool.and_eq_true_iff.mp h).2
    obtain ⟨hneg, hexp, hfrac⟩ := fZeroOf_fields (fNeg x)
    obtain ⟨hnan, hinf⟩ := not_special_of_fExp (x := x) (by omega)
    obtain ⟨hnan', hinf'⟩ := not_special_of_fExp (x := fZeroOf (fNeg x)) (by omega)
    rw [hflushed, hnan, hinf, hnan', hinf', Bool.or_true]
    exact ⟨hneg, hexp.trans h0.symm, rfl, rfl, fZero_iff.mpr ⟨hexp, hfrac⟩⟩

/-! ### The cases of the fused multiply-add (R575) -/

theorem fmaIeee_of_nan (h : (fNan acc || fNan x || fNan y) = true ∨ (fInf x && fZero y || fZero x && fInf y) = true ∨
    ((fInf x || fInf y) = true ∧ fInf acc = true ∧ fNeg acc ≠ (fNeg x != fNeg y))) :
    fmaIeee acc x y = amxNan acc x y := by
  unfold fmaIeee
  dsimp only
  obtain h | h | ⟨hinf, hacc, hneg⟩ := h
  · rw [if_pos h]
  · rw [if_pos h, ite_self]
  · have hopp : (fInf acc && (fNeg acc != (fNeg x != fNeg y))) = true := Bool.and_eq_true_iff.mpr ⟨hacc, bne_iff_ne.mpr hneg⟩
    rw [if_pos hinf, if_pos hopp, ite_self, ite_self]

theorem fmaIeee_of_inf (hn : ¬ (fNan acc || fNan x || fNan y) = true) (hi : ¬ (fInf x && fZero y || fZero x && fInf y) = true)
    (hinf : (fInf x || fInf y) = true) (ho : ¬ (fInf acc = true ∧ fNeg acc ≠ (fNeg x != fNeg y))) :
    fmaIeee acc x y = fInfOf (fNeg x != fNeg y) := by
  have ho' : ¬ (fInf acc && (fNeg acc != (fNeg x != fNeg y))) = true := by
    rwa [Bool.and_eq_true, bne_iff_ne]
  unfold fmaIeee
  dsimp only
  rw [if_neg hn, if_neg hi, if_pos hinf, if_neg ho']

theorem fmaIeee_of_finite_factors (hx : fExp x ≠ 255) (hy : fExp y ≠ 255) (ha : fNan acc = false) :
    fmaIeee acc x y = if fInf acc then acc else fmaFinite acc x y := by
  obtain ⟨hxn, hxi⟩ := not_special_of_fExp hx
  obtain ⟨hyn, hyi⟩ := not_special_of_fExp hy
  unfold fmaIeee
  dsimp only
  rw [ha, hxn, hyn, hxi, hyi, Bool.and_false]
  simp only [Bool.or_self, Bool.false_and, Bool.false_eq_true, if_false]

theorem fma32_eq (acc x y : W32) (daz ftz : Bool) :
    fma32 acc x y daz ftz = flush ftz (fmaIeee (flush daz acc) (flush daz x) (flush daz y)) := rfl

/-- Three finite numbers, without flushing. -/
theorem fma32_of_finite (ha : fExp acc ≠ 255) (hx : fExp x ≠ 255) (hy : fExp y ≠ 255) :
    fma32 acc x y false false = fmaFinite acc x y := by
  obtain ⟨han, hai⟩ := not_special_of_fExp ha
  rw [fma32_eq, flush_false, flush_false, flush_false, flush_false, fmaIeee_of_finite_factors hx hy han, hai, if_neg nofun]

/-- Where the pattern of infinity begins, in units of 2^-298. -/
theorem packMag_single_lt_iff (n : Nat) : packMag 23 149 0x7F800000 n < 0x7F800000 ↔ n < (2 ^ 25 - 1) * 2 ^ 401 := by
  have h := packMag_lt_iff (p := 23) (qmin := 149) (e := 255) (n := n) (by decide)
  rwa [show 255 * 2 ^ 23 = 0x7F800000 from rfl, show 149 + 255 - 3 = 401 from rfl, show 23 + 2 = 25 from rfl] at h

theorem packMag_single_le (n : Nat) : packMag 23 149 0x7F800000 n ≤ 0x7F800000 := min_le_right _ _

theorem roundF32_zero (neg : Bool) : roundF32 neg 0 = fZeroOf neg := if_pos rfl

theorem roundF32_of_ne {v : Int} (neg : Bool) (hv : v ≠ 0) :
    roundF32 neg v = signed 32 (decide (v < 0)) (packMag 23 149 0x7F800000 v.natAbs) := if_neg hv

/-- From half a unit above the largest finite number on, the pattern is that of infinity. -/
theorem fInf_signed_packMag (neg : Bool) {n : Nat} (h : (2 ^ 25 - 1) * 2 ^ 401 ≤ n) :
    fInf (signed 32 neg (packMag 23 149 0x7F800000 n)) = true := by
  have heq : packMag 23 149 0x7F800000 n = 0x7F800000 :=
    le_antisymm (packMag_single_le n) (Nat.not_lt.mp fun hlt => Nat.not_lt.mpr h ((packMag_single_lt_iff n).mp hlt))
  rw [heq]
  cases neg <;> decide

/-- Below it, the number is finite and rounded once. -/
theorem fMag_signed_packMag (neg : Bool) {n : Nat} (h : n < (2 ^ 25 - 1) * 2 ^ 401) :
    fExp (signed 32 neg (packMag 23 149 0x7F800000 n)) ≠ 255 ∧
      fMag (signed 32 neg (packMag 23 149 0x7F800000 n)) * 2 ^ 149 =
        roundRne n (packUnit 23 149 n) * 2 ^ packUnit 23 149 n := by
  replace h := (packMag_single_lt_iff n).mpr h
  obtain ⟨-, hexp, -⟩ := signed_fields neg (h.trans (by decide : 0x7F800000 < 2 ^ 31))
  refine ⟨by omega, ?_⟩
  rw [fMag_signed_eq _ (h.trans (by decide)), magValue_mul, magValue_packMag h]

theorem fNeg_roundF32 {v : Int} (neg : Bool) (hv : v ≠ 0) : fNeg (roundF32 neg v) = decide (v < 0) := by
  rw [roundF32_of_ne neg hv]
  exact (signed_fields _ ((packMag_single_le _).trans_lt (by decide))).1

/-! ### The factors of the pair instructions (R622, R623, R625, R663, R664) -/

theorem getLsbD_signed {mag i : Nat} (neg : Bool) (h : mag < 2 ^ 31) (hi : i < 32) :
    (signed 32 neg mag).getLsbD i = if i = 31 then neg else mag.testBit i := by
  rw [BitVec.getLsbD, signed_toNat neg (by decide) h]
  have htop : mag.testBit 31 = false := Nat.testBit_lt_two_pow h
  cases neg with
  | false =>
    rw [if_neg nofun, Nat.add_zero]
    split
    · next h31 => rw [h31, htop]
    · rfl
  | true =>
    rw [if_pos rfl, Nat.add_comm]
    split
    · next h31 => rw [h31, Nat.testBit_two_pow_add_eq, htop]; rfl
    · exact Nat.testBit_two_pow_add_gt (by omega) mag

theorem signed_not {mag : Nat} (neg : Bool) (h : mag < 2 ^ 31) : signed 32 (!neg) mag = signed 32 neg mag ^^^ 0x80000000 := by
  have hmask : ∀ i < 32, (0x80000000 : W32).getLsbD i = decide (i = 31) := by decide
  refine BitVec.eq_of_getLsbD_eq fun i hi => ?_
  rw [BitVec.getLsbD_xor, hmask i hi, getLsbD_signed _ h hi, getLsbD_signed _ h hi]
  split
  · next h31 => simp [h31]
  · next h31 => simp [h31]

/-- Flipping the sign of a half flips that of its single. -/
theorem halfToSingle_negHalf (h : BitVec 16) : halfToSingle (negHalf h) = halfToSingle h ^^^ 0x80000000 := by
  have hexp : fieldOf (negHalf h) 14 10 = fieldOf h 14 10 := by
    rw [fieldOf, negHalf, BitVec.extractLsb_xor]
    exact congrArg BitVec.toNat BitVec.xor_zero
  have hfrac : fieldOf (negHalf h) 9 0 = fieldOf h 9 0 := by
    rw [fieldOf, negHalf, BitVec.extractLsb_xor]
    exact congrArg BitVec.toNat BitVec.xor_zero
  have hneg : bitAt (negHalf h) 15 = !bitAt h 15 := by
    rw [bitAt, negHalf, BitVec.getLsbD_xor]
    exact Bool.xor_true _
  have hmag : hMag (negHalf h) = hMag h := by rw [hMag, hexp, hfrac]; rfl
  have hlt : fieldOf h 9 0 < 2 ^ 10 := by rw [fieldOf_eq]; exact Nat.mod_lt _ (by decide)
  unfold halfToSingle
  rw [hexp, hfrac, hneg, hmag]
  split_ifs
  · exact signed_not _ (by decide)
  · have hquiet : fieldOf h 9 0 * 2 ^ 13 ||| 0x400000 < 2 ^ 23 := Nat.or_lt_two_pow (by omega) (by decide)
    exact signed_not _ (by omega)
  · exact signed_not _ (by decide)
  · exact signed_not _ ((min_le_right _ _).trans_lt (by decide))

theorem makeFp32_lowWord (a : W32) : makeFp32 (lowWord a) = a <<< 16 := by
  refine BitVec.eq_of_getLsbD_eq fun i hi => ?_
  rw [makeFp32, lowWord, BitVec.getLsbD_shiftLeft, BitVec.getLsbD_shiftLeft, BitVec.getLsbD_setWidth,
    BitVec.getLsbD_extractLsb', Nat.zero_add]
  have hin : i - 16 < 32 ∧ i - 16 < 16 := by omega
  simp only [hin, decide_true, Bool.true_and]

theorem makeFp32_highWord (a : W32) : makeFp32 (highWord a) = a &&& 0xFFFF0000 := by
  refine BitVec.eq_of_getLsbD_eq fun i hi => ?_
  rw [makeFp32, highWord, BitVec.getLsbD_shiftLeft, BitVec.getLsbD_setWidth, BitVec.getLsbD_extractLsb', BitVec.getLsbD_and,
    (getLsbD_wordMasks i hi).1]
  have hin : i - 16 < 32 ∧ i - 16 < 16 := by omega
  by_cases h : i < 16
  · simp [h]
  · have hge : 16 ≤ i := Nat.le_of_not_lt h
    simp only [hin, hge, h, hi, Nat.add_sub_cancel' hge, decide_true, decide_false, Bool.not_false, Bool.true_and, Bool.and_true]

/-! ### The sums (R622, R650) -/

theorem evenSum_eq {term : W32 → W32 → PairTerm} {a b : Lane} {e : Nat → W32} (h0 : e 0 = 0)
    (h : ∀ k, e (k + 1) = fma32 (e k) (term (a k) (b k)).e1 (term (a k) (b k)).e2 true true) (n : Nat) :
    evenSum term a b n = e n := by
  induction n with
  | zero => exact h0.symm
  | succ n ih => rw [evenSum, ih, h]

theorem oddSum_eq {term : W32 → W32 → PairTerm} {a b : Lane} {o : Nat → W32} (h0 : o 0 = 0)
    (h : ∀ k, o (k + 1) = fma32 (o k) (term (a k) (b k)).o1 (term (a k) (b k)).o2 true true) (n : Nat) :
    oddSum term a b n = o n := by
  induction n with
  | zero => exact h0.symm
  | succ n ih => rw [oddSum, ih, h]

theorem tf32Sum_eq {a b : Lane} {e : Nat → W32} (h0 : e 0 = 0)
    (h : ∀ k, e (k + 1) = fma32 (e k) (toTf32 (a k)) (toTf32 (b k)) true true) (n : Nat) : tf32Sum a b n = e n := by
  induction n with
  | zero => exact h0.symm
  | succ n ih => rw [tf32Sum, ih, h]

/-! ### TF32 (R651) -/

/-- The mask of the upper nineteen bits. -/
theorem getLsbD_tf32Mask : ∀ i < 32, (0xFFFFE000 : W32).getLsbD i = decide (13 ≤ i) := by decide

theorem toNat_toTf32 (h : fNan x = false) : (toTf32 x).toNat = x.toNat / 2 ^ 13 * 2 ^ 13 := by
  have hshift : toTf32 x = x >>> 13 <<< 13 := by
    rw [toTf32, h, if_neg nofun]
    refine BitVec.eq_of_getLsbD_eq fun i hi => ?_
    rw [BitVec.getLsbD_and, getLsbD_tf32Mask i hi, BitVec.getLsbD_shiftLeft, BitVec.getLsbD_ushiftRight]
    by_cases hlo : i < 13
    · simp [hlo]
    · have hge : 13 ≤ i := Nat.le_of_not_lt hlo
      simp [hlo, hge, hi]
  have hx := x.isLt
  rw [hshift, BitVec.toNat_shiftLeft, BitVec.toNat_ushiftRight, Nat.shiftLeft_eq, Nat.shiftRight_eq_div_pow]
  omega

theorem bitAt_toTf32_of_nan (h : fNan x = true) {i : Nat} (hi : 13 ≤ i) :
    bitAt (toTf32 x) i = if i = 22 then true else bitAt x i := by
  have hquiet : ∀ j < 32, (0x400000 : W32).getLsbD j = decide (j = 22) := by decide
  rw [toTf32, h, if_pos rfl, bitAt, bitAt]
  by_cases hin : i < 32
  · rw [BitVec.getLsbD_and, BitVec.getLsbD_or, hquiet i hin, getLsbD_tf32Mask i hin, decide_eq_true hi, Bool.and_true]
    split
    · next h22 => rw [decide_eq_true h22, Bool.or_true]
    · next h22 => rw [decide_eq_false h22, Bool.or_false]
  · have hout : 32 ≤ i := Nat.le_of_not_lt hin
    rw [BitVec.getLsbD_of_ge _ _ hout, BitVec.getLsbD_of_ge _ _ hout, if_neg (by omega)]

end Sys2Proof.Machine

namespace Sys2Proof.Claims

open Sys2Proof.Machine

/-- Settles O53: the cases of the fused multiply-add, at the flushed operands. -/
theorem fusedMultiplyAdd : Obligations.FusedMultiplyAdd := by
  refine ⟨fun acc x y ha hx hy => ?_, fun acc x y daz ftz => ?_, fun x => ⟨rfl, flush_of_not_denormal true, fun h => ?_⟩,
    fun acc x y daz ftz => ?_⟩
  · intro v q r
    have hr : r = roundF32 ((fNeg x != fNeg y) && fNeg acc) v := fma32_of_finite ha hx hy
    rw [hr]
    refine ⟨fun hv => ?_, fun hv => ⟨fNeg_roundF32 _ hv, ?_⟩⟩
    · rw [hv, roundF32_zero, Bool.and_comm]
      cases fNeg acc && (fNeg x != fNeg y) <;> rfl
    · rw [roundF32_of_ne _ hv]
      exact ⟨fInf_signed_packMag _, fMag_signed_packMag _⟩
  · rw [fma32_eq, fma32_eq, flush_false, flush_false, flush_false, flush_false]
  · rw [flush_of_denormal h, fZeroOf_eq]
  · intro r neg isZero nan invalid opposite
    obtain ⟨han, hae, hannan, hainf, -⟩ := flush_classes daz acc
    obtain ⟨hxn, hxe, hxnan, hxinf, hxz⟩ := flush_classes daz x
    obtain ⟨hyn, hye, hynan, hyinf, hyz⟩ := flush_classes daz y
    have hr : r = flush ftz (fmaIeee (flush daz acc) (flush daz x) (flush daz y)) := rfl
    rw [hr]
    refine ⟨fun h => ?_, fun hinf hn hi ho => ?_, fun hacc hx hy => ?_⟩
    · rw [fmaIeee_of_nan (by rw [hannan, hxnan, hynan, hxinf, hyinf, hxz, hyz, hainf, han, hxn, hyn]; exact h)]
      obtain ⟨hnan, hq⟩ := amxNan_quiet (flush daz acc) (flush daz x) (flush daz y)
      rw [flush_of_special ftz (fNan_iff.mp hnan).1]
      exact ⟨hnan, hq⟩
    · rw [fmaIeee_of_inf (by rwa [hannan, hxnan, hynan]) (by rwa [hxinf, hyinf, hxz, hyz]) (by rwa [hxinf, hyinf])
        (by rwa [hainf, han, hxn, hyn]), hxn, hyn]
      have hfields : ∀ b, fInf (fInfOf b) = true ∧ fNeg (fInfOf b) = b := by decide
      rw [flush_of_special ftz (fInf_iff.mp (hfields _).1).1]
      exact hfields _
    · obtain ⟨he, hf⟩ := fInf_iff.mp hacc
      have hn : fNan (flush daz acc) = false := hannan.trans (Bool.eq_false_iff.mpr fun hn => (fNan_iff.mp hn).2 hf)
      rw [fmaIeee_of_finite_factors (hxe.trans_ne hx) (hye.trans_ne hy) hn, hainf, hacc, if_pos rfl, flush_of_special daz he,
        flush_of_special ftz he]

/-- Settles O54: the factors word by word, and the chains by induction on the common dimension. -/
theorem pairAndTf32Elements : Obligations.PairAndTf32Elements := by
  refine ⟨fun a b => ⟨rfl, ?_, ?_, rfl, ?_⟩, fun term n a b c e o he ho hes hos => ?_, fun n a b c e he hes => ?_,
    fun x => ⟨toNat_toTf32, fun h => ?_⟩⟩
  · rw [realTerm, halfToSingle_negHalf]; rfl
  · rw [conjImagTerm, halfToSingle_negHalf]; rfl
  · rw [bf16Term, makeFp32_lowWord, makeFp32_lowWord, makeFp32_highWord, makeFp32_highWord]
  · rw [pairElem, evenSum_eq he hes, oddSum_eq ho hos]; rfl
  · rw [tf32Elem, tf32Sum_eq he hes]; rfl
  · have hq : bitAt (toTf32 x) 22 = true := bitAt_toTf32_of_nan h (by decide)
    have he : fExp (toTf32 x) = fExp x := fExp_congr fun i hlo hhi =>
      (bitAt_toTf32_of_nan h (by omega)).trans (if_neg (by omega))
    exact ⟨fNan_of_quiet (he.trans (fNan_iff.mp h).1) hq, hq, fun i hi h22 => (bitAt_toTf32_of_nan h hi).trans (if_neg h22)⟩

end Sys2Proof.Claims

/-! ## Exceptions are precise -/

namespace Sys2Proof.Machine

variable {s t u : State}

/-! ### Taking an exception (R829) -/

/-- The trap is an exception: neither a VM exit nor a transaction abort (R829). -/
def Trap.IsException : Trap → Prop
  | .exn _ _ | .page _ _ | .xfd => True
  | .exit _ _ _ | .abort => False

/-- What is delivered tells whether the trap was an exception, and the RIP that it saves. -/
theorem State.takeTrap_delivers {e : Trap} {v : Nat} {c : Option W32} {r : W64}
    (h : (u.takeTrap e).delivered = some (.exception v c r)) : e.IsException ∧ r = u.rip := by
  cases e with
  | exn | page | xfd => cases h; exact ⟨trivial, rfl⟩
  | exit | abort => cases h

/-- Taking an exception changes CR2, IA32_XFD_ERR and the delivery alone, and CR2 for a page fault only. -/
theorem Trap.IsException.takeTrap_frame {e : Trap} (he : e.IsException) (u : State) :
    u.takeTrap e = { u with sys := { u.sys with cr2 := (u.takeTrap e).sys.cr2 }, msr := (u.takeTrap e).msr,
                            delivered := (u.takeTrap e).delivered } ∧
      (∀ a, a ≠ 0x1C5 → (u.takeTrap e).msrVal a = u.msrVal a) ∧
      (∀ v c r, (u.takeTrap e).delivered = some (.exception v c r) → v ≠ 14 → (u.takeTrap e).sys.cr2 = u.sys.cr2) := by
  cases e with
  | exn => exact ⟨rfl, fun _ _ => rfl, fun _ _ _ _ _ => rfl⟩
  | page => exact ⟨rfl, fun _ _ => rfl, fun v c r h hv => absurd (by cases h; rfl) hv⟩
  | xfd => exact ⟨rfl, fun a ha => (u.msrVal_setMsr 0x1C5 a _).trans (if_neg ha), fun _ _ _ _ _ => rfl⟩
  | exit | abort => exact he.elim

/-! ### Work that is not visible (R829) -/

/-- `u` is `s` but for the free draws and memory with its posted updates and monitor, and memory reads the same. -/
def QuietWork (s u : State) : Prop :=
  u = { s with mem := u.mem, rao := u.rao, monitor := u.monitor, draws := u.draws } ∧ sameMemory s u

namespace QuietWork

theorem refl (s : State) : QuietWork s s := ⟨rfl, fun _ => rfl⟩

theorem drawn (n : Nat) (h : QuietWork s u) : QuietWork s (u.drawn n) := by
  obtain ⟨hu, hs⟩ := h
  refine ⟨?_, hs⟩
  unfold State.drawn
  rw [hu]

theorem raoForce (fp : List Nat) (h : QuietWork s u) : QuietWork s (u.raoForce fp) := by
  obtain ⟨hu, hs⟩ := h
  refine ⟨?_, fun a => (u.sameMemory_raoForce fp a).trans (hs a)⟩
  rw [State.raoForce_eq, hu]

theorem amx_eq (h : QuietWork s u) : u.amx = s.amx := (congrArg State.amx h.1 :)

theorem delivered_eq (h : QuietWork s u) : u.delivered = s.delivered :=
  (congrArg State.delivered h.1 :)

/-! #### Actions that work without being visible -/

theorem loadPhys (as : List Nat) : Act.Keeps (QuietWork s) (loadPhys as) := fun _ h => h.raoForce as

theorem memRead (seg : Seg) (off : W64) (n : Nat) (ac : Bool) : Act.Keeps (QuietWork s) (memRead seg off n ac) :=
  .getBind fun _ _ => .bind (.liftE _) fun as => loadPhys as

theorem loadOp (m : MemOp) (n : Nat) (ac : Bool) : Act.Keeps (QuietWork s) (loadOp m n ac) :=
  .getBind fun _ _ => memRead _ _ _ _

theorem vecSrc (vl : Nat) (v : VecSrc) : Act.Keeps (QuietWork s) (vecSrc vl v) := by
  cases v with
  | reg r => exact .getBind fun _ _ => .pure _
  | mem m => exact .bind (loadOp m _ true) fun _ => .pure _

theorem draw {α : Type} (f : State → α) :
    Act.Keeps (QuietWork s) (do let u ← get; set (u.drawn 1); return f u : Act α) :=
  .getBind fun _ h => .bind (.set (h.drawn 1)) fun _ => .pure _

theorem bindKeys (b : List Byte) : Act.Keeps (QuietWork s) (bindKeys b) :=
  .ite (.bind (draw _) fun _ => .bind (draw _) fun _ => .ite (.pure _) (.pure _)) (.pure _)

theorem msrRead (a : Nat) : Act.Keeps (QuietWork s) (msrRead a) :=
  .getBind fun _ h => .bind (.need _ _) fun _ =>
    .bind (.set (iteInduction (fun _ => h) fun _ => h.drawn 1)) fun _ => .pure _

theorem msrExit (a : Nat) (write : Bool) (q : W64) (h : QuietWork s u) : Act.Keeps (QuietWork s) (msrExit u a write q) :=
  .ite (.bind (.set (h.drawn 1)) fun _ => .throw _) (.pure _)

theorem userMsrAllowed (write : Bool) (a : W64) : Act.Keeps (QuietWork s) (userMsrAllowed write a) :=
  have hbit : Act.Keeps (QuietWork s) (userMsrBit write a.toNat) :=
    .getBind fun _ _ => .bind (.liftE _) fun as => .bind (loadPhys as) fun _ => .pure _
  .getBind fun _ _ => .bind (.need _ _) fun _ => .bind hbit fun _ => .getBind fun _ _ => .need _ _

theorem userMsrExit (g : Gpr) (a : Nat) (write : Bool) : Act.Keeps (QuietWork s) (userMsrExit g a write) :=
  .getBind fun _ h => .ite (.ite (.bind (.set (h.drawn 1)) fun _ => .throw _) (.throw _)) (.pure _)

end QuietWork

/-! ### Actions that stop with nothing visible -/

/-- After quiet work from `s`, the action completes without a delivery of its own, or where it stops with an exception, no
change is visible. -/
def Act.Precise {α : Type} (s : State) (a : Act α) : Prop :=
  ∀ u, QuietWork s u → match a u with
    | .ok _ v => v.delivered = s.delivered
    | .error e v => e.IsException → QuietWork s v

namespace Act.Precise

variable {α β : Type}

theorem of_keeps {a : Act α} (h : Act.Keeps (QuietWork s) a) : Act.Precise s a := by
  intro u hu
  have hs := h u hu
  unfold Act.final at hs
  cases hr : a u with
  | ok x v => rw [hr] at hs; exact hs.delivered_eq
  | error e v => rw [hr] at hs; exact fun _ => hs

theorem bind {x : Act α} {f : α → Act β} (hx : Act.Keeps (QuietWork s) x) (hf : ∀ a, Act.Precise s (f a)) :
    Act.Precise s (x >>= f) := by
  intro u hu
  have hs := hx u hu
  unfold Act.final at hs
  rw [Act.bind_run]
  cases hr : x u with
  | ok a v => rw [hr] at hs; exact hf a v hs
  | error e v => rw [hr] at hs; exact fun _ => hs

theorem getBind {f : State → Act β} (hf : ∀ u, QuietWork s u → Act.Precise s (f u)) : Act.Precise s (get >>= f) :=
  fun u h => hf u h u h

theorem ite {c : Prop} [Decidable c] {x y : Act α} (hx : Act.Precise s x) (hy : Act.Precise s y) :
    Act.Precise s (if c then x else y) := iteInduction (fun _ => hx) fun _ => hy

theorem check {c : Bool} {e : Trap} {f : Unit → Act β} (hf : ∀ a, Act.Precise s (f a)) :
    Act.Precise s (need c e >>= f) := bind (.need _ _) hf

/-- The last change of an instruction. -/
theorem update {f : State → State} (hf : ∀ u, (f u).delivered = u.delivered := by exact fun _ => rfl) :
    Act.Precise s (modify f) :=
  fun u h => (hf u).trans h.delivered_eq

theorem set {t : State} (h : t.delivered = s.delivered) : Act.Precise s (set t : Act Unit) := fun _ _ => h

/-- Once no exception can follow, an action may make changes that are visible. -/
theorem bindUpdate {x : Act α} {f : State → State} (hx : Act.Precise s x)
    (hf : ∀ u, (f u).delivered = u.delivered := by exact fun _ => rfl) : Act.Precise s (x >>= fun _ => modify f) := by
  intro u hu
  have hs := hx u hu
  rw [Act.bind_run]
  cases hr : x u with
  | ok a v => rw [hr] at hs; exact (hf v).trans hs
  | error e v => rw [hr] at hs; exact hs

theorem memWrite (seg : Seg) (off : W64) (bs : List Byte) (ac : Bool) : Act.Precise s (memWrite seg off bs ac) :=
  .getBind fun _ _ => .bind (.liftE _) fun as => update fun u => u.raoForce_delivered as

/-! ### The instructions but the restartable ones -/

theorem cpuid : Act.Precise s (modify cpuidEffect) := update

theorem raoPost (op : RaoOp) (sz : RaoSize) (m : MemOp) (r : Gpr) : Act.Precise s (raoPost op sz m r) :=
  getBind fun _ h => check fun _ => bind (.liftE _) fun _ => check fun _ => set h.delivered_eq

theorem movrsByte (d : Reg8) (m : MemOp) : Act.Precise s (movrsByte d m) :=
  getBind fun _ _ => check fun _ => bind (QuietWork.loadOp m 1 true) fun _ => update fun _ => by cases d <;> rfl

theorem movrsWide (sz : OpSize) (d : Gpr) (m : MemOp) : Act.Precise s (movrsWide sz d m) :=
  getBind fun _ _ => check fun _ => bind (QuietWork.loadOp m _ true) fun _ => update fun _ => by cases sz <;> rfl

theorem vmovrs (e vl : Nat) (d : VReg) (k : KReg) (z : Bool) (m : MemOp) : Act.Precise s (vmovrs e vl d k z m) :=
  getBind fun _ _ => check fun _ => check fun _ => bind (.liftE _) fun _ =>
    bind (.modify fun _ h => h.raoForce _) fun _ => update fun u => u.setZmm_delivered d _

theorem sm4 (ok : State → Bool) (l : W32 → W32) (vl : Nat) (d s1 : VReg) (s2 : VecSrc) :
    Act.Precise s (sm4 ok l vl d s1 s2) :=
  getBind fun _ _ => check fun _ => check fun _ => bind (QuietWork.vecSrc vl s2) fun _ => update

theorem keyFailure (reason : Nat) : Act.Precise s (keyFailure reason) := update

theorem bindWrite (out : W64) (b : List Byte) : Act.Precise s (bindWrite out b) :=
  bind (QuietWork.bindKeys b) fun keys => match keys with
    | none => keyFailure 1
    | some _ => bind (QuietWork.draw _) fun _ => ite (bindUpdate (memWrite _ _ _ _)) (keyFailure 1)

theorem bindKey : Act.Precise s bindKey := by
  refine getBind fun u _ => check fun _ => check fun _ => check fun _ => check fun _ =>
    bind (QuietWork.memRead _ _ _ _) fun _ => check fun _ => ?_
  split
  · exact bindUpdate update
  · exact bindWrite _ _

theorem pconfigFailure (reason : Nat) : Act.Precise s (pconfigFailure reason) :=
  update fun u => by unfold State.setPconfigRax; split <;> rfl

/-- A key slot is written, and PCONFIG succeeds. -/
theorem program {f : State → State} (hf : ∀ u, (f u).delivered = u.delivered := by exact fun _ => rfl) :
    Act.Precise s (do modify f; pconfigSuccess) :=
  bindUpdate (update hf) fun u => by unfold State.setPconfigRax; split <;> rfl

theorem mktmeCommand (b : List Byte) : Act.Precise s (mktmeCommand b) := by
  unfold Machine.mktmeCommand
  split
  · exact program fun u => u.setTmemk_delivered _ _
  · exact bind (QuietWork.draw _) fun _ => ite (bind (QuietWork.draw _) fun _ => ite (program fun u => u.setTmemk_delivered _ _) (pconfigFailure 2))
      (pconfigFailure 2)
  · exact program fun u => u.setTmemk_delivered _ _
  · exact program fun u => u.setTmemk_delivered _ _

theorem mktmeProgram : Act.Precise s mktmeProgram :=
  getBind fun _ _ => check fun _ => check fun _ => check fun _ => bind (QuietWork.memRead _ _ _ _) fun b =>
    check fun _ => bind (QuietWork.draw _) fun _ => ite (mktmeCommand b) (pconfigFailure 5)

theorem tseProgram : Act.Precise s tseProgram :=
  getBind fun _ _ => check fun _ => check fun _ => check fun _ => bind (QuietWork.memRead _ _ _ _) fun _ =>
    check fun _ => bind (QuietWork.draw _) fun _ => ite program (pconfigFailure 5)

theorem tseProgramWrapped : Act.Precise s tseProgramWrapped :=
  getBind fun _ _ => check fun _ => check fun _ => bind (QuietWork.memRead _ _ _ _) fun _ => check fun _ =>
    ite (bind (QuietWork.draw _) fun _ => ite program (pconfigFailure 5)) (pconfigFailure 7)

theorem configure : Act.Precise s configure := by
  refine getBind fun _ _ => check fun _ => ?_
  split
  · exact mktmeProgram
  · exact tseProgram
  · exact tseProgramWrapped
  · exact of_keeps (.throw _)

theorem msrWrite (a : Nat) (v : W64) : Act.Precise s (msrWrite a v) :=
  getBind fun u h => check fun _ => set (by
    obtain ⟨hframe, -⟩ := u.msrFrame_msrStore (msrHome a) v
    exact (congrArg (fun p => p.2.2.1.2.1) hframe).trans h.delivered_eq)

theorem readMsrImplicit : Act.Precise s readMsrImplicit :=
  getBind fun _ h => check fun _ => check fun _ => bind (h.msrExit _ _ _) fun _ => bind (QuietWork.msrRead _) fun _ => update

theorem readMsrImm (apx : Bool) (d : Gpr) (n : W32) : Act.Precise s (readMsrImm apx d n) :=
  getBind fun _ h => check fun _ => check fun _ => bind (h.msrExit _ _ _) fun _ => bind (QuietWork.msrRead _) fun _ => update

theorem writeMsrImplicit : Act.Precise s writeMsrImplicit :=
  getBind fun _ h => check fun _ => check fun _ => bind (h.msrExit _ _ _) fun _ => msrWrite _ _

theorem writeMsrImm (apx : Bool) (n : W32) (g : Gpr) : Act.Precise s (writeMsrImm apx n g) :=
  getBind fun _ h => check fun _ => check fun _ => bind (h.msrExit _ _ _) fun _ => msrWrite _ _

theorem userRead (d : Gpr) (a : W64) : Act.Precise s (userRead d a) :=
  getBind fun _ _ => check fun _ => bind (QuietWork.userMsrAllowed false a) fun _ => getBind fun _ _ => check fun _ =>
    bind (QuietWork.userMsrExit _ _ _) fun _ => bind (QuietWork.msrRead _) fun _ => update

theorem userWrite (a : W64) (g : Gpr) : Act.Precise s (userWrite a g) :=
  getBind fun _ _ => check fun _ => bind (QuietWork.userMsrAllowed true a) fun _ => getBind fun _ _ => check fun _ =>
    check fun _ => bind (QuietWork.userMsrExit _ _ _) fun _ => msrWrite _ _

theorem waitOnMonitor : Act.Precise s waitOnMonitor :=
  getBind fun u h => check fun _ => check fun _ => set (by
    obtain ⟨hu, -⟩ := mwaitEffect_eq u
    rw [hu]; exact h.delivered_eq)

theorem armMonitor (seg : Option Seg) (asz : AddrSize) : Act.Precise s (armMonitor seg asz) :=
  getBind fun _ _ => check fun _ => bind (.liftE _) fun as => bind (QuietWork.loadPhys as) fun _ =>
    update fun u => by rw [State.armAt_eq]

/-! ### AMX but the strided loads and stores -/

/-- An operation on tiles alone: the checks, then a new state. -/
theorem tileOp (ok : Cfg → Bool) (c : State → Bool) {f : State → State}
    (hf : ∀ u, (f u).delivered = u.delivered := by exact fun _ => rfl) :
    Act.Precise s (tileAction ok c fun u => MonadStateOf.set (f u)) :=
  bind (.amxBegin ok) fun _ => bind .tileDataEnabled fun _ => getBind fun u h => check fun _ =>
    set ((hf u).trans h.delivered_eq)

theorem rowToZmm (f : W32 → W32) (d : VReg) (t : Tmm) (sel : RowSel) : Act.Precise s (rowToZmm f d t sel) :=
  getBind fun _ _ => check fun _ => bind (.amxBegin _) fun _ => getBind fun _ h => check fun _ =>
    bind .tileDataEnabled fun _ => check fun _ => check fun _ => set h.delivered_eq

theorem loadTileConfig (m : MemOp) : Act.Precise s (loadTileConfig m) :=
  bind (.amxBegin _) fun _ => bind (QuietWork.loadOp m 64 false) fun b => getBind fun u h => check fun _ =>
    set ((u.delivered_loadConfig b).trans h.delivered_eq)

theorem storeTileConfig (m : MemOp) : Act.Precise s (storeTileConfig m) :=
  bind (.amxBegin _) fun _ => getBind fun _ _ => getBind fun _ _ => memWrite _ _ _ _

theorem releaseTileConfig : Act.Precise s releaseTileConfig := bind (.amxBegin _) fun _ => update

end Act.Precise

/-! ### What an exception leaves of an instruction -/

/-- What instruction `i` from `s` has left in `u`, where it stops with an exception, before the exception is taken: `u` is
`s` but for the free draws, memory and the progress of a tile load or store (R568, R829). -/
structure StopsAt (i : Instr) (s u : State) : Prop where
  frame : u = { s with amx := u.amx, mem := u.mem, rao := u.rao, monitor := u.monitor, draws := u.draws }
  amx : Claims.restartable i = false → u.amx = s.amx
  tiles : Claims.restartFrame i s u
  load : ∀ c m, i = .tileloadd c m ∨ i = .tileloaddT1 c m ∨ i = .tileloaddrs c m ∨ i = .tileloaddrsT1 c m →
    Claims.loadProgress s u c m
  memory : (∀ m c, i ≠ .tilestored m c) → sameMemory s u
  store : ∀ m c, i = .tilestored m c → ∀ a,
    (∀ k, s.amx.startRow.toNat ≤ k → k < u.amx.startRow.toNat → ∀ as,
      accessBytes s (segOf m) (s.rowAddr m k) (s.tileColsb c) .write false = .ok as → a ∉ as) →
    readByte u.seen a = readByte s.seen a

/-- The action `i` completes without a delivery of its own, or stops as an exception must. -/
def Act.Stops (i : Instr) (s : State) (a : Act Unit) : Prop :=
  match a s with
  | .ok _ v => v.delivered = s.delivered
  | .error e v => e.IsException → StopsAt i s v

theorem restartFrame_of_amx_eq {i : Instr} (h : u.amx = s.amx) : Claims.restartFrame i s u := by
  refine ⟨by rw [h], by rw [h], by rw [h], fun q _ => ?_, fun q r _ _ => State.tileRow_congr h q r,
    fun q r _ _ => State.tileRow_congr h q r⟩
  rw [State.tile, h]
  rfl

theorem QuietWork.stopsAt {i : Instr} (h : QuietWork s u) : StopsAt i s u where
  frame := by rw [h.amx_eq]; exact h.1
  amx _ := h.amx_eq
  tiles := restartFrame_of_amx_eq h.amx_eq
  load _ _ _ := .inl h.amx_eq
  memory _ := h.2
  store _ _ _ a _ := h.2 a

theorem Act.Precise.stops {i : Instr} {a : Act Unit} (ha : Act.Precise s a) : Act.Stops i s a := by
  have hs := ha s (.refl s)
  unfold Act.Stops
  cases hr : a s with
  | ok x v => rw [hr] at hs; exact hs
  | error e v => rw [hr] at hs; exact fun he => (hs he).stopsAt

/-- The checks of an instruction on tile data change nothing: they stop it, or its own work is left. -/
theorem tileAction_cases (ok : Cfg → Bool) (c : State → Bool) (k : State → Act Unit) (s : State) :
    (∃ e, tileAction ok c k s = .error e s) ∨ (c s = true ∧ tileAction ok c k s = k s s) := by
  unfold tileAction
  simp only [Act.bind_run, amxBegin_run, tileDataEnabled_run, Act.get_run, need_run]
  cases hb : amxEnabled s && ok s.cfg with
  | false => exact .inl ⟨udTrap, rfl⟩
  | true =>
    cases hx : s.ctx.tsx with
    | true => exact .inl ⟨.abort, rfl⟩
    | false =>
      cases hd : bitAt (s.msrVal 0x1C4) 18 with
      | true => exact .inl ⟨.xfd, by simp only [if_true, Bool.false_eq_true, if_false, hd]⟩
      | false =>
        simp only [if_true, Bool.false_eq_true, if_false, hd]
        cases c s with
        | false => exact .inl ⟨udTrap, rfl⟩
        | true => exact .inr ⟨rfl, rfl⟩

theorem stops_tileAction {i : Instr} {ok : Cfg → Bool} {c : State → Bool} {k : State → Act Unit}
    (h : c s = true → Act.Stops i s (k s)) : Act.Stops i s (tileAction ok c k) := by
  unfold Act.Stops at *
  obtain ⟨e, he⟩ | ⟨hc, he⟩ := tileAction_cases ok c k s <;> rw [he]
  · exact fun _ => (QuietWork.refl s).stopsAt
  · exact h hc

/-! ### The first row that cannot be accessed (R568) -/

/-- Memory row `j` of a strided operand can be accessed. -/
def rowAccessible (s : State) (m : MemOp) (nbytes : Nat) (k : Access) (j : Nat) : Prop :=
  ∃ as, accessBytes s (segOf m) (s.rowAddr m j) nbytes k false = .ok as

/-- Where a property of the `n` numbers from `i` on fails, there is a first failure. -/
theorem first_failure (P : Nat → Prop) (i n : Nat) :
    (∀ j, i ≤ j → j < i + n → P j) ∨ ∃ k, k < n ∧ (∀ j, i ≤ j → j < i + k → P j) ∧ ¬ P (i + k) := by
  induction n with
  | zero => exact .inl fun j hlo hhi => absurd hhi (by omega)
  | succ n ih =>
    obtain hall | ⟨k, hk, hbelow, hfail⟩ := ih
    · by_cases hn : P (i + n)
      · refine .inl fun j hlo hhi => ?_
        obtain hlt | rfl : j < i + n ∨ j = i + n := by omega
        · exact hall j hlo hlt
        · exact hn
      · exact .inr ⟨n, by omega, hall, hn⟩
    · exact .inr ⟨k, by omega, hbelow, hfail⟩

/-- The physical bytes of the accessible rows of a range. -/
theorem exists_rowBytes {m : MemOp} {nbytes i n : Nat} {k : Access}
    (h : ∀ j, i ≤ j → j < i + n → rowAccessible s m nbytes k j) :
    ∃ phys : Nat → List Nat, ∀ j, i ≤ j → j < i + n →
      accessBytes s (segOf m) (s.rowAddr m j) nbytes k false = .ok (phys j) := by
  choose! phys hphys using h
  exact ⟨phys, hphys⟩

theorem accessBytes_of_not_accessible {m : MemOp} {nbytes j : Nat} {k : Access} (h : ¬ rowAccessible s m nbytes k j) :
    ∃ e, accessBytes s (segOf m) (s.rowAddr m j) nbytes k false = .error e := by
  cases ha : accessBytes s (segOf m) (s.rowAddr m j) nbytes k false with
  | ok as => exact absurd ⟨as, ha⟩ h
  | error e => exact ⟨e, rfl⟩

theorem loadRows_add (t : Tmm) (m : MemOp) (nbytes k n i : Nat) :
    loadRows t m nbytes (k + n) i = loadRows t m nbytes k i >>= fun _ => loadRows t m nbytes n (i + k) := by
  induction k generalizing i with
  | zero => rw [Nat.zero_add]; rfl
  | succ k ih =>
    have hn : k + 1 + n = (k + n) + 1 := by omega
    have hi : i + (k + 1) = i + 1 + k := by omega
    rw [hn, hi, loadRows, loadRows]
    simp only [bind_assoc, ih]

theorem storeRows_add (t : Tmm) (m : MemOp) (nbytes k n i : Nat) :
    storeRows t m nbytes (k + n) i = storeRows t m nbytes k i >>= fun _ => storeRows t m nbytes n (i + k) := by
  induction k generalizing i with
  | zero => rw [Nat.zero_add]; rfl
  | succ k ih =>
    have hn : k + 1 + n = (k + n) + 1 := by omega
    have hi : i + (k + 1) = i + 1 + k := by omega
    rw [hn, hi, storeRows, storeRows]
    simp only [bind_assoc, ih]

theorem State.tileRow_of_le (s : State) (q : Tmm) {r : Nat} (hr : 16 ≤ r) : s.tileRow q r = 0 := by
  rw [State.tileRow_eq, rowAt_eq, dif_neg (by omega)]

theorem State.tileRows_lt (s : State) (t : Tmm) : s.tileRows t < 256 := BitVec.isLt _

theorem State.startRow_setStartRow (s : State) {n : Nat} (h : n < 256) : (s.setStartRow n).amx.startRow.toNat = n := by
  rw [State.setStartRow_amx, BitVec.toNat_ofNat]
  exact Nat.mod_eq_of_lt h

/-! ### Tile loads (R601, R613) -/

/-- A plain tile load of `c` from `m`. -/
def isTileLoad (i : Instr) (c : Tmm) (m : MemOp) : Prop :=
  i = .tileloadd c m ∨ i = .tileloaddT1 c m ∨ i = .tileloaddrs c m ∨ i = .tileloaddrsT1 c m

theorem isTileLoad.loadDest_eq {i : Instr} {c : Tmm} {m : MemOp} (h : isTileLoad i c m) : Claims.loadDest i = [c] := by
  obtain rfl | rfl | rfl | rfl := h <;> rfl

theorem isTileLoad.restartable {i : Instr} {c : Tmm} {m : MemOp} (h : isTileLoad i c m) :
    Claims.restartable i = true := by
  obtain rfl | rfl | rfl | rfl := h <;> rfl

theorem isTileLoad.operands {i : Instr} {c c' : Tmm} {m m' : MemOp} (h : isTileLoad i c m) (h' : isTileLoad i c' m') :
    c' = c ∧ m' = m := by
  obtain rfl | rfl | rfl | rfl := h <;> obtain h | h | h | h := h' <;> cases h <;> exact ⟨rfl, rfl⟩

theorem isTileLoad.ne_store {i : Instr} {c c' : Tmm} {m m' : MemOp} (h : isTileLoad i c m) : i ≠ .tilestored m' c' := by
  obtain rfl | rfl | rfl | rfl := h <;> nofun

/-- Where row `j` of a tile load is the first that cannot be loaded, the rows from start_row up to it are. -/
theorem stopsAt_tileLoad {i : Instr} {c : Tmm} {m : MemOp} (hi : isTileLoad i c m) {j : Nat}
    (hlo : s.amx.startRow.toNat ≤ j) (hhi : j < s.tileRows c) (hw : LoadWork s u) (hk : KeepsTilesBut [c] s u)
    (hs : u.amx.startRow.toNat = j)
    (hrows : ∀ r, r < 16 →
      (r < s.amx.startRow.toNat → u.tileRow c r = s.tileRow c r) ∧ (j ≤ r → u.tileRow c r = 0) ∧
      (s.amx.startRow.toNat ≤ r → r < j →
        ∃ as, accessBytes s (segOf m) (s.rowAddr m r) (s.tileColsb c) .read false = .ok as ∧
          u.tileRow c r = lowBits (8 * s.tileColsb c) (ofBytes (readBytes s.seen as)))) : StopsAt i s u := by
  obtain ⟨hamx, hmem⟩ := hw
  obtain ⟨hp, hr, hc, ht⟩ := hk
  have hbelow (r : Nat) (hlt : r < s.amx.startRow.toNat) : u.tileRow c r = s.tileRow c r := by
    by_cases hr : r < 16
    · exact (hrows r hr).1 hlt
    · rw [State.tileRow_of_le _ _ (Nat.le_of_not_lt hr), State.tileRow_of_le _ _ (Nat.le_of_not_lt hr)]
  have hdest := hi.loadDest_eq
  refine
    { frame := by rw [hamx]
      amx := fun h => absurd (hi.restartable.symm.trans h) nofun
      tiles := ⟨hp, hr, hc, fun q hq => ht q (hdest ▸ hq), fun q r hq hlt => ?_, fun q r hq hlt => ?_⟩
      load := fun c' m' hi' => ?_
      memory := fun _ => hmem.1
      store := fun _ _ h => absurd h hi.ne_store }
  · obtain rfl : c = q := by rw [hdest] at hq; exact List.head_eq_of_cons_eq hq
    exact hbelow r hlt
  · obtain rfl : q = c := by rw [hdest] at hq; exact List.mem_singleton.mp hq
    exact hbelow r (by omega)
  · obtain ⟨rfl, rfl⟩ := hi.operands hi'
    exact .inr ⟨hs ▸ hlo, hs ▸ hhi, fun r hr hge => ⟨fun h => (hrows r hr).2.1 (hs ▸ h), fun h => (hrows r hr).2.2 hge (hs ▸ h)⟩⟩

theorem tileLoad_stops {i : Instr} {c : Tmm} {m : MemOp} (hi : isTileLoad i c m) (ok : Cfg → Bool) :
    Act.Stops i s (tileLoad ok c m) := by
  refine stops_tileAction (c := fun s => tileMemOk s c) (k := fun s => do
    modify (·.zeroUpperRows c s.amx.startRow.toNat)
    loadRows c m (s.tileColsb c) (s.tileRows c - s.amx.startRow.toNat) s.amx.startRow.toNat
    zeroStartRow) fun hc => ?_
  obtain ⟨-, -, -, hlt⟩ := tileMemOk_iff.mp hc
  have hzero : LoadWork s (s.zeroUpperRows c s.amx.startRow.toNat) := .update _
  have hkzero : KeepsTilesBut [c] s (s.zeroUpperRows c s.amx.startRow.toNat) := .setTile s _ (.head _)
  unfold Act.Stops
  rw [Act.bind_run, Act.modify_run]
  dsimp only
  obtain hall | ⟨k, hkn, hbelow, hfail⟩ := first_failure (rowAccessible s m (s.tileColsb c) .read) s.amx.startRow.toNat
    (s.tileRows c - s.amx.startRow.toNat)
  · obtain ⟨phys, hphys⟩ := exists_rowBytes hall
    obtain ⟨v, hrun, hv, -, -⟩ := loadRows_completes (t := c) hzero hphys
    rw [Act.bind_run, hrun]
    exact (congrArg State.delivered hv.1 :)
  · obtain ⟨phys, hphys⟩ := exists_rowBytes hbelow
    obtain ⟨e, he⟩ := accessBytes_of_not_accessible hfail
    obtain ⟨v, hrun, hv, hkv, hrows⟩ := loadRows_completes (t := c) hzero hphys
    obtain ⟨n, hn⟩ := Nat.exists_eq_add_of_lt hkn
    have hj : s.amx.startRow.toNat + k < s.tileRows c := by omega
    have hstop : readRow m (s.amx.startRow.toNat + k) (s.tileColsb c) v =
        .error e (v.setStartRow (s.amx.startRow.toNat + k)) := by
      have hw : AmxWork s (v.setStartRow (s.amx.startRow.toNat + k)) := hv.1.trans (.update _)
      rw [readRow_run, hw.accessBytes_eq, hw.rowAddr_eq, he]
    rw [hn, Nat.add_assoc, loadRows_add]
    simp only [Act.bind_run, hrun, loadRows, hstop]
    refine fun _ => stopsAt_tileLoad hi (Nat.le_add_right _ k) hj (hv.trans (.update _))
      ((hkzero.trans hkv).trans (.setStartRow v _))
      (v.startRow_setStartRow (hj.trans (s.tileRows_lt c))) fun r hr => ?_
    rw [State.tileRow_setStartRow, hrows r hr, s.tileRow_zeroUpperRows c _ hr]
    refine ⟨fun h => ?_, fun h => ?_, fun hlo hhi => ⟨phys r, hphys r hlo hhi, if_pos ⟨hlo, hhi⟩⟩⟩
    · rw [if_neg (by omega), if_neg (by omega)]
    · rw [if_neg (by omega), if_pos (by omega)]

/-! ### Tile stores (R602) -/

theorem tileStore_stops (m : MemOp) (c : Tmm) : Act.Stops (.tilestored m c) s (tileStore m c) := by
  refine stops_tileAction (c := fun s => tileMemOk s c) (k := fun s => do
    storeRows c m (s.tileColsb c) (s.tileRows c - s.amx.startRow.toNat) s.amx.startRow.toNat
    zeroStartRow) fun hc => ?_
  obtain ⟨-, -, -, hlt⟩ := tileMemOk_iff.mp hc
  unfold Act.Stops
  obtain hall | ⟨k, hkn, hbelow, hfail⟩ := first_failure (rowAccessible s m (s.tileColsb c) .write) s.amx.startRow.toNat
    (s.tileRows c - s.amx.startRow.toNat)
  · obtain ⟨phys, hphys⟩ := exists_rowBytes hall
    obtain ⟨v, hrun, hv, -⟩ := storeRows_completes (t := c) (u := s) rfl hphys
    rw [Act.bind_run, hrun]
    exact (congrArg State.delivered hv :)
  · obtain ⟨phys, hphys⟩ := exists_rowBytes hbelow
    obtain ⟨e, he⟩ := accessBytes_of_not_accessible hfail
    obtain ⟨v, hrun, hv, hmem⟩ := storeRows_completes (t := c) (u := s) rfl hphys
    obtain ⟨n, hn⟩ := Nat.exists_eq_add_of_lt hkn
    have hj : s.amx.startRow.toNat + k < s.tileRows c := by omega
    have hw : StoreWork s (v.setStartRow (s.amx.startRow.toNat + k)) := hv.trans (.setStartRow v _)
    have hstart := v.startRow_setStartRow (hj.trans (s.tileRows_lt c))
    rw [hn, Nat.add_assoc, storeRows_add]
    simp only [Act.bind_run, hrun, storeRows, Act.modify_run, Act.get_run, memWrite_run, toBytes_length,
      hw.amxWork.accessBytes_eq, hw.amxWork.rowAddr_eq, he]
    refine fun _ =>
      { frame := by rw [hw]
        amx := nofun
        tiles := by rw [hw]; exact ⟨rfl, rfl, rfl, fun _ _ => rfl, fun _ _ _ _ => rfl, fun _ _ _ _ => rfl⟩
        load := fun _ _ h => by obtain h | h | h | h := h <;> cases h
        memory := fun h => absurd rfl (h m c)
        store := fun m' c' h a ha => ?_ }
    cases h
    refine (hmem a).trans (readByte_writeRows_frame s c _ fun j hjr => ?_)
    obtain ⟨hlo, hhi⟩ := List.mem_range'_1.mp hjr
    exact ha j hlo (hstart.symm ▸ hhi) (phys j) (hphys j hlo hhi)

/-! ### Pair loads (R604) -/

theorem State.tileRow_setTile_of_eq (s : State) (t q : Tmm) {v : Vector W512 16} {r : Nat}
    (h : rowAt v r = s.tileRow t r) : (s.setTile t v).tileRow q r = s.tileRow q r := by
  rw [State.tileRow_eq, State.tile_setTile]
  split
  · next hq =>
    have htile : s.tile q = s.tile t := by simp only [State.tile, hq]
    rw [h, State.tileRow, State.tileRow, htile]
  · rfl

theorem State.tileRow_writeRow_of_ne (s : State) (t q : Tmm) {i r : Nat} (x : W512) (n : Nat) (hr : r ≠ i) :
    (s.writeRow t i x n).tileRow q r = s.tileRow q r := by
  by_cases h : r < 16
  · exact s.tileRow_setTile_of_eq t q ((rowAt_setIfInBounds h).trans (if_neg hr))
  · rw [State.tileRow_of_le _ _ (Nat.le_of_not_lt h), State.tileRow_of_le _ _ (Nat.le_of_not_lt h)]

theorem State.tileRow_zeroUpperRows_of_lt (s : State) (t q : Tmm) {n r : Nat} (hr : r < n) :
    (s.zeroUpperRows t n).tileRow q r = s.tileRow q r := by
  by_cases h : r < 16
  · exact s.tileRow_setTile_of_eq t q ((rowAt_zeroFrom _ h).trans (if_neg (Nat.not_le.mpr hr)))
  · rw [State.tileRow_of_le _ _ (Nat.le_of_not_lt h), State.tileRow_of_le _ _ (Nat.le_of_not_lt h)]

/-- What a pair load does: it loads, changes no tile but `a` and `b`, and keeps the rows that were done before. -/
def PairWork (a b : Tmm) (s u : State) : Prop :=
  LoadWork s u ∧ KeepsTilesBut [a, b] s u ∧ ∀ q r, 2 * r + 2 ≤ s.amx.startRow.toNat → u.tileRow q r = s.tileRow q r

namespace PairWork

variable {a b : Tmm}

theorem refl (s : State) : PairWork a b s s := ⟨.refl s, .refl s, fun _ _ _ => rfl⟩

theorem raoForce (fp : List Nat) (h : PairWork a b s u) : PairWork a b s (u.raoForce fp) := by
  obtain ⟨hw, hk, hr⟩ := h
  have hamx : (u.raoForce fp).amx = u.amx := State.raoForce_amx ..
  exact ⟨hw.trans (.raoForce u fp), hk.trans (.of_amx_eq hamx), fun q r hlt =>
    (State.tileRow_congr hamx q r).trans (hr q r hlt)⟩

theorem setStartRow (n : Nat) (h : PairWork a b s u) : PairWork a b s (u.setStartRow n) := by
  obtain ⟨hw, hk, hr⟩ := h
  exact ⟨hw.trans (.update _), hk.trans (.setStartRow u n), hr⟩

theorem pairPrologue {t : Tmm} (ht : t ∈ [a, b]) (h : PairWork a b s u) :
    PairWork a b s (u.pairPrologue t s.amx.startRow.toNat) := by
  obtain ⟨hw, hk, hr⟩ := h
  refine ⟨hw.trans ?_, hk.trans (keepsTilesBut_pairPrologue u ht _), fun q r hlt => Eq.trans ?_ (hr q r hlt)⟩
  · rw [State.pairPrologue_eq]; exact .update _
  · have hzero := u.tileRow_zeroUpperRows_of_lt t q (n := (s.amx.startRow.toNat + 1) / 2) (r := r) (by omega)
    unfold State.pairPrologue
    dsimp only
    split
    · exact (State.tileRow_writeRow_of_ne _ t q _ _ (by omega)).trans hzero
    · exact hzero

theorem pairRow {t : Tmm} (ht : t ∈ [a, b]) {i : Nat} (hi : s.amx.startRow.toNat ≤ i) (base : Nat) (x : W512)
    (h : PairWork a b s u) : PairWork a b s (u.pairRow t i base x) := by
  obtain ⟨hw, hk, hr⟩ := h
  refine ⟨hw.trans ?_, hk.trans (keepsTilesBut_pairRow u ht i base x), fun q r hlt => Eq.trans ?_ (hr q r hlt)⟩
  · rw [State.pairRow_eq]; exact .update _
  · unfold State.pairRow
    split
    · exact State.tileRow_writeRow_of_ne _ t q _ _ (by omega)
    · rfl

theorem readRow (m : MemOp) (i n : Nat) : Act.Keeps (PairWork a b s) (readRow m i n) :=
  .bind (.modify fun _ h => h.setStartRow i) fun _ => .getBind fun _ _ =>
    .bind (.getBind fun _ _ => .bind (.liftE _) fun as => fun _ h => h.raoForce as) fun _ => .pure _

theorem pairRows (m : MemOp) (limit n : Nat) {i : Nat} (hi : s.amx.startRow.toNat ≤ i) :
    Act.Keeps (PairWork a b s) (pairRows a b m limit n i) := by
  induction n generalizing i with
  | zero => exact .pure _
  | succ n ih =>
    exact .getBind fun _ _ => .bind (.ite (readRow m i _) (.pure _)) fun x =>
      .bind (.modify fun _ h => (h.pairRow (.head _) hi 0 x).pairRow (.tail _ (.head _)) hi _ x) fun _ =>
        ih (Nat.le_succ_of_le hi)

theorem stopsAt {i : Instr} (hdest : Claims.loadDest i = [a, b]) (hrestart : Claims.restartable i = true)
    (h : PairWork a b s u) : StopsAt i s u := by
  obtain ⟨⟨hamx, hmem⟩, ⟨hp, hr, hc, ht⟩, hrows⟩ := h
  have hpair : ∀ q r, Claims.loadDest i = [q] → r < s.amx.startRow.toNat → u.tileRow q r = s.tileRow q r :=
    fun _ _ hq => absurd (hdest.symm.trans hq) nofun
  exact
    { frame := by rw [hamx]
      amx := fun h => absurd (hrestart.symm.trans h) nofun
      tiles := ⟨hp, hr, hc, fun q hq => ht q (hdest ▸ hq), hpair, fun q r _ hlt => hrows q r hlt⟩
      load := fun c m h => absurd (hdest.symm.trans (isTileLoad.loadDest_eq h)) nofun
      memory := fun _ => hmem.1
      store := fun m c h => by subst h; cases hdest }

end PairWork

theorem pairLoad_stops {i : Instr} (t : Tmm) (m : MemOp) (ok : Cfg → Bool) (pad : Nat)
    (hdest : Claims.loadDest i = [pairBase t, pairNext t]) (hrestart : Claims.restartable i = true) : Act.Stops i s (pairLoad ok pad t m) := by
  refine stops_tileAction (c := fun s => pairOk s t) (k := fun s => do
    modify (fun u => (u.pairPrologue (pairBase t) s.amx.startRow.toNat).pairPrologue (pairNext t) s.amx.startRow.toNat)
    pairRows (pairBase t) (pairNext t) m (2 * s.tileRows (pairBase t) - pad)
      (2 * s.tileRows (pairBase t) - s.amx.startRow.toNat) s.amx.startRow.toNat
    zeroStartRow) fun _ => ?_
  have hkeeps : Act.Keeps (PairWork (pairBase t) (pairNext t) s) (do
      modify (fun u => (u.pairPrologue (pairBase t) s.amx.startRow.toNat).pairPrologue (pairNext t) s.amx.startRow.toNat)
      pairRows (pairBase t) (pairNext t) m (2 * s.tileRows (pairBase t) - pad)
        (2 * s.tileRows (pairBase t) - s.amx.startRow.toNat) s.amx.startRow.toNat
      zeroStartRow) :=
    .bind (.modify fun _ h => (h.pairPrologue (.head _)).pairPrologue (.tail _ (.head _))) fun _ =>
      .bind (PairWork.pairRows m _ _ (le_refl _)) fun _ => .modify fun _ h => h.setStartRow 0
  have hs := hkeeps s (.refl s)
  unfold Act.final at hs
  unfold Act.Stops
  split at hs
  · next hrun => rw [hrun]; exact (congrArg State.delivered hs.1.1 :)
  · next hrun => rw [hrun]; exact fun _ => hs.stopsAt hdest hrestart

/-! ### Every instruction -/

/-- Every instruction runs an action that stops as an exception must. -/
theorem exec_eq_stops (i : Instr) (s : State) : ∃ a, Act.Stops i s a ∧ exec i s = settle a s := by
  cases i with
  | cpuid => exact ⟨_, Act.Precise.cpuid.stops, rfl⟩
  | aadd sz m r | aand sz m r | aor sz m r | axor sz m r => exact ⟨_, (Act.Precise.raoPost _ sz m r).stops, rfl⟩
  | movrsB d m => exact ⟨_, (Act.Precise.movrsByte d m).stops, rfl⟩
  | movrsV sz d m => exact ⟨_, (Act.Precise.movrsWide sz d m).stops, rfl⟩
  | vmovrsB128 d k z m | vmovrsB256 d k z m | vmovrsB512 d k z m | vmovrsW128 d k z m | vmovrsW256 d k z m
  | vmovrsW512 d k z m | vmovrsD128 d k z m | vmovrsD256 d k z m | vmovrsD512 d k z m | vmovrsQ128 d k z m
  | vmovrsQ256 d k z m | vmovrsQ512 d k z m => exact ⟨_, (Act.Precise.vmovrs _ _ d k z m).stops, rfl⟩
  | prefetchrst2 m => exact ⟨_, (Act.Precise.of_keeps (.pure ())).stops, rfl⟩
  | pbndkb => exact ⟨_, Act.Precise.bindKey.stops, rfl⟩
  | pconfig => exact ⟨_, Act.Precise.configure.stops, rfl⟩
  | rdmsr => exact ⟨_, Act.Precise.readMsrImplicit.stops, rfl⟩
  | rdmsrImm d n | rdmsrImmApx d n => exact ⟨_, (Act.Precise.readMsrImm _ d n).stops, rfl⟩
  | urdmsr d a | urdmsrImm d a => exact ⟨_, (Act.Precise.userRead d _).stops, rfl⟩
  | uwrmsr a v | uwrmsrImm a v => exact ⟨_, (Act.Precise.userWrite _ v).stops, rfl⟩
  | wrmsrns => exact ⟨_, Act.Precise.writeMsrImplicit.stops, rfl⟩
  | wrmsrnsImm n v | wrmsrnsImmApx n v => exact ⟨_, (Act.Precise.writeMsrImm _ n v).stops, rfl⟩
  | mwait => exact ⟨_, Act.Precise.waitOnMonitor.stops, rfl⟩
  | monitor g z => exact ⟨_, (Act.Precise.armMonitor g z).stops, rfl⟩
  | vsm4Key4Vex128 d a b | vsm4Key4Vex256 d a b | vsm4Key4Evex128 d a b | vsm4Key4Evex256 d a b
  | vsm4Key4Evex512 d a b | vsm4Rnds4Vex128 d a b | vsm4Rnds4Vex256 d a b | vsm4Rnds4Evex128 d a b
  | vsm4Rnds4Evex256 d a b | vsm4Rnds4Evex512 d a b => exact ⟨_, (Act.Precise.sm4 _ _ _ d a b).stops, rfl⟩
  | ldtilecfg m => exact ⟨_, (Act.Precise.loadTileConfig m).stops, rfl⟩
  | sttilecfg m => exact ⟨_, (Act.Precise.storeTileConfig m).stops, rfl⟩
  | tilerelease => exact ⟨_, Act.Precise.releaseTileConfig.stops, rfl⟩
  | tilezero | tcmmimfp16ps | tcmmrlfp16ps | tdpbf8ps | tdpbhf8ps | tdphbf8ps | tdphf8ps | tmmultf32ps
  | tconjtcmmimfp16ps | ttcmmimfp16ps | ttcmmrlfp16ps | ttdpbf16ps | ttdpfp16ps | ttmmultf32ps | tconjtfp16
  | ttransposed => exact ⟨_, (Act.Precise.tileOp _ _).stops, rfl⟩
  | tileloadd t m => exact ⟨_, tileLoad_stops (.inl rfl) _, rfl⟩
  | tileloaddT1 t m => exact ⟨_, tileLoad_stops (.inr (.inl rfl)) _, rfl⟩
  | tileloaddrs t m => exact ⟨_, tileLoad_stops (.inr (.inr (.inl rfl))) _, rfl⟩
  | tileloaddrsT1 t m => exact ⟨_, tileLoad_stops (.inr (.inr (.inr rfl))) _, rfl⟩
  | tilestored m t => exact ⟨_, tileStore_stops m t, rfl⟩
  | t2rpntlvwZ0 t m | t2rpntlvwZ0T1 t m | t2rpntlvwZ1 t m | t2rpntlvwZ1T1 t m | t2rpntlvwZ0RS t m
  | t2rpntlvwZ0RST1 t m | t2rpntlvwZ1RS t m | t2rpntlvwZ1RST1 t m => exact ⟨_, pairLoad_stops t m _ _ rfl rfl, rfl⟩
  | tcvtrowd2psR d t r | tcvtrowd2psI d t r | tcvtrowps2pbf16hR d t r | tcvtrowps2pbf16hI d t r
  | tcvtrowps2pbf16lR d t r | tcvtrowps2pbf16lI d t r | tcvtrowps2phhR d t r | tcvtrowps2phhI d t r
  | tcvtrowps2phlR d t r | tcvtrowps2phlI d t r | tilemovrowR d t r | tilemovrowI d t r =>
    exact ⟨_, (Act.Precise.rowToZmm _ d t _).stops, rfl⟩

/-- An instruction that delivers an exception has stopped with it, in a state where no more than its progress is visible. -/
theorem exec_exception {i : Instr} {v : Nat} {c : Option W32} {r : W64} (hd : s.delivered = none)
    (ht : exec i s = .next t) (he : t.delivered = some (.exception v c r)) :
    ∃ e u, t = u.takeTrap e ∧ e.IsException ∧ StopsAt i s u ∧ r = u.rip := by
  obtain ⟨a, ha, hexec⟩ := exec_eq_stops i s
  rw [hexec] at ht
  unfold Act.Stops at ha
  obtain ⟨u, hu, hs⟩ | ⟨e, u, hu, hs⟩ := settle_run a s <;> rw [hs] at ht <;> cases ht <;> rw [hu] at ha
  · exact absurd (he.symm.trans (ha.trans hd)) nofun
  · obtain ⟨hexn, hr⟩ := State.takeTrap_delivers he
    exact ⟨e, u, rfl, hexn, ha hexn, hr⟩

end Sys2Proof.Machine

namespace Sys2Proof.Claims

open Sys2Proof.Machine

/-- Settles O17: an instruction stops with an exception before it makes a visible change, but for the rows that a strided
load or store has done; taking the exception then changes CR2, IA32_XFD_ERR and the delivery alone. -/
theorem exceptionsArePrecise : Obligations.ExceptionsArePrecise := by
  intro i s t v c r hd ht he
  obtain ⟨e, u, rfl, hexn, hs, hr⟩ := exec_exception hd ht he
  obtain ⟨hframe, hmsr, hcr2⟩ := hexn.takeTrap_frame u
  have hamx : (u.takeTrap e).amx = u.amx := (congrArg State.amx hframe :)
  have hseen : (u.takeTrap e).seen = u.seen := State.seen_congr (u.memory_takeTrap e)
  have htile (q : Tmm) : (u.takeTrap e).tile q = u.tile q := by rw [State.tile, hamx]; rfl
  have hrow (q : Tmm) (n : Nat) : (u.takeTrap e).tileRow q n = u.tileRow q n := State.tileRow_congr hamx q n
  have hsys : u.sys = s.sys := (congrArg State.sys hs.frame :)
  have hmsr' : u.msr = s.msr := (congrArg State.msr hs.frame :)
  refine ⟨hr.trans (congrArg State.rip hs.frame :), ?_, fun hv => (hcr2 v c r he hv).trans (congrArg Sys.cr2 hsys),
    fun a ha => (hmsr a ha).trans (congrArg (Store.get 0 · a) hmsr'), fun hi => hamx.trans (hs.amx hi), ?_, fun q m hi => ?_,
    fun hi a => ?_, fun m q hi a ha => ?_⟩
  · unfold trapFrame
    rw [hframe, hs.frame]
  · have := hs.tiles
    simpa only [restartFrame, hamx, htile, hrow] using this
  · simpa only [loadProgress, hamx, hrow] using hs.load q m hi
  · rw [hseen]; exact hs.memory hi a
  · rw [hseen]; exact hs.store m q hi a (by rwa [hamx] at ha)

end Sys2Proof.Claims

/-! ## Reset -/

namespace Sys2Proof.Machine

/-- At reset the MSR space lists three addresses, all of them below 278H (R900). -/
theorem msrVal_reset {a : Nat} (h : 0x277 < a) : State.reset.msrVal a = 0 := by
  have hne : a ≠ 0x1B ∧ a ≠ 0x1A0 ∧ a ≠ 0x277 := by omega
  obtain ⟨h1B, h1A0, h277⟩ := hne
  simp only [State.msrVal, State.reset, Store.get, h1B, h1A0, h277, if_false]

theorem triggerUnit_reset (u : Nat) : triggerUnit State.reset u = 0 := by
  rw [triggerUnit, msrVal_reset (by omega)]
  exact BitVec.extractLsb'_zero

/-- TILEDATA is zero at reset (R42). -/
theorem tile_reset (t : Tmm) : State.reset.tile t = Vector.replicate 16 0 := by
  simp [State.tile, State.reset]

end Sys2Proof.Machine

namespace Sys2Proof.Claims

open Sys2Proof.Machine

/-- Settles O11: the AMX state by its definition, the MSRs because none of them is listed at reset. -/
theorem resetValues : Obligations.ResetValues := by
  refine ⟨rfl, rfl, rfl, fun t => ?_, fun t r => ?_, msrVal_reset (by decide), msrVal_reset (by decide), fun n _ => ?_,
    fun n _ => msrVal_reset (by omega), fun u _ => by rw [triggerUnit_reset]; rfl, rfl, rfl, rfl,
    fun u _ => by rw [triggerUnit_reset]; rfl⟩
  · simp [State.tileRows, State.tileColsb, State.reset]
  · rw [State.tileRow_eq, tile_reset, rowAt_replicate]
  · unfold gpCfgC fxCfgC
    exact ⟨msrVal_reset (by omega), msrVal_reset (by omega)⟩

end Sys2Proof.Claims

/-! ## Outside 64-bit mode -/

namespace Sys2Proof.Claims

open Sys2Proof.Machine

/-- Settles O18: the check that begins each of these instructions asks for 64-bit mode. -/
theorem outsideLongMode : Obligations.OutsideLongMode := by
  intro i s hi h64
  have hcheck (b c : Bool) : (s.is64 && b && c) = false := by rw [h64]; rfl
  have huser : userMsrOk s = false := hcheck _ _
  have hmovrs : movrsOk s = false := by rw [movrsOk, h64]; rfl
  have hvmovrs (vl : Nat) : vmovrsOk s vl = false := vmovrsOk_eq_false (.inl h64)
  cases ha : isAmx i with
  | true => exact exec_of_amxEnabled_eq_false ha (by rw [amxEnabled, h64]; rfl)
  | false =>
    cases i with
    | movrsB | movrsV => exact settle_need hmovrs
    | vmovrsB128 | vmovrsB256 | vmovrsB512 | vmovrsW128 | vmovrsW256 | vmovrsW512 | vmovrsD128 | vmovrsD256 | vmovrsD512
    | vmovrsQ128 | vmovrsQ256 | vmovrsQ512 => exact settle_vmovrs_of_not_ok (hvmovrs _)
    | pbndkb => exact settle_need (by rw [h64, Bool.and_false])
    | rdmsrImm | rdmsrImmApx | wrmsrnsImm | wrmsrnsImmApx => exact settle_need (hcheck _ _)
    | urdmsr | urdmsrImm | uwrmsr | uwrmsrImm => exact settle_need huser
    | _ => simp [longModeOnly, ha] at hi

end Sys2Proof.Claims

/-! ## IA32_UINTR_TIMER -/

namespace Sys2Proof.Machine

variable {s : State}

/-! ### The rules of MSR 1B00H (R44, R47, R500) -/

/-- The address has a rule of its own, so that no row of the configuration and no throttle register stands there. -/
theorem definedMsr_userTimer (c : Cfg) : definedMsr c 0x1B00 = true := by
  simp [definedMsr, inSome]

theorem cbaMsr_userTimer (c : Cfg) : cbaMsr c 0x1B00 = false := by
  have h : takenHigh 0x1B00 = true := by decide
  rw [cbaMsr, h, Bool.not_true, Bool.and_false]

/-- IA32_UINTR_TIMER exists exactly with UTMR (R44, R840). -/
theorem msrExists_userTimer (s : State) : msrExists s 0x1B00 = hasUtmr s.cfg := by
  have hcounted : msrExistsCounted s.cfg 0x1B00 = none := by simp [msrExistsCounted, legacyCounters, legacyFixed]
  simp only [msrExists, hcounted, cbaMsr_userTimer, Bool.or_false]
  simp [msrExistsHigh]

theorem msrReadOnly_userTimer (c : Cfg) : msrReadOnly c 0x1B00 = false := by
  simp [msrReadOnly, msrDesc_of_defined (definedMsr_userTimer c)]

theorem msrReserved_userTimer (c : Cfg) : msrReserved c 0x1B00 = 0 := by
  have hmask : configuredMask c 0x1B00 = 0 := by simp [configuredMask, maskFixed, inSome]
  simp [msrReserved, hmask, msrReservedHigh, msrReservedNamed, thermalReserved]

theorem msrExtraOk_userTimer (s : State) (v : W64) : msrExtraOk s 0x1B00 v = true := by
  have hcat : catMask s.cfg 0x1B00 = none := by simp [catMask, definedMsr_userTimer]
  simp [msrExtraOk, cbaMsr_userTimer, hcat]

/-- Any value may be written, with UTMR (R841). -/
theorem msrWriteOk_userTimer (s : State) (v : W64) : msrWriteOk s 0x1B00 v = hasUtmr s.cfg := by
  have hhome : msrHome 0x1B00 = 0x1B00 := rfl
  have hcanonical : msrCanonical 0x1B00 = false := rfl
  have hmask : (v &&& 0 == 0) = true := beq_iff_eq.mpr BitVec.and_zero
  simp only [msrWriteOk, hhome, msrExists_userTimer, msrReadOnly_userTimer, msrReserved_userTimer, hmask, hcanonical,
    msrExtraOk_userTimer, Bool.not_false, Bool.and_true, Bool.true_or]

/-- A read answers the stored value: in VMX non-root operation the virtual user-timer control (R841, R846). -/
theorem msrValue_userTimer (s : State) :
    msrValue s 0x1B00 = if s.nonRoot then s.vmcs.virtUserTimer else s.msrVal 0x1B00 := by
  have hfree : msrFreeBits s 0x1B00 = 0 := by simp only [msrFreeBits, msrDesc_of_defined (definedMsr_userTimer s.cfg)]
  have hhome : msrHome 0x1B00 = 0x1B00 := rfl
  simp [msrValue, hhome, hfree, msrStored]

/-- Outside VMX non-root operation a write stores the value (R841). -/
theorem State.msrWritten_userTimer_of_root (h : s.nonRoot = false) (v : W64) : s.msrWritten 0x1B00 v = s.setMsr 0x1B00 v := by
  rw [State.msrWritten_userTimer, State.writeUserTimer, h]
  rfl

end Sys2Proof.Machine

namespace Sys2Proof.Claims

open Sys2Proof.Machine

/-- Settles O38: no bit is reserved, and a write outside VMX non-root operation stores the value. -/
theorem userTimerMsr : Obligations.UserTimerMsr := by
  refine ⟨fun s v hu hn => ?_, fun s hu => (msrExists_userTimer s).trans hu⟩
  have hval : (s.setMsr 0x1B00 v).msrVal 0x1B00 = v := (s.msrVal_setMsr _ _ v).trans (if_pos rfl)
  have hroot : (s.setMsr 0x1B00 v).nonRoot = false := hn
  rw [State.msrWritten_userTimer_of_root hn]
  refine ⟨(msrWriteOk_userTimer s v).trans hu, ?_, ?_, ?_⟩
  · rw [msrValue_userTimer, hroot]
    exact hval
  · rw [State.userVector, hval]
  · rw [State.userDeadline, hval]

end Sys2Proof.Claims

/-! ## What PEBS samples can change -/

namespace Sys2Proof.Machine

variable {s u : State}

/-- The MSRs that a sample writes: index, global status, performance metrics and the counters (R773, R776, R791, R766). -/
def sampleMsrs : List Nat := [0x3F5, 0x38E, 0x329] ++ allCounters.map counterAddr

theorem counterAddr_mem_sampleMsrs {c : Nat} (hc : c < 64) : counterAddr c ∈ sampleMsrs :=
  List.mem_append_right _ (List.mem_map_of_mem (List.mem_range.mpr hc))

/-- `u` is `s` but for memory with its posted updates and monitor, the sampling state, the MSRs of `sampleMsrs` and the free
draws. -/
def Sampled (s u : State) : Prop :=
  u = { s with mem := u.mem, rao := u.rao, monitor := u.monitor, msr := u.msr, pebs := u.pebs, draws := u.draws } ∧
    ∀ a, a ∉ sampleMsrs → u.msrVal a = s.msrVal a

namespace Sampled

theorem refl (s : State) : Sampled s s := ⟨rfl, fun _ _ => rfl⟩

theorem setMsr {a : Nat} (ha : a ∈ sampleMsrs) (v : W64) (h : Sampled s u) : Sampled s (u.setMsr a v) := by
  obtain ⟨hu, hm⟩ := h
  refine ⟨by rw [State.setMsr, hu], fun b hb => ?_⟩
  have hne : b ≠ a := by rintro rfl; exact hb ha
  rw [State.msrVal_setMsr, if_neg hne, hm b hb]

theorem drawn (n : Nat) (h : Sampled s u) : Sampled s (u.drawn n) :=
  ⟨by rw [State.drawn, h.1], h.2⟩

theorem setPebs (p : Pebs) (h : Sampled s u) : Sampled s { u with pebs := p } :=
  ⟨by rw [h.1], h.2⟩

theorem raoForce (fp : List Nat) (h : Sampled s u) : Sampled s (u.raoForce fp) := by
  obtain ⟨hu, hm⟩ := h
  have hmsr : (u.raoForce fp).msr = u.msr := by rw [u.raoForce_eq]
  refine ⟨?_, fun a ha => (congrArg (Store.get 0 · a) hmsr).trans (hm a ha)⟩
  rw [u.raoForce_eq, hu]

theorem store (as : List Nat) (bs : List Byte) (h : Sampled s u) : Sampled s (u.store as bs) :=
  ⟨by rw [State.store, h.1], h.2⟩

theorem writeRecordByte (a : Nat) (b : Byte) (h : Sampled s u) : Sampled s (writeRecordByte u a b) :=
  iteInduction (fun _ => h) fun _ => (h.raoForce _).store _ _

theorem writeRecord (a : Nat) (r : Rec) (h : Sampled s u) : Sampled s (writeRecord u a r) := by
  induction r generalizing u a with
  | nil => exact h
  | cons x r ih =>
    cases x with
    | none => exact ih (a + 1) h
    | some b => exact ih (a + 1) (h.writeRecordByte a b)

theorem afterRecord {c : Nat} (hc : c < 64) (n : Nat) (h : Sampled s u) : Sampled s (afterRecord u c n) := by
  have hindex (v : W64) : Sampled s (u.setMsr 0x3F5 v) := h.setMsr (by decide) v
  have hstatus {w : State} (v : W64) (p : Pebs) (hw : Sampled s w) : Sampled s { w.setMsr 0x38E v with pebs := p } :=
    (hw.setMsr (by decide) v).setPebs p
  have hmetrics {w : State} (hw : Sampled s w) : Sampled s (w.setMsr 0x329 0) := hw.setMsr (by decide) 0
  unfold Machine.afterRecord
  dsimp only
  refine setMsr (counterAddr_mem_sampleMsrs hc) _ ?_
  split <;> split
  · exact hmetrics (hstatus _ _ (hindex _))
  · exact hmetrics (hindex _)
  · exact hstatus _ _ (hindex _)
  · exact hindex _

theorem sampleOne (pre : State) (l : List W64) {c : Nat} (hc : c < 64) (h : Sampled s u) :
    Sampled s (sampleOne pre l u c) := by
  unfold Machine.sampleOne
  dsimp only
  split
  · split
    · exact h.drawn 1
    · exact (h.setPebs _).drawn 1
  · split
    · exact (h.setPebs _).setMsr (by decide) _
    · exact (((h.setPebs _).writeRecord _ _).afterRecord hc _).drawn 1

theorem runPebs (pre : State) (l : List W64) (h : Sampled s u) : Sampled s (runPebs pre l u) := by
  unfold Machine.runPebs
  split_ifs
  · exact h
  · exact h
  · exact h.setPebs _
  · refine List.foldlRecOn _ _ h fun _ hp c hc => hp.sampleOne pre l ?_
    exact List.mem_range.mp (List.mem_of_mem_filter hc)

end Sampled

/-! ### Leaving an enclave (R843, R857) -/

/-- Leaving an enclave that is no production one changes the context alone. -/
theorem State.aex_of_not_production (h : s.ctx.enclave ≠ .production) : s.aex = s.outside := if_neg h

/-- Leaving an enclave changes the context and what samples change. -/
theorem State.sampled_aex (s : State) : Sampled s.outside s.aex :=
  iteInduction (fun _ => (Sampled.refl _).runPebs _ _) fun _ => .refl _

end Sys2Proof.Machine

/-! ## Guest-timer events -/

namespace Sys2Proof.Machine

variable {s u : State}

/-! ### The state that processing starts from (R857) -/

theorem State.sampled_wake_aex (s : State) : Sampled s.wake.outside s.wake.aex := s.wake.sampled_aex

theorem State.wake_aex_of_not_production (h : s.ctx.enclave ≠ .production) :
    s.wake.aex = { s with ctx := s.wake.aex.ctx } := by
  have houtside : s.wake.aex = s.wake.outside := State.aex_of_not_production h
  rw [houtside]
  rfl

theorem Sampled.vmcs_eq (h : Sampled s u) : u.vmcs = s.vmcs := (congrArg State.vmcs h.1 :)

theorem Sampled.physBits_eq (h : Sampled s u) : u.physBits = s.physBits := by
  have hcfg : u.cfg = s.cfg := (congrArg State.cfg h.1 :)
  have hkeys : Store.get 0 u.msr 0x982 = Store.get 0 s.msr 0x982 := h.2 0x982 (by decide)
  have hready : tmeReady u = tmeReady s := by simp only [tmeReady, hkeys]
  rw [State.physBits, State.physBits, hcfg, hready, hkeys]

theorem State.timerVector_wake_aex (s : State) : s.wake.aex.timerVector = s.vmcs.virtTimerVector.toNat % 256 := by
  rw [State.timerVector, s.sampled_wake_aex.vmcs_eq]
  rfl

theorem State.virrByte_wake_aex (s : State) (v : Nat) : s.wake.aex.virrByte v = s.virrByte v := by
  rw [State.virrByte, s.sampled_wake_aex.vmcs_eq, s.sampled_wake_aex.physBits_eq]
  rfl

/-! ### The effect (R856) -/

/-- In the virtual-APIC page the bit of the vector is set in its byte, and no other byte is written. -/
theorem State.seen_guestTimerEffect (u : State) (a : Nat) :
    readByte u.guestTimerEffect.seen a =
      if a = u.virrByte u.timerVector then setBitTo (readByte u.seen a) (u.timerVector % 8) true
      else readByte u.seen a := by
  have hforced := u.readBytes_raoForce [u.virrByte u.timerVector]
  simp only [readBytes, List.map_cons, List.map_nil, List.cons.injEq, and_true] at hforced
  by_cases ha : a = u.virrByte u.timerVector
  · subst ha
    have hstored := u.readBytes_seen_store (as := [u.virrByte u.timerVector])
      (bs := [setBitTo (readByte u.seen (u.virrByte u.timerVector)) (u.timerVector % 8) true])
      (List.nodup_singleton _) rfl
    simp only [readBytes, List.map_cons, List.map_nil, List.cons.injEq, and_true] at hstored
    rw [if_pos rfl, ← hstored, ← hforced]
    rfl
  · rw [if_neg ha]
    exact u.readByte_seen_store _ (mt List.mem_singleton.mp ha)

theorem State.vmcs_guestTimerEffect (u : State) :
    u.guestTimerEffect.vmcs =
      { u.vmcs with
        guestIntStatus := (u.vmcs.guestIntStatus &&& 0xFF00) |||
          BitVec.ofNat 16 (max (u.vmcs.guestIntStatus.toNat % 256) u.timerVector)
        guestDeadlineShadow := 0 } := by
  have hforce : (u.raoForce [u.virrByte u.timerVector]).vmcs = u.vmcs := by rw [State.raoForce_eq]
  simp only [State.guestTimerEffect, State.store_vmcs, hforce]

/-- Replacing the low byte of a field of 16 bits. -/
theorem toNat_replaceLowByte (w : BitVec 16) {n : Nat} (hn : n < 256) :
    ((w &&& 0xFF00) ||| BitVec.ofNat 16 n).toNat = w.toNat / 256 * 256 + n := by
  have hmask : w &&& (0xFF00 : BitVec 16) = w >>> 8 <<< 8 := (BitVec.shiftLeft_ushiftRight (x := w) (n := 8)).symm
  have hhigh : (w &&& 0xFF00).toNat = 2 ^ 8 * (w.toNat / 2 ^ 8) := by
    rw [hmask, BitVec.toNat_shiftLeft, BitVec.toNat_ushiftRight, Nat.shiftRight_eq_div_pow, Nat.shiftLeft_eq]
    omega
  have hlow : (BitVec.ofNat 16 n).toNat = n := Nat.mod_eq_of_lt (by omega)
  rw [BitVec.toNat_or, hhigh, hlow, ← Nat.two_pow_add_eq_or_of_lt hn]
  omega

/-- Whether a transaction aborts shows in nothing that neither an abort nor a free value changes. -/
theorem State.processGuestTimer_keeps {α : Type} (f : State → α) (habort : ∀ t, f t.tsxAbort = f t)
    (hdrawn : ∀ t n, f (State.drawn t n) = f t) : f s.processGuestTimer = f s.wake.aex.guestTimerEffect := by
  simp only [State.processGuestTimer, apply_ite f, habort, hdrawn, ite_self]

end Sys2Proof.Machine

namespace Sys2Proof.Claims

open Sys2Proof.Machine

/-- Settles O57: the effect on the state that is woken and out of an enclave, read byte by byte. -/
theorem guestTimerEvent : Obligations.GuestTimerEvent := by
  intro s u t v b
  have hv : v < 256 := Nat.mod_lt _ (by decide)
  have hseen (a : Nat) : readByte t.seen a =
      if a = b then setBitTo (readByte u.seen a) (v % 8) true else readByte u.seen a := by
    have hkept : t.seen = u.guestTimerEffect.seen :=
      State.processGuestTimer_keeps State.seen (fun _ => rfl) fun _ _ => rfl
    rw [hkept, State.seen_guestTimerEffect, s.timerVector_wake_aex, s.virrByte_wake_aex]
  have hvmcs : t.vmcs = { s.vmcs with
      guestIntStatus := (s.vmcs.guestIntStatus &&& 0xFF00) ||| BitVec.ofNat 16 (max (s.vmcs.guestIntStatus.toNat % 256) v)
      guestDeadlineShadow := 0 } := by
    have hkept : t.vmcs = u.guestTimerEffect.vmcs :=
      State.processGuestTimer_keeps State.vmcs (fun _ => rfl) fun _ _ => rfl
    rw [hkept, State.vmcs_guestTimerEffect, s.timerVector_wake_aex, s.sampled_wake_aex.vmcs_eq]
    rfl
  have hstatus : t.vmcs.guestIntStatus.toNat =
      s.vmcs.guestIntStatus.toNat / 256 * 256 + max (s.vmcs.guestIntStatus.toNat % 256) v := by
    rw [hvmcs]
    exact toNat_replaceLowByte _ (by omega)
  refine ⟨State.wake_aex_of_not_production, ?_, fun k hk hne => ?_, fun a ha => ?_, ?_, ?_, ?_, ?_, ?_⟩
  · rw [hseen, if_pos rfl, bitAt_setBitTo, if_pos ⟨rfl, Nat.mod_lt _ (by decide)⟩]
  · rw [hseen, if_pos rfl, bitAt_setBitTo, if_neg fun h => hne h.1.symm]
  · rw [hseen, if_neg ha]
  · omega
  · omega
  · exact State.processGuestTimer_keeps State.virtualInterrupt (fun _ => rfl) fun _ _ => rfl
  · exact State.processGuestTimer_keeps State.guestDeadline (fun _ => rfl) fun _ _ => rfl
  · rw [hvmcs]

end Sys2Proof.Claims

/-! ## User-timer events -/

namespace Sys2Proof.Machine

variable {s u : State}

/-! ### When an event is due (R842, R843) -/

/-- An event is due where it is ready and no shadow holds it back. -/
theorem State.userTimerDue_iff (s : State) :
    s.userTimerDue = true ↔ Claims.userTimerReady s ∧ (s.ctx.shadow && Config.shadowBlocks s.draws) = false := by
  have hpending : s.userTimerPending = true ↔ s.userDeadline ≠ 0 ∧ s.userDeadline.toNat ≤ s.tsc.toNat := by
    rw [State.userTimerPending, Bool.and_eq_true, bne_iff_ne, decide_eq_true_iff]
  simp only [State.userTimerDue, Claims.userTimerReady, Bool.and_eq_true, bne_iff_ne, beq_iff_eq, Bool.not_eq_true',
    hpending, State.userDeadline]
  tauto

/-- What the memory subsystem does makes no event ready. -/
theorem userTimerReady_raoStep (s : State) : Claims.userTimerReady s.raoStep ↔ Claims.userTimerReady s := by
  simp only [Claims.userTimerReady, State.msrVal, State.is64, State.cpl, State.mode, State.raoStep_cfg, State.raoStep_msr,
    State.raoStep_tsc, State.raoStep_sys, State.raoStep_uif, State.raoStep_ctx, State.raoStep_rflags]

/-! ### What processing does (R844, R847) -/

theorem State.userTimerEffect_eq (u : State) :
    u.userTimerEffect =
      { u.setMsr 0x1B00 0 with
        uirr := u.uirr ||| BitVec.ofNat 64 (2 ^ u.userVector)
        userInterrupt := true
        vmcs := if u.nonRoot then { u.vmcs with virtUserTimer := 0 } else u.vmcs } := by
  unfold State.userTimerEffect
  dsimp only
  split <;> rfl

theorem State.userTimerEffect_keeps {α : Type} (f : State → α) (u : State)
    (hf : ∀ m i n v, f { u with msr := m, uirr := i, userInterrupt := n, vmcs := v } = f u := by exact fun _ _ _ _ => rfl) :
    f u.userTimerEffect = f u := by
  rw [State.userTimerEffect_eq]
  exact hf _ _ _ _

/-- Neither a transaction's abort nor the time that passes shows in what they both leave. -/
theorem State.processUserTimer_keeps {α : Type} (f : State → α) (s : State)
    (htick : ∀ t, f (State.tick t) = f t := by exact fun _ => rfl)
    (habort : ∀ t, f (State.tsxAbort t) = f t := by exact fun _ => rfl) :
    f s.processUserTimer.tick = f s.wake.aex.userTimerEffect := by
  simp only [htick, State.processUserTimer, apply_ite f, habort, ite_self]

/-- The state that processing starts from is that before the step, but for its context, memory with its posted updates and
monitor, MSRs, the sampling state and the free draws. -/
theorem State.raoStep_wake_aex_keeps {α : Type} (f : State → α) (s : State)
    (hf : ∀ c m r w x p d, f { s with ctx := c, mem := m, rao := r, monitor := w, msr := x, pebs := p, draws := d } = f s := by
      exact fun _ _ _ _ _ _ _ => rfl) : f s.raoStep.wake.aex = f s := by
  have hrao : s.raoStep = { s with mem := s.raoStep.mem, rao := s.raoStep.rao, monitor := s.raoStep.monitor,
                                   draws := s.raoStep.draws } := by
    unfold State.raoStep
    split <;> rfl
  rw [s.raoStep.sampled_wake_aex.1, hrao]
  exact hf _ _ _ _ _ _ _

/-- What neither the memory subsystem, the exit from an enclave, the effect, an abort nor time changes. -/
theorem State.userTimer_keeps {α : Type} (f : State → α) (s : State)
    (htick : ∀ t, f (State.tick t) = f t := by exact fun _ => rfl)
    (habort : ∀ t, f (State.tsxAbort t) = f t := by exact fun _ => rfl)
    (heffect : ∀ (u : State) m i n v, f { u with msr := m, uirr := i, userInterrupt := n, vmcs := v } = f u := by
      exact fun _ _ _ _ _ => rfl)
    (hstart : ∀ c m r w x p d,
      f { s with ctx := c, mem := m, rao := r, monitor := w, msr := x, pebs := p, draws := d } = f s := by
      exact fun _ _ _ _ _ _ _ => rfl) : f s.raoStep.processUserTimer.tick = f s :=
  ((State.processUserTimer_keeps f s.raoStep htick habort).trans (State.userTimerEffect_keeps f _ (heffect _))).trans
    (State.raoStep_wake_aex_keeps f s hstart)

theorem State.msrVal_userTimer_wake_aex (s : State) : s.raoStep.wake.aex.msrVal 0x1B00 = s.msrVal 0x1B00 := by
  have hsampled : s.raoStep.wake.aex.msrVal 0x1B00 = s.raoStep.msrVal 0x1B00 := s.raoStep.sampled_wake_aex.2 _ (by decide)
  rw [hsampled, State.msrVal, State.raoStep_msr, State.msrVal]

theorem State.nonRoot_raoStep_wake_aex (s : State) : s.raoStep.wake.aex.nonRoot = s.nonRoot := by
  have hctx : s.raoStep.wake.aex.ctx.vmx = s.raoStep.ctx.vmx :=
    (congrArg (fun t => t.ctx.vmx) s.raoStep.sampled_wake_aex.1 :)
  rw [State.nonRoot, hctx, State.raoStep_ctx, State.nonRoot]

theorem step_of_userTimerDue (hd : s.delivered = none) (hg : s.raoStep.guestTimerDue = false)
    (hu : s.raoStep.userTimerDue = true) : step s = .next s.raoStep.processUserTimer.tick := by
  simp [step, stepActive, hd, hg, hu]

theorem State.reg_tsxAbort_of_ne {g : Gpr} (hg : g ≠ .rax) : u.tsxAbort.reg g = u.reg g :=
  (u.reg_setReg .rax g _).trans (if_neg hg)

/-- EAX holds the abort's information, so that the upper half of RAX is 0. -/
theorem State.reg_rax_tsxAbort_lt (u : State) : (u.tsxAbort.reg .rax).toNat < 2 ^ 32 := by
  have hrax : u.tsxAbort.reg .rax = (Config.tsxAbortStatus u.draws).setWidth 64 :=
    (u.reg_setReg .rax .rax _).trans (if_pos rfl)
  rw [hrax, BitVec.toNat_setWidth]
  exact (Nat.mod_le _ _).trans_lt (Config.tsxAbortStatus u.draws).isLt

end Sys2Proof.Machine

namespace Sys2Proof.Claims

open Sys2Proof.Machine

/-- Settles O56: a transaction's abort and time leave what the effect did to the state that is woken and out of an enclave. -/
theorem userTimerEvent : Obligations.UserTimerEvent := by
  refine ⟨fun s h => (userTimerReady_raoStep s).mp (s.raoStep.userTimerDue_iff.mp h).1, fun s h hs => ?_,
    fun s hd hg hu => ?_⟩
  · refine s.raoStep.userTimerDue_iff.mpr ⟨(userTimerReady_raoStep s).mpr h, ?_⟩
    rw [State.raoStep_ctx, hs, Bool.false_and]
  intro u
  have heffect := u.userTimerEffect_eq
  have hroot : u.nonRoot = s.nonRoot := s.nonRoot_raoStep_wake_aex
  have hvmcs : s.raoStep.processUserTimer.tick.vmcs = if s.nonRoot then { s.vmcs with virtUserTimer := 0 } else s.vmcs := by
    rw [State.processUserTimer_keeps State.vmcs, heffect, hroot, State.raoStep_wake_aex_keeps State.vmcs s]
  refine ⟨_, step_of_userTimerDue hd hg hu, ?_, ?_, ?_, State.userTimer_keeps State.rip s, State.userTimer_keeps State.rflags s,
    State.userTimer_keeps State.vec s, State.userTimer_keeps State.amx s, ?_, fun g hne => ?_, fun hn => ?_, fun hn => ?_,
    fun he => ?_, fun ht => ?_, fun ht => ?_⟩
  · rw [State.processUserTimer_keeps State.uirr, heffect, State.userVector, s.msrVal_userTimer_wake_aex,
      State.raoStep_wake_aex_keeps State.uirr s]
  · rw [State.processUserTimer_keeps State.userInterrupt, heffect]
  · rw [State.processUserTimer_keeps (State.msrVal · 0x1B00), heffect]
    have hcleared : (u.setMsr 0x1B00 0).msrVal 0x1B00 = 0 := (u.msrVal_setMsr _ _ 0).trans (if_pos rfl)
    exact hcleared
  · exact (State.processUserTimer_keeps State.mem s.raoStep).trans (State.userTimerEffect_keeps State.mem u)
  · exact State.userTimer_keeps (State.reg · g) s (habort := fun _ => State.reg_tsxAbort_of_ne hne)
  · rw [hvmcs, if_pos hn]
  · rw [hvmcs, if_neg (ne_true_of_eq_false hn)]
  · exact State.wake_aex_of_not_production (by rwa [State.raoStep_ctx])
  · have hnot : ¬ s.raoStep.ctx.tsx = true := by rw [State.raoStep_ctx, ht]; decide
    have hdone : s.raoStep.processUserTimer = u.userTimerEffect := if_neg hnot
    rw [hdone]
    exact ⟨(State.userTimerEffect_keeps State.gpr u).trans (State.raoStep_wake_aex_keeps State.gpr s),
      ((State.userTimerEffect_keeps State.delivered u).trans (State.raoStep_wake_aex_keeps State.delivered s)).trans hd⟩
  · have hdone : s.raoStep.processUserTimer = u.userTimerEffect.tsxAbort := if_pos (by rwa [State.raoStep_ctx])
    rw [hdone]
    have hrip : u.userTimerEffect.rip = s.rip :=
      (State.userTimerEffect_keeps State.rip u).trans (State.raoStep_wake_aex_keeps State.rip s)
    exact ⟨rfl, congrArg (fun r => some (Delivered.tsxAbort r)) hrip, State.reg_rax_tsxAbort_lt _⟩

end Sys2Proof.Claims

/-! ## Timers in VMX non-root operation -/

namespace Sys2Proof.Machine

variable {s : State}

/-! ### Guest-timer events are taken first (R832, R851, R852) -/

theorem State.guestTimerDue_iff (s : State) :
    s.guestTimerDue = true ↔
      s.guestDeadline ≠ 0 ∧ s.guestDeadline.toNat ≤ s.tsc.toNat ∧ s.ctx.activity ≠ .shutdown ∧ s.ctx.activity ≠ .waitSipi := by
  simp only [State.guestTimerDue, Bool.and_eq_true, bne_iff_ne, decide_eq_true_iff, and_assoc]

theorem State.guestTimerDue_raoStep (s : State) : s.raoStep.guestTimerDue = s.guestTimerDue := by
  simp only [State.guestTimerDue, State.raoStep_guestDeadline, State.raoStep_tsc, State.raoStep_ctx]

theorem step_of_guestTimerDue (hd : s.delivered = none) (hg : s.raoStep.guestTimerDue = true) :
    step s = .next s.raoStep.processGuestTimer.tick := by
  simp [step, stepActive, hd, hg]

/-! ### The virtual user-timer control (R846) -/

/-- The deadline that a write in VMX non-root operation stores. -/
def State.actualUserDeadline (s : State) (v : W64) : W64 :=
  if v &&& 0xFFFFFFFFFFFFFFC0 = 0 then 0 else virtToActual s.vmcs (v &&& 0xFFFFFFFFFFFFFFC0)

theorem State.msrWritten_userTimer_of_nonRoot (h : s.nonRoot = true) (v : W64) :
    s.msrWritten 0x1B00 v =
      { s.setMsr 0x1B00 ((s.actualUserDeadline v &&& 0xFFFFFFFFFFFFFFC0) ||| (v &&& 0x3F)) with
        vmcs := { s.vmcs with virtUserTimer := v } } := by
  rw [State.msrWritten_userTimer, State.writeUserTimer, if_pos h]
  rfl

theorem toNat_and_0x3F (x : W64) : (x &&& 0x3F).toNat = x.toNat % 64 := by
  rw [BitVec.toNat_and]
  exact Nat.and_two_pow_sub_one_eq_mod x.toNat 6

theorem toNat_mod_of_deadlineAndVector (d v : W64) :
    ((d &&& 0xFFFFFFFFFFFFFFC0) ||| (v &&& 0x3F)).toNat % 64 = v.toNat % 64 := by
  have hdeadline : d &&& 0xFFFFFFFFFFFFFFC0 &&& 0x3F = 0 := by rw [BitVec.and_assoc]; exact BitVec.and_zero
  have hvector : v &&& 0x3F &&& 0x3F = v &&& 0x3F := by rw [BitVec.and_assoc, BitVec.and_self]
  rw [← toNat_and_0x3F, ← toNat_and_0x3F, BitVec.and_or_distrib_right, hdeadline, hvector]
  exact congrArg BitVec.toNat BitVec.zero_or

theorem deadlineAndVector_and (d v : W64) :
    ((d &&& 0xFFFFFFFFFFFFFFC0) ||| (v &&& 0x3F)) &&& 0xFFFFFFFFFFFFFFC0 = d &&& 0xFFFFFFFFFFFFFFC0 := by
  have hvector : v &&& 0x3F &&& 0xFFFFFFFFFFFFFFC0 = 0 := by rw [BitVec.and_assoc]; exact BitVec.and_zero
  have hdeadline : d &&& 0xFFFFFFFFFFFFFFC0 &&& 0xFFFFFFFFFFFFFFC0 = d &&& 0xFFFFFFFFFFFFFFC0 := by
    rw [BitVec.and_assoc, BitVec.and_self]
  rw [BitVec.and_or_distrib_right, hdeadline, hvector]
  exact BitVec.or_zero

/-! ### IA32_TSC_DEADLINE under "APIC-timer virtualization" (R855) -/

theorem msrValue_tscDeadline (h : s.timerVirtualized = true) : msrValue s 0x6E0 = s.vmcs.guestDeadlineShadow := by
  have hhome : msrHome 0x6E0 = 0x6E0 := rfl
  have hdefined : definedMsr s.cfg 0x6E0 = true := by simp [definedMsr, inSome]
  have hfree : msrFreeBits s 0x6E0 = 0 := by simp only [msrFreeBits, msrDesc_of_defined hdefined]
  simp [msrValue, hhome, hfree, msrStored, h]

theorem State.msrWritten_tscDeadline (h : s.timerVirtualized = true) (v : W64) :
    s.msrWritten 0x6E0 v = { s with vmcs := { s.vmcs with guestDeadlineShadow := v }
                                    guestDeadline := if v = 0 then 0 else virtToActual s.vmcs v } := by
  have hwritten : s.msrWritten 0x6E0 v = s.writeTscDeadline v := rfl
  rw [hwritten, State.writeTscDeadline, if_pos h]

/-! ### The inverse of TSC scaling (R859) -/

/-- The counter value that `unscaled` answers where it fits 64 bits. -/
def unscaledNat (v : Vmcs) (d : W64) : Nat :=
  (d.toNat * 2 ^ 48 + (v.tscMultiplier.toNat - 1)) / v.tscMultiplier.toNat
    + Config.deadlineSlack d v.tscOffset v.tscMultiplier % (2 ^ 48 / v.tscMultiplier.toNat + 1)

/-- Its product with the multiplier is at or above the deadline and by less than one more scaled unit. -/
theorem unscaledNat_mul_bounds {v : Vmcs} (d : W64) (hm : 0 < v.tscMultiplier.toNat) :
    d.toNat * 2 ^ 48 ≤ unscaledNat v d * v.tscMultiplier.toNat ∧
      unscaledNat v d * v.tscMultiplier.toNat < (d.toNat + 1) * 2 ^ 48 + v.tscMultiplier.toNat := by
  unfold unscaledNat
  generalize Config.deadlineSlack d v.tscOffset v.tscMultiplier = k
  generalize d.toNat = n, v.tscMultiplier.toNat = m at hm ⊢
  have hceil := Nat.div_add_mod (n * 2 ^ 48 + (m - 1)) m
  have hrem := Nat.mod_lt (n * 2 ^ 48 + (m - 1)) hm
  have hslack : k % (2 ^ 48 / m + 1) ≤ 2 ^ 48 / m := Nat.le_of_lt_succ (Nat.mod_lt _ (Nat.succ_pos _))
  have hunit : k % (2 ^ 48 / m + 1) * m ≤ 2 ^ 48 := (Nat.mul_le_mul_right m hslack).trans (Nat.div_mul_le_self _ _)
  rw [Nat.add_mul, Nat.mul_comm (_ / m) m]
  omega

theorem toNat_unscaled {v : Vmcs} {d : W64} (hm : 0 < v.tscMultiplier.toNat)
    (hfit : d.toNat * 2 ^ 48 + 2 ^ 48 + v.tscMultiplier.toNat ≤ 2 ^ 64 * v.tscMultiplier.toNat) :
    (unscaled v d).toNat = unscaledNat v d := by
  have hlt : unscaledNat v d < 2 ^ 64 := by
    have hprod : unscaledNat v d * v.tscMultiplier.toNat < 2 ^ 64 * v.tscMultiplier.toNat := by
      have hbound := (unscaledNat_mul_bounds d hm).2
      omega
    exact Nat.lt_of_mul_lt_mul_right hprod
  have hnot : ¬ (v.tscMultiplier.toNat = 0 ∨ 2 ^ 64 ≤ unscaledNat v d) := by omega
  have hval : unscaled v d = BitVec.ofNat 64 (unscaledNat v d) := if_neg hnot
  rw [hval, BitVec.toNat_ofNat, Nat.mod_eq_of_lt hlt]

/-! ### VM entry (R735, R853, R854) -/

theorem State.nextRip_setZf (s : State) : s.setZf.nextRip = s.nextRip := by
  have hv86 : bitAt s.setZf.rflags 17 = bitAt s.rflags 17 := (bitAt_setBitTo _ _ _ _).trans (if_neg (by decide))
  have hlong : s.setZf.is64 = s.is64 := by
    rw [State.is64, State.mode, hv86]
    rfl
  rw [State.nextRip, hlong]
  rfl

/-- The checks of "APIC-timer virtualization" fail where virtual-interrupt delivery is off, RDTSC exits or the vector is above
255. -/
theorem State.vmEntryOk_eq_false (h : s.tertiary 8 = true)
    (hbad : s.vmcs.virtIntDelivery = false ∨ s.vmcs.rdtscExiting = true ∨ 255 < s.vmcs.virtTimerVector.toNat) :
    s.vmEntryOk = false := by
  have h8 : (s.vmcs.activateTertiary && bitAt s.vmcs.tertiary 8) = true := h
  have hcheck : (s.vmcs.virtIntDelivery && !s.vmcs.rdtscExiting && decide (s.vmcs.virtTimerVector.toNat ≤ 255)) = false := by
    rcases hbad with hdelivery | hexit | hvector
    · rw [hdelivery, Bool.false_and, Bool.false_and]
    · rw [hexit, Bool.not_true, Bool.and_false, Bool.false_and]
    · rw [decide_eq_false (Nat.not_le.mpr hvector), Bool.and_false]
  rw [State.vmEntryOk, h8, hcheck]
  rfl

theorem State.vmEntry_of_not_ok (h : s.vmEntryOk = false) :
    s.vmEntry = { s with rip := s.nextRip, rflags := s.rflags ||| 0x40, vmcs := { s.vmcs with vmInstrError := 7 } } := by
  have hnext : s.setZf.advance.rip = s.nextRip := s.nextRip_setZf
  rw [State.vmEntry, if_neg (ne_true_of_eq_false h)]
  exact congrArg (fun r => { s with rip := r, rflags := s.rflags ||| 0x40, vmcs := { s.vmcs with vmInstrError := 7 } }) hnext

end Sys2Proof.Machine

namespace Sys2Proof.Claims

open Sys2Proof.Machine

/-- Settles O58: each clause by the rule of its operation. -/
theorem virtualTimers : Obligations.VirtualTimers := by
  refine ⟨fun s hd h0 hle hsd hsipi => ?_, fun s v hu hn => ?_, fun s v hv => ?_, fun v d => ?_, fun s => ?_⟩
  · refine step_of_guestTimerDue hd (s.guestTimerDue_raoStep.trans ?_)
    exact s.guestTimerDue_iff.mpr ⟨h0, hle, hsd, hsipi⟩
  · have hval : (s.msrWritten 0x1B00 v).msrVal 0x1B00 =
        (s.actualUserDeadline v &&& 0xFFFFFFFFFFFFFFC0) ||| (v &&& 0x3F) := by
      rw [State.msrWritten_userTimer_of_nonRoot hn]
      exact (s.msrVal_setMsr _ _ _).trans (if_pos rfl)
    refine ⟨(msrValue_userTimer s).trans (if_pos hn), ?_, ?_, ?_⟩
    · rw [State.msrWritten_userTimer_of_nonRoot hn]
    · rw [State.userVector, hval, toNat_mod_of_deadlineAndVector]
    · rw [State.userDeadline, hval, deadlineAndVector_and, State.actualUserDeadline]
      split <;> rfl
  · exact ⟨msrValue_tscDeadline hv, State.msrWritten_tscDeadline hv v⟩
  · intro e
    refine ⟨fun hs => ?_, fun hs hm hfit => ?_⟩
    · rw [virtToActual, hs]
      rfl
    · have hpos : 0 < v.tscMultiplier.toNat :=
        Nat.pos_of_ne_zero fun h0 => hm (BitVec.eq_of_toNat_eq h0)
      have heq : virtToActual v d = unscaled v e := if_pos hs
      obtain ⟨hlow, hhigh⟩ := unscaledNat_mul_bounds e hpos
      rw [heq, toNat_unscaled hpos hfit]
      exact ⟨(Nat.le_div_iff_mul_le (by decide)).mpr hlow, hhigh⟩
  · refine ⟨fun ⟨h8, hbad⟩ => State.vmEntry_of_not_ok (State.vmEntryOk_eq_false h8 hbad), fun hok => ?_⟩
    rw [State.vmEntry, if_pos hok]
    exact ⟨rfl, rfl⟩

end Sys2Proof.Claims

/-! ## PEBS records -/

namespace Sys2Proof.Machine

variable {s t : State} {c n : Nat}

/-! ### The bytes of a record (R781, R796) -/

/-- What a place of a record leaves in its byte: a gap and Processor Reserved Memory keep the old one. -/
def writtenByte (s : State) (y : Nat) : Option Byte → Byte
  | some b => if reservedMemory s.cfg y then readByte s.seen y else b
  | none => readByte s.seen y

/-- Write one place of a record. -/
def writeRecordPlace (s : State) (a : Nat) : Option Byte → State
  | some b => writeRecordByte s a b
  | none => s

theorem writeRecord_cons (s : State) (a : Nat) (x : Option Byte) (r : Rec) :
    writeRecord s a (x :: r) = writeRecord (writeRecordPlace s a x) (a + 1) r := by
  cases x <;> rfl

theorem writeRecordPlace_eq (s : State) (a : Nat) (x : Option Byte) :
    writeRecordPlace s a x =
      { s with mem := (writeRecordPlace s a x).mem, rao := (writeRecordPlace s a x).rao
               monitor := (writeRecordPlace s a x).monitor } := by
  cases x with
  | none => rfl
  | some b =>
    have hbyte : writeRecordByte s a b = { s with mem := (writeRecordByte s a b).mem, rao := (writeRecordByte s a b).rao
                                                  monitor := (writeRecordByte s a b).monitor } := by
      unfold writeRecordByte
      split
      · rfl
      · rw [State.store, State.raoForce_eq]
    exact hbyte

theorem writeRecord_eq (s : State) (a : Nat) (r : Rec) :
    writeRecord s a r =
      { s with mem := (writeRecord s a r).mem, rao := (writeRecord s a r).rao, monitor := (writeRecord s a r).monitor } := by
  induction r generalizing s a with
  | nil => rfl
  | cons x r ih =>
    rw [writeRecord_cons, ih, writeRecordPlace_eq]

/-- Writing a place does not move the buffer. -/
theorem pebsPhys_writeRecordPlace (s : State) (a : Nat) (x : Option Byte) (y : Nat) :
    pebsPhys (writeRecordPlace s a x) y = pebsPhys s y := by
  rw [writeRecordPlace_eq]
  rfl

/-- A place of a record changes what is seen in its own byte alone. -/
theorem readByte_seen_writeRecordPlace (s : State) (a : Nat) (x : Option Byte) (y : Nat) :
    readByte (writeRecordPlace s a x).seen y = if y = pebsPhys s a then writtenByte s y x else readByte s.seen y := by
  cases x with
  | none => exact (ite_self _).symm
  | some b =>
    rw [writeRecordPlace, writeRecordByte, writtenByte]
    split
    · next hres =>
      by_cases hy : y = pebsPhys s a
      · rw [if_pos hy, if_pos (hy ▸ hres)]
      · rw [if_neg hy]
    · next hres =>
      by_cases hy : y = pebsPhys s a
      · rw [if_pos hy, if_neg (hy ▸ hres), hy]
        have hstored := s.readBytes_seen_store (as := [pebsPhys s a]) (bs := [b]) (List.nodup_singleton _) rfl
        exact List.head_eq_of_cons_eq hstored
      · rw [if_neg hy]
        exact s.readByte_seen_store _ (mt List.mem_singleton.mp hy)

/-- Writing one place leaves what another place leaves in its byte. -/
theorem writtenByte_writeRecordPlace {a y : Nat} (h : y ≠ pebsPhys s a) (x z : Option Byte) :
    writtenByte (writeRecordPlace s a x) y z = writtenByte s y z := by
  have hcfg : (writeRecordPlace s a x).cfg = s.cfg := by rw [writeRecordPlace_eq]
  have hread : readByte (writeRecordPlace s a x).seen y = readByte s.seen y :=
    (readByte_seen_writeRecordPlace s a x y).trans (if_neg h)
  cases z <;> simp only [writtenByte, hcfg, hread]

/-- A record changes what is seen in its own bytes alone. -/
theorem readByte_seen_writeRecord_frame {a y : Nat} {r : Rec} (h : ∀ j, j < r.length → y ≠ pebsPhys s (a + j)) :
    readByte (writeRecord s a r).seen y = readByte s.seen y := by
  induction r generalizing s a with
  | nil => rfl
  | cons x r ih =>
    have hhead : y ≠ pebsPhys s a := h 0 (Nat.succ_pos _)
    have htail (j : Nat) (hj : j < r.length) : y ≠ pebsPhys (writeRecordPlace s a x) (a + 1 + j) := by
      rw [pebsPhys_writeRecordPlace, Nat.add_assoc, Nat.add_comm 1]
      exact h (j + 1) (Nat.succ_lt_succ hj)
    rw [writeRecord_cons, ih htail, readByte_seen_writeRecordPlace, if_neg hhead]

/-- Where the buffer's bytes are all different, each holds what its place of the record leaves. -/
theorem readByte_seen_writeRecord {a j : Nat} {r : Rec} (hj : j < r.length)
    (hinj : ∀ i, i < r.length → ∀ k, k < r.length → pebsPhys s (a + i) = pebsPhys s (a + k) → i = k) :
    readByte (writeRecord s a r).seen (pebsPhys s (a + j)) = writtenByte s (pebsPhys s (a + j)) (r.getD j none) := by
  induction r generalizing s a j with
  | nil => exact absurd hj (Nat.not_lt_zero _)
  | cons x r ih =>
    rw [writeRecord_cons]
    cases j with
    | zero =>
      have hframe (k : Nat) (hk : k < r.length) : pebsPhys s (a + 0) ≠ pebsPhys (writeRecordPlace s a x) (a + 1 + k) := by
        rw [pebsPhys_writeRecordPlace, Nat.add_assoc, Nat.add_comm 1]
        exact fun h => absurd (hinj 0 (Nat.succ_pos _) (k + 1) (Nat.succ_lt_succ hk) h) (Nat.succ_ne_zero k).symm
      rw [readByte_seen_writeRecord_frame hframe, readByte_seen_writeRecordPlace]
      exact if_pos rfl
    | succ j =>
      have hplace : a + 1 + j = a + (j + 1) := by omega
      have htail := ih (s := writeRecordPlace s a x) (a := a + 1) (j := j) (Nat.lt_of_succ_lt_succ hj) fun i hi k hk h => by
        rw [pebsPhys_writeRecordPlace, pebsPhys_writeRecordPlace, Nat.add_assoc, Nat.add_assoc, Nat.add_comm 1,
          Nat.add_comm 1] at h
        exact Nat.succ.inj (hinj (i + 1) (Nat.succ_lt_succ hi) (k + 1) (Nat.succ_lt_succ hk) h)
      rw [pebsPhys_writeRecordPlace, hplace] at htail
      have hne : pebsPhys s (a + (j + 1)) ≠ pebsPhys s a := fun h =>
        absurd (hinj (j + 1) hj 0 (Nat.succ_pos _) h) (Nat.succ_ne_zero j)
      rw [htail, writtenByte_writeRecordPlace hne]
      rfl

/-! ### The MSRs after a record (R766, R773, R776) -/

/-- THRESH_EN is 1 and the offset after `n` more bytes has reached the threshold (R776). -/
def thresholdReached (s : State) (n : Nat) : Bool :=
  bitAt (s.msrVal 0x3F5) 32 && decide (pebsThreshold s ≤ pebsOffset s + n)

/-- The status bit and the PMI of a buffer that has reached its threshold (R776). -/
def State.thresholdSignalled (s : State) : State :=
  { s.setMsr 0x38E (setBitTo (s.msrVal 0x38E) 54 true) with pebs := { s.pebs with pmi := true } }

theorem State.msrVal_thresholdSignalled (s : State) (a : Nat) :
    s.thresholdSignalled.msrVal a = if a = 0x38E then setBitTo (s.msrVal 0x38E) 54 true else s.msrVal a :=
  s.msrVal_setMsr _ _ _

/-- IA32_PEBS_INDEX after a record of `n` bytes. -/
def indexAfter (s : State) (n : Nat) : W64 :=
  indexWith (s.msrVal 0x3F5) (pebsOffset s + n) (pebsOffset s + n == pebsLimit s)

/-- The counter's MSR is none of the others that a record writes. -/
theorem ne_counterAddr {a : Nat} (ha : a < 0x1900) (c : Nat) : a ≠ counterAddr c := by
  unfold counterAddr pmcAddr fixedAddr
  split <;> omega

theorem afterRecord_eq (s : State) (c n : Nat) :
    afterRecord s c n =
      let t := if thresholdReached s n then (s.setMsr 0x3F5 (indexAfter s n)).thresholdSignalled
        else s.setMsr 0x3F5 (indexAfter s n)
      (if bitAt (cfgC s c) 38 then t.setMsr 0x329 0 else t).setMsr (counterAddr c)
        (reloadValue (counterWidth s.cfg c) (cfgC s c)) := rfl

theorem msrVal_afterRecord_counter (s : State) (c n : Nat) :
    (afterRecord s c n).msrVal (counterAddr c) = reloadValue (counterWidth s.cfg c) (cfgC s c) := by
  rw [afterRecord_eq, State.msrVal_setMsr, if_pos rfl]

/-- The other MSRs but IA32_PERF_METRICS: the index, and the status at the threshold. -/
theorem msrVal_afterRecord {a : Nat} (ha : a < 0x1900) (hm : a ≠ 0x329) (s : State) (c n : Nat) :
    (afterRecord s c n).msrVal a =
      if thresholdReached s n = true ∧ a = 0x38E then setBitTo (s.msrVal 0x38E) 54 true
      else if a = 0x3F5 then indexAfter s n else s.msrVal a := by
  rw [afterRecord_eq, State.msrVal_setMsr, if_neg (ne_counterAddr ha c), apply_ite (State.msrVal · a), State.msrVal_setMsr,
    if_neg hm, ite_self]
  cases thresholdReached s n with
  | false => simp only [Bool.false_eq_true, if_false, false_and, State.msrVal_setMsr]
  | true => simp [State.msrVal_thresholdSignalled, State.msrVal_setMsr]

theorem pmi_afterRecord (s : State) (c n : Nat) :
    (afterRecord s c n).pebs.pmi = (thresholdReached s n || s.pebs.pmi) := by
  have hmsr (t : State) (a : Nat) (v : W64) : (t.setMsr a v).pebs = t.pebs := rfl
  have hpmi (t : State) : t.thresholdSignalled.pebs.pmi = true := rfl
  rw [afterRecord_eq]
  cases thresholdReached s n <;> simp only [apply_ite State.pebs, hmsr, hpmi, ite_self, if_true, Bool.true_or,
    Bool.false_or, Bool.false_eq_true, if_false]

theorem seen_afterRecord (s : State) (c n : Nat) : (afterRecord s c n).seen = s.seen := by
  have hmsr (t : State) (a : Nat) (v : W64) : (t.setMsr a v).seen = t.seen := rfl
  have hsignalled (t : State) : t.thresholdSignalled.seen = t.seen := rfl
  simp only [afterRecord_eq, apply_ite State.seen, hmsr, hsignalled, ite_self]

/-! ### IA32_PEBS_INDEX (R773) -/

theorem setBitTo_and_of_clear {w : Nat} (x m : BitVec w) {i : Nat} (b : Bool) (h : bitAt m i = false) :
    setBitTo x i b &&& m = x &&& m := by
  refine BitVec.eq_of_getLsbD_eq fun j hj => ?_
  rw [BitVec.getLsbD_and, BitVec.getLsbD_and]
  by_cases hi : i = j
  · have hm : m.getLsbD j = false := hi ▸ h
    rw [hm, Bool.and_false, Bool.and_false]
  · have hx : (setBitTo x i b).getLsbD j = x.getLsbD j := (bitAt_setBitTo x i j b).trans (if_neg fun e => hi e.1)
    rw [hx]

theorem indexWith_and_offset (i : W64) (off : Nat) (full : Bool) :
    indexWith i off full &&& 0x7FFFFF0 = BitVec.ofNat 64 off &&& 0x7FFFFF0 := by
  have hold : i &&& ~~~(0x7FFFFF0 : W64) &&& 0x7FFFFF0 = 0 := by rw [BitVec.and_assoc]; exact BitVec.and_zero
  have hnew : BitVec.ofNat 64 off &&& 0x7FFFFF0 &&& 0x7FFFFF0 = BitVec.ofNat 64 off &&& 0x7FFFFF0 := by
    rw [BitVec.and_assoc, BitVec.and_self]
  rw [indexWith, setBitTo_and_of_clear _ _ _ (by decide), BitVec.and_or_distrib_right, hold, hnew]
  exact BitVec.zero_or

theorem bitAt_indexWith_full (i : W64) (off : Nat) (full : Bool) : bitAt (indexWith i off full) 31 = full :=
  (bitAt_setBitTo _ _ _ _).trans (if_pos ⟨rfl, by decide⟩)

theorem pebsOffset_of_index {i : W64} {off : Nat} {full : Bool} (h : s.msrVal 0x3F5 = indexWith i off full) :
    pebsOffset s = (BitVec.ofNat 64 off &&& 0x7FFFFF0).toNat := by
  rw [pebsOffset, h, indexWith_and_offset]

/-! ### The cases of a sample (R781) -/

/-- The overflow of counter `c` waits no longer. -/
def State.unpended (s : State) (c : Nat) : State :=
  { s with pebs := { s.pebs with pending := setBitTo s.pebs.pending c false, skidded := setBitTo s.pebs.skidded c false } }

/-- The record of counter `c` at the boundary after the instruction that began in `pre`. -/
def sampleRecord (pre : State) (l : List W64) (s : State) (c : Nat) : Rec :=
  pebsRecord s c (eventingIp pre s c) (memoryAccessAddress pre s c l)

/-- The state in which the record's bytes are written. -/
def recorded (s : State) (c : Nat) (r : Rec) : State := writeRecord (s.unpended c) (pebsBase s + pebsOffset s) r

theorem sampleOne_of_full (pre : State) (l : List W64) (h : bitAt (s.msrVal 0x3F5) 31 = true) :
    sampleOne pre l s c = (if Config.pebsFullKeeps c s.draws then s else s.unpended c).drawn 1 := if_pos h

theorem sampleOne_of_not_fits {pre : State} {l : List W64} (h : bitAt (s.msrVal 0x3F5) 31 = false)
    (hfit : pebsLimit s < pebsOffset s + (sampleRecord pre l s c).length) :
    sampleOne pre l s c = (s.unpended c).setMsr 0x3F5 (setBitTo (s.msrVal 0x3F5) 31 true) :=
  (if_neg (ne_true_of_eq_false h)).trans (if_pos hfit)

theorem sampleOne_of_fits {pre : State} {l : List W64} (h : bitAt (s.msrVal 0x3F5) 31 = false)
    (hfit : pebsOffset s + (sampleRecord pre l s c).length ≤ pebsLimit s) :
    sampleOne pre l s c = (afterRecord (recorded s c (sampleRecord pre l s c)) c (sampleRecord pre l s c).length).drawn 1 :=
  (if_neg (ne_true_of_eq_false h)).trans (if_neg (Nat.not_lt.mpr hfit))

/-- Writing the record leaves what is read afterwards. -/
theorem recorded_keeps {α : Type} (f : State → α) (s : State) (c : Nat) (r : Rec)
    (hf : ∀ p k m r w,
      f { s with pebs := { s.pebs with pending := p, skidded := k }, mem := m, rao := r, monitor := w } = f s := by
        exact fun _ _ _ _ _ => rfl) : f (recorded s c r) = f s := by
  rw [recorded, writeRecord_eq]
  exact hf _ _ _ _ _

/-- The state after the record `r` of counter `c`. -/
def sampleTaken (s : State) (c : Nat) (r : Rec) : State := (afterRecord (recorded s c r) c r.length).drawn 1

theorem msrVal_sampleTaken (s : State) (c : Nat) (r : Rec) (a : Nat) :
    (sampleTaken s c r).msrVal a = (afterRecord (recorded s c r) c r.length).msrVal a := by
  rw [sampleTaken, State.msrVal, State.drawn_msr, State.msrVal]

theorem index_sampleTaken (s : State) (c : Nat) (r : Rec) : (sampleTaken s c r).msrVal 0x3F5 = indexAfter s r.length := by
  rw [msrVal_sampleTaken, msrVal_afterRecord (by decide) (by decide), if_neg fun h => absurd h.2 (by decide), if_pos rfl,
    recorded_keeps (indexAfter · r.length) s c r]

theorem status_sampleTaken (s : State) (c : Nat) (r : Rec) :
    (sampleTaken s c r).msrVal 0x38E =
      if thresholdReached s r.length = true then s.msrVal 0x38E ||| BitVec.ofNat 64 (2 ^ 54) else s.msrVal 0x38E := by
  rw [msrVal_sampleTaken, msrVal_afterRecord (by decide) (by decide), recorded_keeps (thresholdReached · r.length) s c r,
    recorded_keeps (State.msrVal · 0x38E) s c r, setBitTo, if_pos rfl]
  simp only [and_true, if_neg (show ¬ (0x38E : Nat) = 0x3F5 by decide)]

theorem pmi_sampleTaken (s : State) (c : Nat) (r : Rec) :
    (sampleTaken s c r).pebs.pmi = (thresholdReached s r.length || s.pebs.pmi) := by
  rw [sampleTaken, State.drawn_pebs, pmi_afterRecord, recorded_keeps (thresholdReached · r.length) s c r,
    recorded_keeps (fun t => t.pebs.pmi) s c r]

theorem counter_sampleTaken (s : State) (c : Nat) (r : Rec) :
    (sampleTaken s c r).msrVal (counterAddr c) = reloadValue (counterWidth s.cfg c) (cfgC s c) := by
  rw [msrVal_sampleTaken, msrVal_afterRecord_counter, recorded_keeps State.cfg s c r, recorded_keeps (cfgC · c) s c r]

theorem seen_sampleTaken (s : State) (c : Nat) (r : Rec) : (sampleTaken s c r).seen = (recorded s c r).seen := by
  rw [← seen_afterRecord (recorded s c r) c r.length, sampleTaken, State.seen, State.drawn_mem, State.drawn_rao, State.seen]

/-- A record that fits changes what is seen in its own bytes alone. -/
theorem readByte_sampleTaken_frame {r : Rec} {a : Nat}
    (h : ∀ j, j < r.length → a ≠ pebsPhys s (pebsBase s + pebsOffset s + j)) :
    readByte (sampleTaken s c r).seen a = readByte s.seen a := by
  rw [seen_sampleTaken]
  exact readByte_seen_writeRecord_frame h

/-- Where the record's bytes are all different, each holds what its place of the record leaves. -/
theorem readByte_sampleTaken {r : Rec} {j : Nat} (hj : j < r.length)
    (hd : ((List.range r.length).map fun k => pebsPhys s (pebsBase s + pebsOffset s + k)).Nodup) :
    readByte (sampleTaken s c r).seen (pebsPhys s (pebsBase s + pebsOffset s + j)) =
      writtenByte s (pebsPhys s (pebsBase s + pebsOffset s + j)) (r.getD j none) := by
  rw [seen_sampleTaken]
  exact readByte_seen_writeRecord hj fun i hi k hk h =>
    List.inj_on_of_nodup_map hd (List.mem_range.mpr hi) (List.mem_range.mpr hk) h

/-- The Memory Access Address is zero or an address that the instruction accessed (R786). -/
theorem memoryAccessAddress_mem (pre s : State) (c : Nat) (l : List W64) :
    memoryAccessAddress pre s c l = 0 ∨ memoryAccessAddress pre s c l ∈ l := by
  unfold memoryAccessAddress
  split
  · exact .inl rfl
  · rw [List.getD_eq_getElem?_getD]
    cases hget : (0 :: l)[Config.pebsMemoryChoice s.draws]? with
    | none => exact .inl rfl
    | some a => exact List.mem_cons.mp (List.mem_of_getElem? hget)

end Sys2Proof.Machine

namespace Sys2Proof.Claims

open Sys2Proof.Machine

/-- Settles O60: by the cases of a sample; a record that fits is written byte by byte and then accounted for. -/
theorem pebsRecord : Obligations.PebsRecord := by
  intro pre l s c hc
  refine ⟨memoryAccessAddress_mem pre s c l, fun hfull => ?_, fun hfull => ?_⟩
  · rw [sampleOne_of_full pre l hfull]
    split <;> exact ⟨rfl, rfl⟩
  intro p n phys
  have hover : pebsLimit s < pebsOffset s + n → _ := sampleOne_of_not_fits hfull
  have hfits : pebsOffset s + n ≤ pebsLimit s → sampleOne pre l s c = sampleTaken s c p := sampleOne_of_fits hfull
  have hn : p.length = n := rfl
  clear_value n p
  subst hn
  refine ⟨fun hfit => ?_, fun hfit => ?_⟩
  · rw [hover hfit]
    have hindex : ((s.unpended c).setMsr 0x3F5 (setBitTo (s.msrVal 0x3F5) 31 true)).msrVal 0x3F5 =
        setBitTo (s.msrVal 0x3F5) 31 true := ((s.unpended c).msrVal_setMsr _ _ _).trans (if_pos rfl)
    refine ⟨rfl, ?_, ?_, ((s.unpended c).msrVal_setMsr _ _ _).trans (if_neg (ne_counterAddr (by decide) c).symm)⟩
    · rw [hindex, bitAt_setBitTo, if_pos ⟨rfl, by decide⟩]
    · rw [pebsOffset, hindex, setBitTo_and_of_clear _ _ _ (by decide), pebsOffset]
  rw [hfits hfit]
  refine ⟨pebsOffset_of_index (index_sampleTaken s c p), ?_, counter_sampleTaken s c p, fun hen hreached => ?_,
    fun hnot => ?_, fun a ha => readByte_sampleTaken_frame ha, fun hd j hj => readByte_sampleTaken hj hd⟩
  · rw [index_sampleTaken, indexAfter, bitAt_indexWith_full]
  · have hyes : thresholdReached s p.length = true := by
      rw [thresholdReached, hen, decide_eq_true hreached, Bool.and_self]
    rw [status_sampleTaken, if_pos hyes, pmi_sampleTaken, hyes, Bool.true_or]
    exact ⟨rfl, rfl⟩
  · have hno : thresholdReached s p.length = false := by
      rcases hnot with hen | hlt
      · rw [thresholdReached, hen, Bool.false_and]
      · rw [thresholdReached, decide_eq_false (Nat.not_le.mpr hlt), Bool.and_false]
    rw [status_sampleTaken, if_neg (ne_true_of_eq_false hno), pmi_sampleTaken, hno, Bool.false_or]
    exact ⟨rfl, rfl⟩

end Sys2Proof.Claims

/-! ## Trace triggers -/

namespace Sys2Proof.Machine

variable {pre s t : State} {r : CountReport} {d u i : Nat} {l : List Nat}

/-! ### Which units fire (R743, R745) -/

theorem mem_firedUnits :
    u ∈ firedUnits pre r d ↔ u < 4 * nTriggerCfg pre.cfg ∧ unitFires pre r d u = true := by
  rw [firedUnits, List.mem_filter, List.mem_range]

/-- Units fire in ascending order (D33). -/
theorem firedUnits_ascending (pre : State) (r : CountReport) (d : Nat) : (firedUnits pre r d).Pairwise (· < ·) :=
  List.pairwise_lt_range.filter _

/-- Leaf 14H enumerates at most 28 units (R741). -/
theorem lt_of_mem_firedUnits (h : u ∈ firedUnits pre r d) : u < 28 := by
  have hcfg : nTriggerCfg pre.cfg < 2 ^ 3 := ((cpuidCfg pre.cfg 0x14 1).eax.extractLsb 10 8).isLt
  have hu := (mem_firedUnits.mp h).1
  omega

theorem unitFires_enabled (h : unitFires pre r d u = true) : bitAt (triggerUnit pre u) 15 = true :=
  (Bool.and_eq_true_iff.mp h).1

theorem unitFires_increment (h15 : bitAt (triggerUnit pre u) 15 = true) (hi : (triggerUnit pre u).toNat % 128 = i)
    (h8 : i < 8) :
    unitFires pre r d u = true ↔
      counting pre i = true ∧ bitAt (pre.msrVal (evtSelAddr i)) 38 = true ∧ i ∈ r.incremented := by
  unfold unitFires
  dsimp only
  rw [h15, hi, Bool.true_and, if_pos h8, ptLog, Bool.and_eq_true, Bool.and_eq_true, List.contains_iff_mem, and_assoc]

theorem unitFires_overflow (h15 : bitAt (triggerUnit pre u) 15 = true) (hi : (triggerUnit pre u).toNat % 128 = i)
    (hlo : 0x20 ≤ i) (hhi : i < 0x28) :
    unitFires pre r d u = true ↔
      counting pre (i - 0x20) = true ∧ bitAt (pre.msrVal (evtSelAddr (i - 0x20))) 38 = true ∧
        i - 0x20 ∈ r.overflowed := by
  have hnot : ¬ i < 8 := by omega
  unfold unitFires
  dsimp only
  rw [h15, hi, Bool.true_and, if_neg hnot, if_pos ⟨hlo, hhi⟩, ptLog, Bool.and_eq_true, Bool.and_eq_true,
    List.contains_iff_mem, and_assoc]

theorem breakpointFires_iff (pre : State) (x d : Nat) :
    breakpointFires pre x d = true ↔ Claims.breakpointInput pre x ∧ Config.breakpointMatches x d = true := by
  simp only [breakpointFires, Claims.breakpointInput, Bool.and_eq_true, Bool.or_eq_true, Bool.not_eq_true', and_assoc]

theorem unitFires_breakpoint (h15 : bitAt (triggerUnit pre u) 15 = true) (hi : (triggerUnit pre u).toNat % 128 = i)
    (hlo : 0x40 ≤ i) (hhi : i < 0x44) :
    unitFires pre r d u = true ↔
      Claims.breakpointInput pre (i - 0x40) ∧ Config.breakpointMatches (i - 0x40) d = true := by
  have hincrement : ¬ i < 8 := by omega
  have hoverflow : ¬ (0x20 ≤ i ∧ i < 0x28) := by omega
  unfold unitFires
  dsimp only
  rw [h15, hi, Bool.true_and, if_neg hincrement, if_neg hoverflow, if_pos ⟨hlo, hhi⟩, breakpointFires_iff]

/-! ### Pause and resume (R744, R745) -/

/-- The action fields ask for exactly one of pause and resume, where the processor supports them. -/
def oneAction (c : Cfg) (f : BitVec 16) : Bool := featC c 0x14 1 1 && bitAt f 13 != bitAt f 12

theorem oneAction_iff (pre : State) (u : Nat) :
    oneAction pre.cfg (triggerUnit pre u) = true ↔ Claims.singleAction pre u := by
  rw [oneAction, Bool.and_eq_true, bne_iff_ne, Claims.singleAction]

theorem triggerAction_eq (s : State) (f : BitVec 16) :
    triggerAction s f =
      if oneAction s.cfg f then s.setMsr 0x571 (setBitTo (s.msrVal 0x571) 8 (bitAt f 13)) else s := by
  unfold triggerAction oneAction
  cases featC s.cfg 0x14 1 1 <;> cases bitAt f 13 <;> cases bitAt f 12 <;> rfl

/-- `t` is `s` but for the bit of IA32_RTIT_STATUS that says whether tracing is paused. -/
def ActionFrame (s t : State) : Prop :=
  t = { s with msr := t.msr } ∧ (∀ a, a ≠ 0x571 → t.msrVal a = s.msrVal a) ∧
    t.msrVal 0x571 &&& ~~~0x100 = s.msrVal 0x571 &&& ~~~0x100

theorem ActionFrame.refl (s : State) : ActionFrame s s := ⟨rfl, fun _ _ => rfl, rfl⟩

theorem ActionFrame.triggerAction (f : BitVec 16) (h : ActionFrame s t) : ActionFrame s (triggerAction t f) := by
  rw [triggerAction_eq]
  split
  · obtain ⟨hst, hmsr, hpause⟩ := h
    refine ⟨by rw [State.setMsr, hst], fun a ha => ?_, ?_⟩
    · rw [State.msrVal_setMsr, if_neg ha, hmsr a ha]
    · rw [State.msrVal_setMsr, if_pos rfl, setBitTo_and_of_clear _ _ _ (by decide), hpause]
  · exact h

theorem ActionFrame.foldl (l : List (BitVec 16)) (s : State) :
    ActionFrame s (l.foldl Machine.triggerAction s) :=
  List.foldlRecOn _ _ (.refl s) fun _ h f _ => h.triggerAction f

theorem ActionFrame.cfg_eq (h : ActionFrame s t) : t.cfg = s.cfg := (congrArg State.cfg h.1 :)

theorem ActionFrame.pt_eq (h : ActionFrame s t) : t.pt = s.pt := (congrArg State.pt h.1 :)

theorem ptPaused_triggerAction (s : State) (f : BitVec 16) :
    (triggerAction s f).ptPaused = if oneAction s.cfg f then bitAt f 13 else s.ptPaused := by
  rw [triggerAction_eq]
  split
  · rw [State.ptPaused, State.msrVal_setMsr, if_pos rfl, bitAt_setBitTo, if_pos ⟨rfl, by decide⟩]
  · rfl

/-- Without a unit that asks for exactly one of the two the state stays. -/
theorem ptPaused_actions_of_none (h : ∀ u ∈ l, oneAction s.cfg (triggerUnit pre u) = false) :
    ((l.map (triggerUnit pre)).foldl triggerAction s).ptPaused = s.ptPaused := by
  induction l generalizing s with
  | nil => rfl
  | cons u l ih =>
    obtain ⟨hu, hl⟩ := List.forall_mem_cons.mp h
    have hcfg : (triggerAction s (triggerUnit pre u)).cfg = s.cfg := ((ActionFrame.refl s).triggerAction _).cfg_eq
    rw [List.map_cons, List.foldl_cons, ih (by rwa [hcfg]), ptPaused_triggerAction, hu]
    rfl

/-- The last unit that asks for exactly one of the two decides. -/
theorem ptPaused_actions_of_last {before after : List Nat} (hu : oneAction s.cfg (triggerUnit pre u) = true)
    (h : ∀ w ∈ after, oneAction s.cfg (triggerUnit pre w) = false) :
    (((before ++ u :: after).map (triggerUnit pre)).foldl triggerAction s).ptPaused = bitAt (triggerUnit pre u) 13 := by
  rw [List.map_append, List.foldl_append, List.map_cons, List.foldl_cons]
  have hbefore := (ActionFrame.foldl (before.map (triggerUnit pre)) s).cfg_eq
  have hcfg := ((ActionFrame.refl ((before.map (triggerUnit pre)).foldl triggerAction s)).triggerAction
    (triggerUnit pre u)).cfg_eq.trans hbefore
  rw [ptPaused_actions_of_none (by rwa [hcfg]), ptPaused_triggerAction, hbefore, hu]
  rfl

/-! ### Instruction counters (R749) -/

theorem Pt.counter_indicated (p : Pt) (u : Nat) : p.indicated.counter u = ⟨0, false⟩ := by
  have hreset : p.indicated.icnt.toList = List.replicate 28 ⟨0, false⟩ := Vector.toList_replicate
  rw [Pt.counter, hreset, List.getD_eq_getElem?_getD, List.getElem?_getD_replicate_default_eq]

theorem Pt.counter_count (p : Pt) (hu : u < 28) : p.count.counter u = (p.counter u).next := by
  have hlen : u < p.icnt.toList.length := by rwa [Vector.length_toList]
  have hmap : p.count.icnt.toList = p.icnt.toList.map Icnt.next := Vector.toList_map
  rw [Pt.counter, hmap, Pt.counter, List.getD_eq_getElem _ _ (by rwa [List.length_map]), List.getElem_map,
    List.getD_eq_getElem _ _ hlen]

/-- What a unit has counted after the instruction: from 0 after an IP indication of its own. -/
def countSince (s : State) (u : Nat) : Icnt := if s.pt.anchored then ⟨0, false⟩ else (s.pt.counter u).next

theorem Pt.counter_retired (s : State) (hu : u < 28) : s.pt.retired.counter u = countSince s u := by
  unfold Pt.retired countSince
  split
  · exact s.pt.counter_indicated u
  · exact s.pt.counter_count hu

/-- Retirement changes the counters and ends an instruction's own IP indication. -/
theorem Pt.retired_eq (p : Pt) : p.retired = { p with icnt := p.retired.icnt, anchored := false } := by
  unfold Pt.retired
  split
  · rfl
  · next h => rw [← Bool.eq_false_of_not_eq_true h]; rfl

/-- The state after an instruction retired, before its triggers. -/
def State.ptRetired (s : State) : State := { s with pt := s.pt.retired }

/-! ### The TRIG packet (R748) -/

theorem bitAt_foldl_units (b : Byte) (l : List Nat) {k : Nat} (hk : k < 8) :
    bitAt (l.foldl (fun b u => b ||| BitVec.ofNat 8 (2 ^ u)) b) k = (bitAt b k || decide (k ∈ l)) := by
  induction l generalizing b with
  | nil => simp
  | cons u l ih =>
    have hunit : bitAt (BitVec.ofNat 8 (2 ^ u)) k = decide (k = u) := by
      rw [bitAt, BitVec.getLsbD_ofNat, Nat.testBit_two_pow, decide_eq_true hk, Bool.true_and]
      exact decide_eq_decide.mpr eq_comm
    have hor : bitAt (b ||| BitVec.ofNat 8 (2 ^ u)) k = (bitAt b k || decide (k = u)) := by
      rw [← hunit]
      exact BitVec.getLsbD_or
    rw [List.foldl_cons, ih, hor, Bool.or_assoc]
    simp only [List.mem_cons, Bool.decide_or]

theorem bitAt_trbv_of_mem (d : Nat) (hu : u ∈ l) (h8 : u < 8) : bitAt (trbv l d) u = true := by
  have hbits := bitAt_foldl_units 0 l h8
  rw [decide_eq_true hu, Bool.or_true] at hbits
  refine BitVec.getLsbD_or.trans ?_
  exact Bool.or_eq_true_iff.mpr (.inl hbits)

theorem mem_of_bitAt_trbv (hl : ∀ u ∈ l, u < 8) (h8 : u < 8) (h : bitAt (trbv l d) u = true) : u ∈ l := by
  have hnone : l.any (fun u => decide (8 ≤ u)) = false :=
    List.any_eq_false.mpr fun w hw => by rw [decide_eq_true_iff]; exact Nat.not_le.mpr (hl w hw)
  have hzero : bitAt (0 : Byte) u = false := BitVec.getLsbD_zero
  have hbits := bitAt_foldl_units 0 l h8
  rw [trbv, hnone, if_neg Bool.false_ne_true] at h
  rw [hzero, Bool.false_or, ← BitVec.or_zero (x := l.foldl _ _)] at hbits
  exact of_decide_eq_true (hbits.symm.trans h)

/-! ### Emission (R747, R750) -/

/-- Triggers are traced. -/
def State.tracesTriggers (s : State) : Bool := s.pt.triggerEn && s.pt.filterEn && !s.ptPaused

/-- Unit `u` asks for the instruction count, with the trace in context. -/
def countAsked (pre s : State) (u : Nat) : Bool :=
  s.pt.contextEn && featC s.cfg 0x14 1 0 && bitAt (triggerUnit pre u) 14

theorem emitTrig_of_not_traced (l : List Nat) (h : s.tracesTriggers = false) : emitTrig pre s l = s :=
  if_neg (ne_true_of_eq_false h)

/-- The packet and, where the count of unit `u` is in it, the counters' restart. -/
def emitAsked (s : State) (l : List Nat) : List Nat → State
  | [] => { s with pt := { s.pt with packets := s.pt.packets ++ trigPacket false false (trbv l s.draws) 0 } }
  | u :: _ =>
    let n := s.pt.counter u
    let ip := n.overflow || !s.pt.branchEn
    { s with pt := { s.pt with packets := s.pt.packets ++ trigPacket ip true (trbv l s.draws) (if ip then 0 else n.count)
                   }.indicated }

theorem emitTrig_of_traced (l : List Nat) (h : s.tracesTriggers = true) :
    emitTrig pre s l = emitAsked s l (l.filter (countAsked pre s)) := (if_pos h).trans rfl

/-- The lowest unit that asks is the first one of the list. -/
theorem filter_eq_cons_of_lowest {p : Nat → Bool} (hl : l.Pairwise (· < ·)) (hu : u ∈ l) (hp : p u = true)
    (hlow : ∀ w ∈ l, w < u → p w = false) : ∃ rest, l.filter p = u :: rest := by
  obtain ⟨before, after, rfl⟩ := List.append_of_mem hu
  have hbefore : before.filter p = [] := List.filter_eq_nil_iff.mpr fun w hw =>
    ne_true_of_eq_false (hlow w (List.mem_append_left _ hw) ((List.pairwise_append.mp hl).2.2 w hw u (.head _)))
  exact ⟨after.filter p, by rw [List.filter_append, hbefore, List.filter_cons_of_pos hp, List.nil_append]⟩

/-! ### The units over one instruction (R745, R747) -/

/-- The state after the packet, before the actions. -/
def emitted (pre s : State) (r : CountReport) : State :=
  if firedUnits pre r s.draws = [] then s.ptRetired else emitTrig pre s.ptRetired (firedUnits pre r s.draws)

theorem runTriggers_eq (h : hasPttt s.cfg = true) :
    runTriggers pre s r =
      (((firedUnits pre r s.draws).map (triggerUnit pre)).foldl triggerAction (emitted pre s r)).drawn
        (if firedUnits pre r s.draws = [] then 0 else 1) := by
  unfold runTriggers emitted
  rw [if_pos h]
  cases firedUnits pre r s.draws with
  | nil => rfl
  | cons u l => rfl

theorem tracesTriggers_ptRetired (s : State) : s.ptRetired.tracesTriggers = s.tracesTriggers := by
  have hpt : s.ptRetired.pt = s.pt.retired := rfl
  rw [State.tracesTriggers, hpt, Pt.retired_eq]
  rfl

theorem countAsked_ptRetired (pre s : State) : countAsked pre s.ptRetired = countAsked pre s := by
  funext u
  have hpt : s.ptRetired.pt = s.pt.retired := rfl
  rw [countAsked, hpt, Pt.retired_eq]
  rfl

theorem emitAsked_eq (s : State) (l asked : List Nat) : emitAsked s l asked = { s with pt := (emitAsked s l asked).pt } := by
  cases asked <;> rfl

theorem emitted_eq (pre s : State) (r : CountReport) : emitted pre s r = { s with pt := (emitted pre s r).pt } := by
  unfold emitted
  split
  · rfl
  · cases h : s.ptRetired.tracesTriggers with
    | false => rw [emitTrig_of_not_traced _ h]; rfl
    | true => rw [emitTrig_of_traced _ h, emitAsked_eq]; rfl

theorem emitted_of_untraced (h : ¬ (s.tracesTriggers = true ∧ firedUnits pre r s.draws ≠ [])) :
    emitted pre s r = s.ptRetired := by
  unfold emitted
  split
  · rfl
  · next hl =>
    have htraces : s.tracesTriggers = false := Bool.eq_false_of_not_eq_true fun ht => h ⟨ht, hl⟩
    exact emitTrig_of_not_traced _ ((tracesTriggers_ptRetired s).trans htraces)

theorem emitted_of_traced (h : s.tracesTriggers = true) (hl : firedUnits pre r s.draws ≠ []) :
    emitted pre s r = emitAsked s.ptRetired (firedUnits pre r s.draws)
      ((firedUnits pre r s.draws).filter (countAsked pre s)) := by
  rw [emitted, if_neg hl, emitTrig_of_traced _ ((tracesTriggers_ptRetired s).trans h), countAsked_ptRetired]

theorem anchored_emitAsked (s : State) (l asked : List Nat) : (emitAsked s l asked).pt.anchored = s.pt.anchored := by
  cases asked <;> rfl

theorem anchored_emitted (pre s : State) (r : CountReport) : (emitted pre s r).pt.anchored = false := by
  have hretired : s.ptRetired.pt.anchored = false := (congrArg Pt.anchored s.pt.retired_eq :)
  unfold emitted
  split
  · exact hretired
  · cases h : s.ptRetired.tracesTriggers with
    | false => rw [emitTrig_of_not_traced _ h, hretired]
    | true => rw [emitTrig_of_traced _ h, anchored_emitAsked, hretired]

/-! ### What stays (R745) -/

theorem msrVal_emitted (pre s : State) (r : CountReport) (a : Nat) : (emitted pre s r).msrVal a = s.msrVal a := by
  rw [emitted_eq]
  rfl

theorem actionFrame_runTriggers (h : hasPttt s.cfg = true) :
    ∃ v n, ActionFrame (emitted pre s r) v ∧ runTriggers pre s r = v.drawn n :=
  ⟨_, _, .foldl _ _, runTriggers_eq h⟩

theorem State.msrVal_drawn (s : State) (n a : Nat) : (s.drawn n).msrVal a = s.msrVal a := by
  rw [State.msrVal, State.drawn_msr, State.msrVal]

/-- The units change Intel PT's state, the bit that says whether tracing is paused, and the free draws alone. -/
theorem runTriggers_frame (h : hasPttt s.cfg = true) :
    runTriggers pre s r = { s with pt := (runTriggers pre s r).pt, msr := (runTriggers pre s r).msr,
                                   draws := (runTriggers pre s r).draws } ∧
      (∀ a, a ≠ 0x571 → (runTriggers pre s r).msrVal a = s.msrVal a) ∧
      (runTriggers pre s r).msrVal 0x571 &&& ~~~0x100 = s.msrVal 0x571 &&& ~~~0x100 := by
  obtain ⟨v, n, ⟨hv, hmsr, hpause⟩, ht⟩ := actionFrame_runTriggers (pre := pre) (r := r) h
  rw [ht]
  refine ⟨?_, fun a ha => ?_, ?_⟩
  · rw [State.drawn, hv, emitted_eq]
  · rw [State.msrVal_drawn, hmsr a ha, msrVal_emitted]
  · rw [State.msrVal_drawn, hpause, msrVal_emitted]

theorem pt_runTriggers (h : hasPttt s.cfg = true) : (runTriggers pre s r).pt = (emitted pre s r).pt := by
  obtain ⟨v, n, hv, ht⟩ := actionFrame_runTriggers (pre := pre) (r := r) h
  rw [ht, State.drawn_pt, hv.pt_eq]

theorem ptPaused_runTriggers (h : hasPttt s.cfg = true) :
    (runTriggers pre s r).ptPaused =
      (((firedUnits pre r s.draws).map (triggerUnit pre)).foldl triggerAction (emitted pre s r)).ptPaused := by
  rw [runTriggers_eq h, State.ptPaused, State.msrVal_drawn, State.ptPaused]

theorem oneAction_emitted (h : s.cfg = pre.cfg) (r : CountReport) (u : Nat) :
    oneAction (emitted pre s r).cfg (triggerUnit pre u) = true ↔ Claims.singleAction pre u := by
  have hcfg : (emitted pre s r).cfg = pre.cfg := (congrArg State.cfg (emitted_eq pre s r) :).trans h
  rw [hcfg, oneAction_iff]

theorem ptPaused_runTriggers_of_none (h : hasPttt s.cfg = true) (hcfg : s.cfg = pre.cfg)
    (hl : ∀ u ∈ firedUnits pre r s.draws, ¬ Claims.singleAction pre u) : (runTriggers pre s r).ptPaused = s.ptPaused := by
  rw [ptPaused_runTriggers h, ptPaused_actions_of_none fun u hu =>
    Bool.eq_false_of_not_eq_true fun hone => hl u hu ((oneAction_emitted hcfg r u).mp hone)]
  rw [State.ptPaused, msrVal_emitted, State.ptPaused]

theorem ptPaused_runTriggers_of_last (h : hasPttt s.cfg = true) (hcfg : s.cfg = pre.cfg)
    (hu : u ∈ firedUnits pre r s.draws) (hone : Claims.singleAction pre u)
    (hlast : ∀ w ∈ firedUnits pre r s.draws, u < w → ¬ Claims.singleAction pre w) :
    (runTriggers pre s r).ptPaused = bitAt (triggerUnit pre u) 13 := by
  have hsorted := firedUnits_ascending pre r s.draws
  obtain ⟨before, after, hl⟩ := List.append_of_mem hu
  rw [hl] at hsorted hlast
  have hlt (w : Nat) (hw : w ∈ after) : u < w :=
    List.rel_of_pairwise_cons (List.pairwise_append.mp hsorted).2.1 hw
  rw [ptPaused_runTriggers h, hl]
  refine ptPaused_actions_of_last ((oneAction_emitted hcfg r u).mpr hone) fun w hw => ?_
  exact Bool.eq_false_of_not_eq_true fun hw' =>
    hlast w (List.mem_append_right _ (.tail _ hw)) (hlt w hw) ((oneAction_emitted hcfg r w).mp hw')

/-! ### What a packet with a count holds (R748, R749) -/

theorem trigPacket_counted (ip : Bool) (v : Byte) (n : BitVec 16) :
    (trigPacket ip true v n).headD 0 = 0xD9 ∧ (trigPacket ip true v n).getD 2 0 = v ∧ (trigPacket ip true v n).length = 5 ∧
      bitAt ((trigPacket ip true v n).getD 1 0) 6 = true ∧ bitAt ((trigPacket ip true v n).getD 1 0) 7 = ip ∧
      ((trigPacket ip true v n).getD 1 0).toNat % 64 = 0 ∧ (trigPacket ip true v n).drop 3 = toBytes 2 n := by
  have hflags : (trigPacket ip true v n).getD 1 0 = BitVec.ofNat 8 (ext ip 128 + 64) := rfl
  rw [hflags]
  refine ⟨rfl, rfl, rfl, ?_, ?_, ?_, rfl⟩ <;> cases ip <;> decide

/-- The packet of the units `l` with the count of unit `u`. -/
def countedPacket (s : State) (l : List Nat) (u : Nat) : List Byte :=
  let ip := (countSince s u).overflow || !s.pt.branchEn
  trigPacket ip true (trbv l s.draws) (if ip then 0 else (countSince s u).count)

theorem packets_retired (p : Pt) : p.retired.packets = p.packets := (congrArg Pt.packets p.retired_eq :)

/-- Where no unit asks for the count, a packet without one is added, and the counters go on. -/
theorem pt_emitAsked_nil (s : State) (l : List Nat) :
    (emitAsked s.ptRetired l []).pt =
      { s.pt.retired with packets := s.pt.packets ++ trigPacket false false (trbv l s.draws) 0 } := by
  rw [← packets_retired s.pt]
  rfl

/-- Where units ask for the count, that of the first of them is in the packet, and every counter starts again. -/
theorem pt_emitAsked_cons (s : State) (l rest : List Nat) (hu : u < 28) :
    (emitAsked s.ptRetired l (u :: rest)).pt =
      { s.pt.retired with packets := s.pt.packets ++ countedPacket s l u }.indicated := by
  have hbranch : s.pt.retired.branchEn = s.pt.branchEn := (congrArg Pt.branchEn s.pt.retired_eq :)
  rw [← packets_retired s.pt, countedPacket, ← Pt.counter_retired s hu, ← hbranch]
  rfl

theorem countAsked_iff (h : s.cfg = pre.cfg) (u : Nat) : countAsked pre s u = true ↔ Claims.asksCount pre s u := by
  rw [countAsked, h, Bool.and_eq_true, Bool.and_eq_true, and_assoc, Claims.asksCount]

theorem tracesTriggers_iff (s : State) :
    s.tracesTriggers = true ↔ s.pt.triggerEn = true ∧ s.pt.filterEn = true ∧ s.ptPaused = false := by
  rw [State.tracesTriggers, Bool.and_eq_true, Bool.and_eq_true, Bool.not_eq_true', and_assoc]

end Sys2Proof.Machine

namespace Sys2Proof.Claims

open Sys2Proof.Machine

/-- Settles O59: the units that fire, then the packet, then the actions. -/
theorem triggerUnits : Obligations.TriggerUnits := by
  intro pre s r hp hcfg l t on since
  obtain ⟨hframe, hmsr, hpause⟩ := runTriggers_frame (pre := pre) (r := r) hp
  have hpt : t.pt = (emitted pre s r).pt := pt_runTriggers hp
  have hon : on ↔ s.tracesTriggers = true ∧ l ≠ [] := by
    rw [tracesTriggers_iff, and_assoc, and_assoc]
  have hoff (h : ¬ on) : t.pt = s.pt.retired := by
    rw [hpt, emitted_of_untraced (mt hon.mpr h)]
    rfl
  have htraced (h : on) : t.pt = (emitAsked s.ptRetired l (l.filter (countAsked pre s))).pt := by
    rw [hpt, emitted_of_traced (hon.mp h).1 (hon.mp h).2]
  have hunasked (h : ∀ u ∈ l, ¬ asksCount pre s u) : l.filter (countAsked pre s) = [] :=
    List.filter_eq_nil_iff.mpr fun u hu => mt (countAsked_iff hcfg u).mp (h u hu)
  refine ⟨fun u hu => ?_, fun u i hu h15 hi => ?_, hframe, hmsr, hpause, ptPaused_runTriggers_of_none hp hcfg,
    fun u hu hone hlast => ptPaused_runTriggers_of_last hp hcfg hu hone hlast, fun h => ?_, fun h => ?_, fun h u hu => ?_, ?_⟩
  · obtain ⟨hlt, hfires⟩ := mem_firedUnits.mp hu
    have h15 := unitFires_enabled hfires
    refine ⟨hlt, h15, fun i hi => ⟨fun h8 => (unitFires_increment h15 hi h8).mp hfires,
      fun hlo hhi => (unitFires_overflow h15 hi hlo hhi).mp hfires,
      fun hlo hhi => ((unitFires_breakpoint h15 hi hlo hhi).mp hfires).1⟩⟩
  · refine ⟨fun h8 hc hb hr => ?_, fun hlo hhi hc hb hr => ?_, fun hlo hhi hb => ?_⟩
    · exact mem_firedUnits.mpr ⟨hu, (unitFires_increment h15 hi h8).mpr ⟨hc, hb, hr⟩⟩
    · exact mem_firedUnits.mpr ⟨hu, (unitFires_overflow h15 hi hlo hhi).mpr ⟨hc, hb, hr⟩⟩
    · rw [mem_firedUnits, unitFires_breakpoint h15 hi hlo hhi]
      exact ⟨fun h => h.2.2, fun h => ⟨hu, hb, h⟩⟩
  · rw [hoff h, packets_retired]
  · have hpacket := htraced h
    cases hf : l.filter (countAsked pre s) with
    | nil =>
      have hnone (u : Nat) (hu : u ∈ l) : ¬ asksCount pre s u :=
        mt (countAsked_iff hcfg u).mpr (List.filter_eq_nil_iff.mp hf u hu)
      rw [hf, pt_emitAsked_nil] at hpacket
      refine ⟨trigPacket false false (trbv l s.draws) 0, by rw [hpacket], rfl, fun u hu h8 => bitAt_trbv_of_mem _ hu h8,
        fun h8 u hu hbit => mem_of_bitAt_trbv h8 hu hbit, fun _ => ⟨rfl, rfl⟩, fun u hu hasks => absurd hasks (hnone u hu)⟩
    | cons w rest =>
      have hw : w ∈ l.filter (countAsked pre s) := hf ▸ .head _
      obtain ⟨hwl, hasked⟩ := List.mem_filter.mp hw
      rw [hf, pt_emitAsked_cons s l rest (lt_of_mem_firedUnits hwl)] at hpacket
      obtain ⟨hhead, hunits, hlen, hcount, hip, hzero, hdrop⟩ := trigPacket_counted
        ((countSince s w).overflow || !s.pt.branchEn) (trbv l s.draws)
        (if (countSince s w).overflow || !s.pt.branchEn then 0 else (countSince s w).count)
      refine ⟨countedPacket s l w, by rw [hpacket]; rfl, hhead, fun u hu h8 => ?_, fun h8 u hu hbit => ?_, fun hnone => ?_,
        fun u hu hasks hlow => ?_⟩
      · exact (congrArg (bitAt · u) hunits).trans (bitAt_trbv_of_mem _ hu h8)
      · exact mem_of_bitAt_trbv h8 hu ((congrArg (bitAt · u) hunits).symm.trans hbit)
      · exact absurd ((countAsked_iff hcfg w).mp hasked) (hnone w hwl)
      · obtain ⟨rest', hlowest⟩ := filter_eq_cons_of_lowest (firedUnits_ascending pre r s.draws) hu
          ((countAsked_iff hcfg u).mpr hasks) fun v hv hlt =>
            Bool.eq_false_of_not_eq_true (mt (countAsked_iff hcfg v).mp (hlow v hv hlt))
        obtain rfl : w = u := (List.cons.inj (hf.symm.trans hlowest)).1
        exact ⟨hlen, hcount, hip, hzero, hdrop, fun v => by rw [hpacket, Pt.counter_indicated]⟩
  · have hcounter : t.pt.counter u = s.pt.retired.counter u := by
      by_cases h' : on
      · rw [htraced h', hunasked (h.resolve_left (not_not_intro h')), pt_emitAsked_nil]
        rfl
      · rw [hoff h']
    exact hcounter.trans (Pt.counter_retired s hu)
  · rw [hpt, anchored_emitted]

end Sys2Proof.Claims
